-- ==== Sys2Proof/Word.lean ====
section
/-! DEFINITION. The word and the index types of the Orpaz 3260 (spec/00_scope.md, Conventions). -/

namespace Sys2Proof

/-- A word of the Rig Link, of a record or of Replay Memory: 16 bits (00_scope.md, Words). -/
abbrev Word := BitVec 16

/-- A channel number, C0 to C31. -/
abbrev Chan := Fin 32

/-- A scenario slot, S0 to S7. -/
abbrev SlotNo := Fin 8

/-- A watch, W0 to W7. -/
abbrev WatchNo := Fin 8

/-- A track, T0 to T7. -/
abbrev TrackNo := Fin 8

/-- A capture set, K0 or K1. -/
abbrev SetNo := Fin 2

/-- A counter id, 0 to 65 (R161). -/
abbrev CounterNo := Fin 66

end Sys2Proof
end

