-- ==== Sys2Proof/Syntax.lean ====
section
/-! DEFINITION. The commands of the Orpaz 3260: one constructor per row of spec/opcode_table.json. -/

namespace Sys2Proof

/-- Which of two events of one tick comes first: the Scenario Unit's own event of the tick (R99), or the fires and
requests that fall together with it. R110 gives both orders; the sender of a tick chooses (log 5). -/
inductive CountOrder where
  /-- The Scenario Unit takes the tick at once: it counts and acts within the tick's step. -/
  | countFirst
  /-- The slots' counts of this tick stand open after the tick's step, until a slot expiry or the next tick takes them. -/
  | eventsFirst
deriving DecidableEq, Repr

/-- One command of the block: a row of spec/opcode_table.json. The rows of frames taken at an end mark carry no field
of the frame: its words stand in the frame buffer (R1, R4; log 2). -/
inductive Instr where
  /-- WORD_RECEIVED (R1): the data word `w` arrives on the downstream line. -/
  | wordReceived (w : Word)
  /-- START_MARK (R1). -/
  | startMark
  /-- CODE_VIOLATION (R1). -/
  | codeViolation
  /-- FRAME_REJECTED (R2): an end mark arrives and the buffered frame fails a check. -/
  | frameRejected
  /-- SAMPLE_FRAME (R16): an end mark arrives and the buffered frame is a good SAMPLE frame, `elapsed` µs after the
  previous tick (R25; log 4). `order` is that of the tick the frame may make at once. -/
  | sampleFrame (elapsed : Nat) (order : CountOrder)
  /-- FILL_FRAME (R4). -/
  | fillFrame
  /-- UNKNOWN_REQUEST (R152). -/
  | unknownRequest
  /-- READ_RECORD (R154). -/
  | readRecord
  /-- WRITE_RECORD_CHANNEL (R34). -/
  | writeRecordChannel
  /-- WRITE_RECORD_SLOTMAP (R18). -/
  | writeRecordSlotmap
  /-- WRITE_RECORD_OVERLAY (R50). -/
  | writeRecordOverlay
  /-- WRITE_RECORD_BLOCK (R89). -/
  | writeRecordBlock
  /-- WRITE_RECORD_EPISODE (R89). -/
  | writeRecordEpisode
  /-- WRITE_RECORD_WATCH (R113). -/
  | writeRecordWatch
  /-- WRITE_RECORD_TRACK (R127). -/
  | writeRecordTrack
  /-- WRITE_RECORD_CAPTURE (R142). -/
  | writeRecordCapture
  /-- WRITE_RECORD_SETUP (R158). -/
  | writeRecordSetup
  /-- READ_MEMORY (R124). -/
  | readMemory
  /-- WRITE_MEMORY (R124). -/
  | writeMemory
  /-- SET_STANDING (R55). -/
  | setStanding
  /-- PATCH (R56). -/
  | patch
  /-- SET_VIEWS (R22). -/
  | setViews
  /-- CHANNEL_STATUS (R88). -/
  | channelStatus
  /-- ARM_SLOT (R95). -/
  | armSlot
  /-- ABORT_SLOT (R107). -/
  | abortSlot
  /-- CLEAR_SLOT (R106). -/
  | clearSlot
  /-- SLOT_STATUS (R93). -/
  | slotStatus
  /-- SLOT_SUMMARY (R93). -/
  | slotSummary
  /-- RESET_SCENARIOS (R108). -/
  | resetScenarios
  /-- PLAY_TRACK (R136). -/
  | playTrack
  /-- STOP_TRACK (R137). -/
  | stopTrack
  /-- APPEND_TRACK (R135). -/
  | appendTrack
  /-- TRACK_STATUS (R139). -/
  | trackStatus
  /-- ARM_CAPTURE (R143). -/
  | armCapture
  /-- STOP_CAPTURE (R149). -/
  | stopCapture
  /-- CAPTURE_STATUS (R150). -/
  | captureStatus
  /-- REARM_WATCH (R121). -/
  | rearmWatch
  /-- READ_HITS (R122). -/
  | readHits
  /-- READ_COUNTERS (R162). -/
  | readCounters
  /-- LOAD_COUNTER (R163). -/
  | loadCounter
  /-- READ_EVENTS (R166). -/
  | readEvents
  /-- RESET_DEVICE (R159). -/
  | resetDevice
  /-- FRAME_TIMER_EXPIRY (R23): the interval in progress ends. -/
  | frameTimerExpiry (order : CountOrder)
  /-- HELD_TICK_RELEASE (R25): 5 µs have passed since the previous tick and a held arrival tick occurs. -/
  | heldTickRelease (order : CountOrder)
  /-- DELIVERY_COMPLETE (R45): the latch strobe of a tick's delivery. -/
  | deliveryComplete
  /-- FLOW_LIVE (R29): the fresh run has reached K at the tick being taken. -/
  | flowLive
  /-- FLOW_STARVED (R30): the stale run has reached S at the tick being taken. -/
  | flowStarved
  /-- STARVE_TIMER_EXPIRY (R26). -/
  | starveTimerExpiry
  /-- TRACK_SPAN_END (R131, R133): the phase of track `t` has reached its divider. -/
  | trackSpanEnd (t : Nat)
  /-- WATCH_FIRE (R119): the fire of watch `w` computed from the latest tick is taken. -/
  | watchFire (w : Nat)
  /-- SLOT_DELAY_EXPIRY (R96): the latest tick brings the delay of slot `n` to 0. -/
  | slotDelayExpiry (n : Nat)
  /-- ENTRY_DURATION_EXPIRY (R101): the latest tick brings the ticks left of slot `n`'s entry to 0. -/
  | entryDurationExpiry (n : Nat)
  /-- CAPTURE_RECORD_DUE (R145): the record due of set `k` is taken or dropped. -/
  | captureRecordDue (k : Nat)
  /-- CAPTURE_LENGTH_REACHED (R147): the records due of set `k` equal its length. -/
  | captureLengthReached (k : Nat)
  /-- UPSTREAM_FRAME_END (R9): the end mark of the frame on the upstream line is sent. -/
  | upstreamFrameEnd
  /-- RESET_N_ASSERT (R14). -/
  | resetNAssert
  /-- INIT_START (R43): power-up, or the release of RESET_N. -/
  | initStart
  /-- INIT_END (R167): the memories are cleared. -/
  | initEnd
  /-- SAFE_N_ASSERT (R45): SAFE_N is taken as asserted. -/
  | safeNAssert
  /-- SAFE_N_RELEASE (R47): SAFE_N is taken as released. -/
  | safeNRelease
  /-- SAFE_DELIVERY_COMPLETE (R45): the latch strobe of the safe delivery. -/
  | safeDeliveryComplete
deriving DecidableEq, Repr

end Sys2Proof
end

