-- ==== Sys2Proof/Decode.lean ====
section
/-! DEFINITION. The command a table word spells. No row of spec/opcode_table.json gives bits, so no word spells one. -/

namespace Sys2Proof

/-- The command whose table bits are `w`. The table gives every row an empty list of fields and no fixed bits
(98_reader.md, n_rows_with_fixed 0), so the answer is none for every word (log 22). -/
def decodeTableWord (_nbits _w : Nat) : Option Instr := none

end Sys2Proof
end

