-- ==== Sys2Proof/Config.lean ====
section
/-! DEFINITION. What the 3260 fixes (sizes of its memories and queues), and the two free values. -/

namespace Sys2Proof

/-- Replies the reply queue holds at most (R6). -/
abbrev Config.replyRoom : Nat := 4

/-- Words the frame buffer holds at most (R1). -/
abbrev Config.bufferRoom : Nat := 64

/-- Contexts a channel's stack holds at most (R73). -/
abbrev Config.stackRoom : Nat := 4

/-- Data words a MANAGE or REPLY frame carries at most (R3, R8). -/
abbrev Config.dataRoom : Nat := 32

/-- Words of a capture half (9.1). -/
abbrev Config.halfRoom : Nat := 1024

/-- Values a CAPTURE frame carries at most (R12, R13). -/
abbrev Config.frameRoom : Nat := 64

/-- Entries of the Episode Store (R89). -/
abbrev Config.entries : Nat := 1024

/-- Blocks of Scenario Memory (R89). -/
abbrev Config.blocks : Nat := 128

/-- Words of Replay Memory (R124). -/
abbrev Config.replayWords : Nat := 65536

/-- The minimum tick spacing, in microseconds (R25). -/
abbrev Config.spacing : Nat := 5

/-- FREE VALUE (log 8). How many output words of the delivery in progress have gone out when a command meets it: the
spec gives the order of the words and a bound on the whole delivery (R41), not the moment of each word.
The machine applies it to `State.freeIx`; nothing is known of its values. -/
opaque Config.wordsOut : Nat → Nat

/-- FREE VALUE (log 28). Word 7 of CAPTURE STATUS for a length that is not 0 and lies below the records due, which a write
of the record of an IDLE set can bring about (R142): length minus records due is then below 0, and R150 states no word
for it. It depends on the length and the records due. -/
opaque Config.recordsLeftBelowZero : Nat → Nat → BitVec 16

end Sys2Proof
end

