-- ==== Sys2Proof/Machine/State.lean ====
section
/-! DEFINITION. The state of the Orpaz 3260, unit by unit (spec/00_scope.md, Block diagram), and its state after reset. -/

namespace Sys2Proof.Machine

/-! ### The enumerated values of records, states and replies (12.4, 12.5) -/

/-- Where the part stands in power-on (00_scope.md, Resets; R5, R14, R43). -/
inductive Phase where
  | held | init | running
deriving DecidableEq, Repr

/-- Framing state of the Link Receiver (R1). -/
inductive Framing where
  | hunt | frame
deriving DecidableEq, Repr

/-- The status of a reply (00_scope.md, Statuses). -/
inductive Status where
  | ok | part | busy | held | range | duplicate | overlap | noTable | noIndex | emptyList | listBounds
  | channelOff | badPartner | safe | unknown
deriving DecidableEq, Repr

/-- The sample-flow state (R27). -/
inductive Flow where
  | waiting | live | starved | recovering
deriving DecidableEq, Repr

/-- A change of flow that the tick being taken has reached and not yet made (log 7). -/
inductive FlowChange where
  | toLive | toStarved
deriving DecidableEq, Repr

/-- Where ticks come from (10.4). -/
inductive TickSource where
  | lcl | paced
deriving DecidableEq, Repr

/-- A channel's source (3.1). -/
inductive Source where
  | live | code | track (t : TrackNo)
deriving DecidableEq, Repr

/-- A channel's starve policy (3.1). -/
inductive StarvePolicy where
  | hold | code | safe
deriving DecidableEq, Repr

/-- The kind of an Overlay Record (4.1). -/
inductive OverlayKind where
  | pass | fixed | freeze | scale | ramp | track | gap | coarse
deriving DecidableEq, Repr

/-- A pin condition (4.1, R41). -/
inductive PinCondition where
  | none | opened | toGround | toSupply | toPartner
deriving DecidableEq, Repr

/-- The four fields a patch reaches (R21, R56). -/
inductive PatchField where
  | gain | offset | hold | step
deriving DecidableEq, Repr

/-- The start field of a Scenario Block (6.1). -/
inductive StartKind where
  | now | delay | onFire
deriving DecidableEq, Repr

/-- The end action of a Scenario Block (6.1). -/
inductive EndAction where
  | restore | adopt
deriving DecidableEq, Repr

/-- The state of a slot (6.2). -/
inductive SlotState where
  | idle | armed | waiting | running | suspended | faulted
deriving DecidableEq, Repr

/-- The fault code of a slot (R105). -/
inductive FaultCode where
  | noFault | zeroDuration | emptyList | listBounds | channelOff | badPartner
deriving DecidableEq, Repr

/-- The tap a watch or a capture set reads (R40). -/
inductive Tap where
  | input | output
deriving DecidableEq, Repr

/-- The mode of a watch (R116). -/
inductive WatchMode where
  | above | below | inside | outside | pattern | miss
deriving DecidableEq, Repr

/-- The rearm field of a watch (7.1). -/
inductive Rearm where
  | oneShot | every
deriving DecidableEq, Repr

/-- The store field of a watch (7.1). -/
inductive StoreMode where
  | compareOnly | compareStore
deriving DecidableEq, Repr

/-- The mode of a track (8.2). -/
inductive TrackMode where
  | stored | fed
deriving DecidableEq, Repr

/-- The state of a track (8.3). -/
inductive TrackState where
  | stopped | playing | ended | underrun
deriving DecidableEq, Repr

/-- The state of a capture set (9.2). -/
inductive CaptureState where
  | idle | armed | recording | overrun | draining
deriving DecidableEq, Repr

/-- The state of a capture half (9.1). -/
inductive HalfState where
  | vacant | filling | full
deriving DecidableEq, Repr

/-- The two halves of a capture set (9.1). -/
inductive HalfName where
  | a | b
deriving DecidableEq, Repr

/-! ### Memories -/

/-- An addressed store of words: (address, word) pairs, addresses strictly rising, no word 0. An address that is not
listed reads 0, as the store reads after INIT has cleared it (R89, R124; log 23). -/
abbrev Mem := List (Nat × Word)

/-! ### The Link Receiver and the Link Transmitter (chapter 1) -/

/-- The Link Receiver (R1, R5). -/
structure Receiver where
  framing : Framing
  /-- The frame buffer, in arrival order. -/
  buffer : List Word
  /-- The expected sequence number, none while unset (R15). -/
  expected : Option Word
deriving DecidableEq, Repr

/-- A reply in the reply queue (R8). -/
structure Reply where
  tag : BitVec 8
  status : Status
  data : List Word
deriving DecidableEq, Repr

/-- An upstream frame with its contents, fixed when its transmission begins (1.4). -/
inductive UpFrame where
  | reply (r : Reply)
  | report (summary : BitVec 8) (tick : BitVec 32)
  | capture (k : SetNo) (half : HalfName) (firstSeq : Word) (firstTick : BitVec 32) (channels : Nat)
      (records : List (List Word))
  | idle
deriving DecidableEq, Repr

/-- An entry of the capture drain queue (R12). -/
structure DrainEntry where
  set : SetNo
  half : HalfName
  sent : Nat
deriving DecidableEq, Repr

/-- The Link Transmitter (R6 to R14). -/
structure Transmitter where
  /-- The reply queue, oldest first. -/
  replies : List Reply
  /-- The report request. -/
  report : Bool
  /-- The capture drain queue, head first. -/
  drain : List DrainEntry
  /-- The frame on the upstream line; none while RESET_N is asserted. -/
  line : Option UpFrame
  /-- Whether the end of the CAPTURE frame on the line advances the sent count of the head half (R12). -/
  lineCounts : Bool
deriving DecidableEq, Repr

/-! ### Sample Ingress and the Frame Timer (chapter 2) -/

/-- Sample Ingress (R15 to R22, R27). -/
structure Ingress where
  /-- The Slot Map: none is UNMAPPED. -/
  slotMap : Vector (Option Chan) 32
  /-- The held sample set. -/
  held : Vector Word 32
  view0 : Nat
  view1 : Nat
  flow : Flow
  staleRun : Nat
  freshRun : Nat
  fresh : Bool
  /-- The change of flow the tick being taken has reached and not yet made (log 7). -/
  flowDue : Option FlowChange
deriving DecidableEq, Repr

/-- The Frame Timer and the starve timer (R23 to R26). -/
structure FrameTimer where
  /-- The length in µs of the interval in progress, none while the timer is stopped. -/
  interval : Option Nat
  /-- An arrival tick is held. -/
  heldTick : Bool
  /-- The length in µs the running starve timer was started with, none while it is stopped. -/
  starve : Option Nat
  /-- The tick counter. -/
  ticks : BitVec 32
deriving DecidableEq, Repr

/-! ### Channels and contexts (chapters 3 to 5) -/

/-- A Channel Record (3.1). -/
structure ChannelRecord where
  enabled : Bool
  source : Source
  /-- The track bits of a record whose source is not a track, stored as written (R156; log 12). -/
  spare : Fin 16
  insert : Word
  lo : Word
  hi : Word
  trim : Word
  safeValue : Word
  starve : StarvePolicy
deriving DecidableEq, Repr

/-- An Overlay Record (4.1): fifteen fields. -/
structure OverlayRecord where
  kind : OverlayKind
  gain : Word
  offset : Word
  hold : Word
  step : Word
  limit : Nat
  track : TrackNo
  cue : Bool
  gapOn : Nat
  gapOff : Nat
  coarse : Nat
  pin : PinCondition
  partner : Chan
  duty : Word
  patternLength : Nat
deriving DecidableEq, Repr

/-- A context: a working copy of an Overlay Record with its owner, priority and run state (4.2). -/
structure Context where
  fields : OverlayRecord
  /-- The owning slot; none is BASE. -/
  owner : Option SlotNo
  /-- −1 for BASE, 0 to 7 for a slot. -/
  priority : Int
  /-- The drift accumulator D, in units of 1/256 code. -/
  drift : Int
  gapPhase : Nat
  /-- The gap held value; none until the context first becomes active (R53). -/
  gapHeld : Option Int
  patternIndex : Nat
  /-- The freeze value F; none until the context first becomes active (R53). -/
  freeze : Option Int
deriving DecidableEq, Repr

/-- A slot in a waiting set, with the priority latched from its block (5.1). -/
structure Waiter where
  slot : SlotNo
  priority : Nat
deriving DecidableEq, Repr

/-- A channel in the Overlay Engine and the Ownership Unit (4.2, 5.1). -/
structure Ownership where
  base : Context
  /-- The owning slot's context; none when the owner is BASE and the base context is the active one. -/
  active : Option Context
  /-- The context stack, TOP FIRST. -/
  stack : List Context
  /-- The waiting set, in ascending slot number. -/
  waiting : List Waiter
deriving DecidableEq, Repr

/-- The Channel Table (3.1). -/
structure ChannelTable where
  records : Vector ChannelRecord 32
  /-- L, the last transform value of each channel. -/
  last : Vector Int 32
deriving DecidableEq, Repr

/-- An output word: value and pin condition (R41). -/
structure OutWord where
  value : Word
  cond : PinCondition
deriving DecidableEq, Repr

/-- A delivery of the Output Port in progress (R41, R42, R45). -/
structure Delivery where
  /-- The safe delivery of R45, or a tick's. -/
  safe : Bool
  words : Vector OutWord 32
  /-- Channels whose word is followed by a partner designation, with the partner. -/
  designations : List (Chan × Chan)
  /-- Words known to have gone out, in channel order (log 8). -/
  sent : Nat
deriving DecidableEq, Repr

/-- The Output Port (R41 to R45). -/
structure Port where
  /-- The output word set. -/
  set : Vector OutWord 32
  /-- The set the last latch strobe applied (log 26). -/
  latched : Vector OutWord 32
  sending : Option Delivery
  /-- The safe delivery that follows the tick's delivery in progress (R45). -/
  safeNext : Option (Vector OutWord 32)
deriving DecidableEq, Repr

/-! ### The Scenario Unit (chapter 6) -/

/-- A Scenario Block as R90 decodes it. -/
structure Block where
  target : Chan
  priority : Nat
  start : StartKind
  watch : WatchNo
  delay : Nat
  listStart : Nat
  listCount : Nat
  passes : Nat
  endAction : EndAction
  next : Option Nat
deriving DecidableEq, Repr

/-- An Episode Entry as R90 decodes it. -/
structure Entry where
  overlay : Fin 256
  duration : Nat
  endWatch : Option WatchNo
deriving DecidableEq, Repr

/-- A scenario slot: its status record (R92), the block and end watch it latched (R91, R97), and whether it still has
the latest tick to count (R99; log 5). -/
structure Slot where
  state : SlotState
  block : Nat
  latch : Block
  entryIndex : Nat
  entriesLeft : Nat
  passesLeft : Nat
  ticksLeft : Nat
  delayLeft : Nat
  awaiting : Bool
  fault : FaultCode
  entryAtFault : Option Nat
  endWatch : Option WatchNo
  counts : Bool
deriving DecidableEq, Repr

/-- The Scenario Unit (R89, R92). -/
structure ScenarioUnit where
  slots : Vector Slot 8
  /-- Scenario Memory: block b at addresses 5·b to 5·b + 4. -/
  blocks : Mem
  /-- The Episode Store: entry e at addresses 2·e and 2·e + 1. -/
  entries : Mem
deriving DecidableEq, Repr

/-! ### The Watch Unit (chapter 7) -/

/-- A Watch Record (7.1). -/
structure WatchRecord where
  enabled : Bool
  tap : Tap
  mode : WatchMode
  rearm : Rearm
  store : StoreMode
  report : Bool
  channel : Chan
  persistence : Nat
  t1 : Word
  t2 : Word
  mask : Word
  compare : Word
deriving DecidableEq, Repr

/-- A watch: its record and run state (7.1), and the fire of the latest tick not yet taken (R119; log 6). -/
structure Watch where
  record : WatchRecord
  count : Nat
  latched : Bool
  spent : Bool
  lastValue : Word
  lastTick : BitVec 32
  fire : Option Word
deriving DecidableEq, Repr

/-- The Watch Unit (R111, R119). -/
structure WatchUnit where
  watches : Vector Watch 8
  hits : BitVec 8
deriving DecidableEq, Repr

/-! ### The Replay Unit (chapter 8) -/

/-- A Track Descriptor (8.2). -/
structure TrackDescriptor where
  mode : TrackMode
  loop : Bool
  interpolate : Bool
  base : Nat
  size : Nat
  divider : Nat
deriving DecidableEq, Repr

/-- A track: its descriptor and run state (8.3). -/
structure Track where
  desc : TrackDescriptor
  state : TrackState
  playhead : Nat
  phase : Nat
  readPoint : Nat
  writePoint : Nat
  fill : Nat
  presented : Word
deriving DecidableEq, Repr

/-- The Replay Unit (R124, R125). -/
structure ReplayUnit where
  mem : Mem
  tracks : Vector Track 8
deriving DecidableEq, Repr

/-! ### The Capture Unit (chapter 9) -/

/-- A Capture Set record (9.1). `list` holds the eight list words as stored (R169). -/
structure CaptureRecord where
  channels : Nat
  tap : Tap
  start : Option WatchNo
  stop : Option WatchNo
  decimation : Nat
  length : Nat
  list : Vector Word 8
deriving DecidableEq, Repr

/-- A half of a capture set (9.1), its records oldest first. -/
structure Half where
  state : HalfState
  firstTick : BitVec 32
  /-- Sequence number of the half's first record (R13; log 20). -/
  firstSeq : Word
  records : List (List Word)
deriving DecidableEq, Repr

/-- A capture set: its record and run state (9.1), and the record due at the tick being taken (log 7). -/
structure CaptureSet where
  record : CaptureRecord
  state : CaptureState
  halfA : Half
  halfB : Half
  nextSeq : Word
  recordsDue : Nat
  ticksToNext : Nat
  due : Option (List Word)
deriving DecidableEq, Repr

/-! ### Setup, counters and events (chapters 10 and 11) -/

/-- The Setup record (10.4). -/
structure Setup where
  source : TickSource
  hold : Bool
  period : Nat
  starve : Nat
  staleLimit : Nat
  recovery : Nat
  expected : Nat
  /-- Bit c masks category c. -/
  masks : BitVec 8
deriving DecidableEq, Repr

/-- The Event and Counter Unit (R161, R164). -/
structure EventUnit where
  counters : Vector Word 66
  /-- Detail flag f is bit f (R170). -/
  flags : BitVec 123
  /-- Category c is bit c (12.4). -/
  summary : BitVec 8
deriving DecidableEq, Repr

/-- SAFE_N (R44). -/
structure SafeLine where
  /-- The 3260 takes the line as asserted. -/
  asserted : Bool
  /-- The line stands low. -/
  low : Bool
deriving DecidableEq, Repr

/-- The whole machine. -/
structure State where
  phase : Phase
  rx : Receiver
  tx : Transmitter
  ingress : Ingress
  timer : FrameTimer
  channels : ChannelTable
  bank : Vector OverlayRecord 256
  own : Vector Ownership 32
  scenario : ScenarioUnit
  watch : WatchUnit
  replay : ReplayUnit
  capture : Vector CaptureSet 2
  setup : Setup
  events : EventUnit
  port : Port
  safe : SafeLine
  /-- The MODEL's own: how many free values have been read (log 8). -/
  freeIx : Nat
  /-- The MODEL's own: the commands that wait, first in, first out. -/
  pending : List Instr
deriving DecidableEq, Repr

/-- Why a command stops the machine. -/
inductive Fault where
  /-- The command's operand names a track, watch, slot or set that does not exist (log 24). Raised by TRACK_SPAN_END,
  WATCH_FIRE, SLOT_DELAY_EXPIRY, ENTRY_DURATION_EXPIRY, CAPTURE_RECORD_DUE and CAPTURE_LENGTH_REACHED on an operand
  out of range. Safe: no such event exists. -/
  | noSuchObject
deriving DecidableEq, Repr

/-- Why the model gives a command no meaning. -/
inductive Refusal where
  /-- Raised by an arm of `exec` whose command has no meaning yet. Safe. -/
  | notModelled (mnemonic : String)
deriving DecidableEq, Repr

/-! ### Defaults -/

/-- The default Channel Record (R33). -/
def ChannelRecord.initial : ChannelRecord :=
  { enabled := false, source := .live, spare := 0, insert := 0, lo := 0x8000#16, hi := 0x7FFF#16, trim := 0,
    safeValue := 0, starve := .safe }

/-- The default Overlay Record (R49). -/
def OverlayRecord.initial : OverlayRecord :=
  { kind := .pass, gain := 4096#16, offset := 0, hold := 0, step := 0, limit := 0, track := 0, cue := false,
    gapOn := 1, gapOff := 1, coarse := 1, pin := .none, partner := 0, duty := 1, patternLength := 1 }

/-- A base context of PASS with fresh run state whose F and gap held value are `L` (R54). -/
def Context.standing (L : Int) : Context :=
  { fields := OverlayRecord.initial, owner := none, priority := -1, drift := 0, gapPhase := 0, gapHeld := some L,
    patternIndex := 0, freeze := some L }

/-- A channel after power-on (R54, R72). -/
def Ownership.initial : Ownership :=
  { base := Context.standing 0, active := none, stack := [], waiting := [] }

/-- The latched block fields of a slot that holds no block: each reads 0 (R92). -/
def Block.zero : Block :=
  { target := 0, priority := 0, start := .now, watch := 0, delay := 0, listStart := 0, listCount := 0, passes := 0,
    endAction := .restore, next := none }

/-- An IDLE slot: every field reads 0, awaiting no, codes NONE (R92). -/
def Slot.idle : Slot :=
  { state := .idle, block := 0, latch := Block.zero, entryIndex := 0, entriesLeft := 0, passesLeft := 0,
    ticksLeft := 0, delayLeft := 0, awaiting := false, fault := .noFault, entryAtFault := none, endWatch := none,
    counts := false }

/-- The default Watch Record (R111). -/
def WatchRecord.initial : WatchRecord :=
  { enabled := false, tap := .input, mode := .above, rearm := .every, store := .compareOnly, report := false,
    channel := 0, persistence := 1, t1 := 0, t2 := 0, mask := 0, compare := 0 }

/-- A watch with its run state cleared (R113, R123). -/
def Watch.cleared (r : WatchRecord) : Watch :=
  { record := r, count := 0, latched := false, spent := false, lastValue := 0, lastTick := 0, fire := none }

/-- The default descriptor of track t (R125). -/
def TrackDescriptor.initial (t : TrackNo) : TrackDescriptor :=
  { mode := .stored, loop := false, interpolate := false, base := 8192 * t.val, size := 8192, divider := 1 }

/-- A track with its run state reset (R127, R128). -/
def Track.cleared (d : TrackDescriptor) : Track :=
  { desc := d, state := .stopped, playhead := 0, phase := 0, readPoint := d.base, writePoint := d.base, fill := 0,
    presented := 0 }

/-- The default Capture Set record (R141). -/
def CaptureRecord.initial : CaptureRecord :=
  { channels := 1, tap := .output, start := none, stop := none, decimation := 1, length := 0,
    list := Vector.replicate 8 0 }

/-- An EMPTY half with its record count and first tick 0 (R141). -/
def Half.cleared : Half := { state := .vacant, firstTick := 0, firstSeq := 0, records := [] }

/-- A capture set with its run state reset (R141). -/
def CaptureSet.cleared (r : CaptureRecord) : CaptureSet :=
  { record := r, state := .idle, halfA := Half.cleared, halfB := Half.cleared, nextSeq := 0, recordsDue := 0,
    ticksToNext := 0, due := none }

/-- The default Setup record (R157). -/
def Setup.initial : Setup :=
  { source := .lcl, hold := false, period := 1000, starve := 2000, staleLimit := 8, recovery := 4, expected := 32,
    masks := 0 }

/-- The word of a disabled channel with the default record: value 0, condition OPEN (R43). -/
def OutWord.initial : OutWord := { value := 0, cond := .opened }

/-- Sample Ingress after power-on (R18, R19, R22, R27). -/
def Ingress.initial : Ingress :=
  { slotMap := Vector.ofFn fun i => some i, held := Vector.replicate 32 0, view0 := 0, view1 := 8, flow := .waiting,
    staleRun := 0, freshRun := 0, fresh := false, flowDue := none }

/-- The Output Port with the INIT set delivered (R43). -/
def Port.initial : Port :=
  { set := Vector.replicate 32 OutWord.initial, latched := Vector.replicate 32 OutWord.initial, sending := none,
    safeNext := none }

/-- The machine after power-on, at the end of INIT, with SAFE_N released (log 9): READY is raised, the START category
is pending, the report request is set and the IDLE frame of INIT is on the line (R14, R167). -/
def State.reset : State :=
  { phase := .running
    rx := { framing := .hunt, buffer := [], expected := none }
    tx := { replies := [], report := true, drain := [], line := some .idle, lineCounts := false }
    ingress := Ingress.initial
    timer := { interval := some 1000, heldTick := false, starve := none, ticks := 0 }
    channels := { records := Vector.replicate 32 ChannelRecord.initial, last := Vector.replicate 32 0 }
    bank := Vector.replicate 256 OverlayRecord.initial
    own := Vector.replicate 32 Ownership.initial
    scenario := { slots := Vector.replicate 8 Slot.idle, blocks := [], entries := [] }
    watch := { watches := Vector.replicate 8 (Watch.cleared WatchRecord.initial), hits := 0 }
    replay := { mem := [], tracks := Vector.ofFn fun t => Track.cleared (TrackDescriptor.initial t) }
    capture := Vector.replicate 2 (CaptureSet.cleared CaptureRecord.initial)
    setup := Setup.initial
    events := { counters := Vector.replicate 66 0, flags := 1, summary := 1 }
    port := Port.initial
    safe := { asserted := false, low := false }
    freeIx := 0
    pending := [] }

end Sys2Proof.Machine
end

