-- ==== Sys2Proof/Machine/Operands.lean ====
section
/-! DEFINITION. The words of frames: bit fields, the CRC-16, and what a downstream frame's words say (R2, R3, R168, 12.1 to
12.3). -/

namespace Sys2Proof.Machine

/-! ### Bit fields -/

/-- The unsigned field of `len` bits of `w` whose lowest bit is bit `lo` (12, first paragraph). -/
def bits (w : Word) (lo len : Nat) : Nat := w.toNat / 2 ^ lo % 2 ^ len

/-- The word of value `n`, taken modulo 65536. -/
def word (n : Nat) : Word := BitVec.ofNat 16 n

/-- The two words of a 32-bit quantity, most-significant word first (00_scope.md, Words). -/
def words32 (x : BitVec 32) : List Word := [word (x.toNat / 65536), word x.toNat]

/-- Yes and no are coded 1 and 0 (12.4). -/
def flagCode (b : Bool) : Nat := if b then 1 else 0

/-- The yes/no field coded by `n`, none for a code that is neither (R169). -/
def flagOf? (n : Nat) : Option Bool :=
  if n = 0 then some false else if n = 1 then some true else none

/-- The object numbered `i` among `n`, none if there is none. -/
def index? (n i : Nat) : Option (Fin n) := if h : i < n then some ⟨i, h⟩ else none

/-! ### The check word (R168) -/

/-- One bit through the CRC register: shift toward bit 15, and combine with 4129 if the bit shifted out differs from
the data bit. -/
def crcBit (reg : Word) (bit : Bool) : Word :=
  if reg.msb != bit then (reg <<< 1) ^^^ 4129#16 else reg <<< 1

/-- One word through the CRC register, bit 15 first. -/
def crcWord (reg w : Word) : Word :=
  (List.range 16).foldl (fun r i => crcBit r (w.getLsbD (15 - i))) reg

/-- The check word of the words before it; the register starts at 65535. -/
def crc16 (ws : List Word) : Word := ws.foldl crcWord 65535#16

/-! ### Downstream frames -/

/-- A patch word: view, offset, field and value (12.2). -/
structure PatchWord where
  view1 : Bool
  offset : Fin 8
  field : PatchField
  value : Word
deriving DecidableEq, Repr

/-- A SAMPLE frame's fields (1.2). -/
structure SampleFrame where
  seq : Word
  samples : List Word
  patches : List PatchWord
deriving DecidableEq, Repr

/-- A MANAGE frame's fields (1.2). -/
structure Request where
  tag : BitVec 8
  code : Nat
  object : Nat
  index : Nat
  count : Nat
  data : List Word
deriving DecidableEq, Repr

/-- What the Link Receiver makes of a buffered frame at its end mark (R2, R4). -/
inductive TakenFrame where
  /-- Check 2 fails: counted in CRC_ERRORS. -/
  | crcError
  /-- Check 1, 3 or 4 fails: counted in BAD_FRAMES. -/
  | badFrame
  | sample (f : SampleFrame)
  | manage (r : Request)
  | fill
deriving DecidableEq, Repr

/-- The field a patch word or a PATCH names by code, 0 to 3 (12.2). -/
def patchField? (n : Nat) : Option PatchField :=
  if n = 0 then some .gain else if n = 1 then some .offset else if n = 2 then some .hold
  else if n = 3 then some .step else none

/-- The patch word of two words on the line (12.2). The field is two bits wide, so every code names one. -/
def patchWordOf (w1 w2 : Word) : PatchWord :=
  { view1 := w1.msb
    offset := ⟨bits w1 12 3, Nat.mod_lt _ (by decide)⟩
    field := (patchField? (bits w1 10 2)).getD .gain
    value := w2 }

/-- The patch words of a list of words, two words each. -/
def patchWordsOf : List Word → List PatchWord
  | w1 :: w2 :: ws => patchWordOf w1 w2 :: patchWordsOf ws
  | _ => []

/-- The SAMPLE frame of the words between header and check word, with `n` sample words (12.2). -/
def sampleOf (n : Nat) (body : List Word) : SampleFrame :=
  { seq := body.headD 0
    samples := body.tail.take n
    patches := patchWordsOf (body.tail.drop n) }

/-- The MANAGE frame of the words between header and check word (12.2). -/
def requestOf (body : List Word) : Request :=
  { tag := BitVec.ofNat 8 (bits (body.getD 0 0) 8 8)
    code := bits (body.getD 0 0) 0 8
    object := (body.getD 1 0).toNat
    index := (body.getD 2 0).toNat
    count := (body.getD 3 0).toNat
    data := body.drop 4 }

/-- Checks 3 and 4 of R2 on a header and the words between it and the check word (R3). -/
def sortFrame (hdr : Word) (body : List Word) : TakenFrame :=
  let n := bits hdr 6 6
  let p := bits hdr 3 3
  if bits hdr 12 4 = 1 then
    if 1 ≤ n ∧ n ≤ 32 ∧ p ≤ 4 ∧ body.length = 1 + n + 2 * p then .sample (sampleOf n body) else .badFrame
  else if bits hdr 12 4 = 2 then
    if n ≤ Config.dataRoom ∧ body.length = 4 + n then .manage (requestOf body) else .badFrame
  else if bits hdr 12 4 = 3 then
    if body.length = 0 then .fill else .badFrame
  else .badFrame

/-- The four ordered checks of R2 on the buffered words. -/
def takeFrame (buf : List Word) : TakenFrame :=
  if buf.length < 2 then .badFrame
  else if buf.getLastD 0 ≠ crc16 buf.dropLast then .crcError
  else sortFrame (buf.headD 0) buf.dropLast.tail

/-! ### Upstream frames (12.3, R13) -/

/-- The status codes of 12.3. -/
def Status.code : Status → Nat
  | .ok => 0 | .part => 1 | .busy => 2 | .held => 3 | .range => 4 | .duplicate => 5 | .overlap => 6 | .noTable => 7
  | .noIndex => 8 | .emptyList => 9 | .listBounds => 10 | .channelOff => 11 | .badPartner => 12 | .safe => 13
  | .unknown => 14

/-- Header and body of an upstream frame. -/
def UpFrame.content : UpFrame → List Word
  | .reply r => word (9 * 4096 + r.data.length * 64) :: word (r.tag.toNat * 256 + r.status.code) :: r.data
  | .report summary tick => word (10 * 4096) :: word summary.toNat :: words32 tick
  | .capture k half seq tick n records =>
    word (11 * 4096)
      :: word (k.val * 32768 + (if half = .b then 16384 else 0) + n * 1024 + records.length)
      :: seq :: (words32 tick ++ records.flatten)
  | .idle => [word (12 * 4096)]

/-- Every word of an upstream frame on the line, its check word last (R168). -/
def UpFrame.onLine (f : UpFrame) : List Word := f.content ++ [crc16 f.content]

/-! ### Sending a frame, as commands -/

/-- The commands by which a downstream frame of header and body `content` arrives: a start mark, each word, the check
word, and `last`, the row the end mark makes of it. -/
def frameCommands (content : List Word) (last : Instr) : List Instr :=
  .startMark :: ((content ++ [crc16 content]).map .wordReceived ++ [last])

/-- Header and body of a MANAGE frame (12.2). -/
def Request.content (r : Request) : List Word :=
  word (2 * 4096 + r.data.length * 64) :: word (r.tag.toNat * 256 + r.code) :: word r.object :: word r.index
    :: word r.count :: r.data

/-- A request whose fields fit their places in a MANAGE frame (12.2). -/
def Request.Fits (r : Request) : Prop :=
  r.code < 256 ∧ r.object < 65536 ∧ r.index < 65536 ∧ r.count < 65536 ∧ r.data.length ≤ Config.dataRoom

/-- The code of a patch word's field (12.2). -/
def PatchField.num : PatchField → Nat
  | .gain => 0 | .offset => 1 | .hold => 2 | .step => 3

/-- The two words of a patch word (12.2). -/
def PatchWord.words (p : PatchWord) : List Word :=
  [word (flagCode p.view1 * 32768 + p.offset.val * 4096 + p.field.num * 1024), p.value]

/-- Header and body of a SAMPLE frame (12.2). -/
def SampleFrame.content (f : SampleFrame) : List Word :=
  word (4096 + f.samples.length * 64 + f.patches.length * 8) :: f.seq :: (f.samples ++ f.patches.flatMap PatchWord.words)

end Sys2Proof.Machine
end

