-- ==== Sys2Proof/Machine/Flags.lean ====
section
/-! DEFINITION. Detail flags, categories, raising an event and advancing a counter (R161, R164, R165, R170). -/

namespace Sys2Proof.Machine

/-- An event of 11.2: each has one detail flag. -/
inductive Event where
  | ready
  | linkLive
  | linkStarved
  | slotDone (n : SlotNo)
  | slotFault (n : SlotNo)
  | slotAborted (n : SlotNo)
  | trackEnd (t : TrackNo)
  | trackUnderrun (t : TrackNo)
  | captureOverrun (k : SetNo)
  | captureDone (k : SetNo)
  | watchFire (w : WatchNo)
  | counterWrap (i : CounterNo)
  | safeOn
  | safeOff
deriving DecidableEq, Repr

/-- The number of an event's detail flag (R170). -/
def Event.flag : Event → Nat
  | .ready => 0
  | .linkLive => 1
  | .linkStarved => 2
  | .slotDone n => 3 + n.val
  | .slotFault n => 11 + n.val
  | .slotAborted n => 19 + n.val
  | .trackEnd t => 27 + t.val
  | .trackUnderrun t => 35 + t.val
  | .captureOverrun k => 43 + k.val
  | .captureDone k => 45 + k.val
  | .watchFire w => 47 + w.val
  | .counterWrap i => 55 + i.val
  | .safeOn => 121
  | .safeOff => 122

/-- The category of detail flag `f`: START 0, LINK 1, SLOT 2, TRACK 3, CAPTURE 4, WATCH 5, COUNTER 6, SAFETY 7 (11.2,
12.4). -/
def flagCategory (f : Nat) : Nat :=
  if f < 1 then 0 else if f < 3 then 1 else if f < 27 then 2 else if f < 43 then 3 else if f < 47 then 4
  else if f < 55 then 5 else if f < 121 then 6 else 7

/-- The category of an event. -/
def Event.category (e : Event) : Nat := flagCategory e.flag

/-- Whether the Setup record masks the category of `e` (R164). -/
def masked (e : Event) (s : State) : Bool := s.setup.masks.getLsbD e.category

/-- An event is raised (R164, R165): under an unmasked category its detail flag is set and its category becomes
pending; if the summary was empty and report hold is off, a report is requested. -/
def raise (e : Event) (s : State) : State :=
  { s with
    events :=
      { s.events with
        flags := if masked e s then s.events.flags else s.events.flags ||| BitVec.twoPow 123 e.flag
        summary := if masked e s then s.events.summary else s.events.summary ||| BitVec.twoPow 8 e.category }
    tx :=
      { s.tx with
        report := s.tx.report || (!masked e s && s.events.summary == 0 && !s.setup.hold) } }

/-- The counter takes (v + amount) mod 65536 (R161). -/
def bumpCounter (i : CounterNo) (amount : Nat) (s : State) : State :=
  { s with events := { s.events with
      counters := s.events.counters.set i (word (s.events.counters[i].toNat + amount)) } }

/-- One advance of a counter (R161): the addition, and COUNTER_WRAP if it passes 65535. -/
def advance (i : CounterNo) (amount : Nat) (s : State) : State :=
  if 65535 < s.events.counters[i].toNat + amount then raise (.counterWrap i) (bumpCounter i amount s)
  else bumpCounter i amount s

/-! ### Counter ids (11.1) -/

def ctrCrcErrors : CounterNo := 0
def ctrBadFrames : CounterNo := 1
def ctrSeqMissing : CounterNo := 2
def ctrSeqBackward : CounterNo := 3
def ctrOvertaken : CounterNo := 4
def ctrStaleTicks : CounterNo := 5
def ctrShortFrames : CounterNo := 6
def ctrReqDropped : CounterNo := 7
/-- CLIPS of C0 to C31. -/
def ctrClips (c : Chan) : CounterNo := ⟨8 + c.val, by omega⟩
/-- UNDERRUN_TICKS of T0 to T7. -/
def ctrUnderrunTicks (t : TrackNo) : CounterNo := ⟨40 + t.val, by omega⟩
/-- APPEND_DROPPED of T0 to T7. -/
def ctrAppendDropped (t : TrackNo) : CounterNo := ⟨48 + t.val, by omega⟩
/-- RECORDS_DROPPED of K0 and K1. -/
def ctrRecordsDropped (k : SetNo) : CounterNo := ⟨56 + k.val, by omega⟩
/-- FIRES of W0 to W7. -/
def ctrFires (w : WatchNo) : CounterNo := ⟨58 + w.val, by omega⟩

/-- The nine words of READ EVENTS: the summary, then detail flag f in word 2 + floor(f/16), bit f mod 16 (R166, R170). -/
def eventWords (s : State) : List Word :=
  word s.events.summary.toNat
    :: (List.range 8).map fun i => word (s.events.flags.toNat / 65536 ^ i)

end Sys2Proof.Machine
end

