-- ==== Sys2Proof/Machine/Ops.lean ====
section
/-! DEFINITION. Named operations over the state: memories, the units' entries, the end of a downstream frame, and the
execution of a request with its reply (R4, R6, R8, R152). -/

namespace Sys2Proof.Machine

/-! ### Addressed memories -/

/-- The word at address `a`. -/
def Mem.read : Mem → Nat → Word
  | [], _ => 0
  | (b, v) :: m, a => if b = a then v else Mem.read m a

/-- The word `v` is written at address `a`. Writing 0 leaves the address unlisted, so equal stores are equal lists. -/
def Mem.write : Mem → Nat → Word → Mem
  | [], a, v => if v = 0 then [] else [(a, v)]
  | (b, u) :: m, a, v =>
    if a < b then (if v = 0 then (b, u) :: m else (a, v) :: (b, u) :: m)
    else if a = b then (if v = 0 then m else (a, v) :: m)
    else (b, u) :: Mem.write m a v

/-- Words are written at `a`, `a + 1` and so on. -/
def Mem.writeAll : Mem → Nat → List Word → Mem
  | m, _, [] => m
  | m, a, v :: vs => Mem.writeAll (Mem.write m a v) (a + 1) vs

/-- The `n` words from address `a`. -/
def Mem.readAll (m : Mem) (a n : Nat) : List Word := (List.range n).map fun i => Mem.read m (a + i)

/-- The canonical form: addresses strictly rising, no word 0. -/
abbrev Mem.Wf (m : Mem) : Prop := m.Pairwise (fun p q => p.1 < q.1) ∧ ∀ p ∈ m, p.2 ≠ 0

/-! ### Entries of the units -/

/-- Entry `i` of a table is changed by `f`. -/
def upd {α : Type} {n : Nat} (v : Vector α n) (i : Fin n) (f : α → α) : Vector α n := v.set i (f v[i])

def State.setSlot (n : SlotNo) (x : Slot) (s : State) : State :=
  { s with scenario := { s.scenario with slots := s.scenario.slots.set n x } }

def State.slot (s : State) (n : SlotNo) : Slot := s.scenario.slots[n]

def State.setOwn (c : Chan) (x : Ownership) (s : State) : State := { s with own := s.own.set c x }

def State.setTrack (t : TrackNo) (x : Track) (s : State) : State :=
  { s with replay := { s.replay with tracks := s.replay.tracks.set t x } }

def State.track (s : State) (t : TrackNo) : Track := s.replay.tracks[t]

def State.setWatch (w : WatchNo) (x : Watch) (s : State) : State :=
  { s with watch := { s.watch with watches := s.watch.watches.set w x } }

def State.watchOf (s : State) (w : WatchNo) : Watch := s.watch.watches[w]

def State.setCapture (k : SetNo) (x : CaptureSet) (s : State) : State := { s with capture := s.capture.set k x }

/-- Whether channel `c` is enabled in its Channel Record. -/
def State.enabled (s : State) (c : Chan) : Bool := s.channels.records[c].enabled

/-! ### The end of a downstream frame -/

/-- The frame the end mark completes: none unless the part runs and the Link Receiver is in FRAME (R1, R5). -/
def State.taken? (s : State) : Option TakenFrame :=
  if s.phase = .running ∧ s.rx.framing = .frame then some (takeFrame s.rx.buffer) else none

/-- The Link Receiver returns to HUNT with an empty buffer (R1). -/
def State.toHunt (s : State) : State := { s with rx := { s.rx with framing := .hunt, buffer := [] } }

/-- The good MANAGE frame the end mark completes, if `row` says it is this row's (R4). -/
def State.request? (row : Request → Bool) (s : State) : Option Request :=
  match s.taken? with
  | some (.manage r) => if row r then some r else none
  | _ => none

/-- What a request comes to: the state it leaves, and its reply's status and data. -/
structure Answer where
  state : State
  status : Status
  data : List Word

/-- A refusal without data: no state changes (R8, R152). -/
def refuse (st : Status) (s : State) : Answer := { state := s, status := st, data := [] }

/-- A request executed in full. -/
def done (data : List Word) (s : State) : Answer := { state := s, status := .ok, data := data }

/-- The reply joins the tail of the reply queue (R6, R8). -/
def queueReply (tag : BitVec 8) (a : Answer) : State :=
  { a.state with tx := { a.state.tx with replies := a.state.tx.replies ++ [{ tag := tag, status := a.status, data := a.data }] } }

/-- The reply-queue test of R6: a full queue drops the request and REQ_DROPPED advances; else the request is executed
at once and its reply is queued. -/
def serve (r : Request) (meaning : Request → State → Answer) (s : State) : State :=
  if Config.replyRoom ≤ s.tx.replies.length then advance ctrReqDropped 1 s
  else queueReply r.tag (meaning r s)

/-- An end mark that completes a good MANAGE frame of this row (R4, R6). Where the frame in the buffer is none of this
row's, the event does not occur and nothing changes (log 1, log 2). -/
def request (row : Request → Bool) (meaning : Request → State → Answer) (s : State) :
    Host.Outcome State Fault Refusal :=
  match s.request? row with
  | some r => .next (serve r meaning s.toHunt)
  | none => .next s

/-- The row of the requests with code `n` (12.2). -/
def codeIs (n : Nat) (r : Request) : Bool := r.code == n

end Sys2Proof.Machine
end

