-- ==== Sys2Proof/Machine/Overlay.lean ====
section
/-! DEFINITION. Contexts and the value pipeline's arithmetic (chapter 4). -/

namespace Sys2Proof.Machine

/-! ### Contexts -/

/-- A context made from a record, with fresh run state; F and the gap held value are settled when it first becomes active
(R51, R52). -/
def contextOf (r : OverlayRecord) (owner : Option SlotNo) (priority : Int) : Context :=
  { fields := r, owner := owner, priority := priority, drift := 0, gapPhase := 0, gapHeld := none, patternIndex := 0,
    freeze := none }

/-- The context becomes active on a channel whose last transform value is `L`: F and the gap held value take `L` if this
is the first time (R53). -/
def settle (L : Int) (x : Context) : Context :=
  { x with freeze := some (x.freeze.getD L), gapHeld := some (x.gapHeld.getD L) }

/-- The copy of a slot context that ADOPT makes the base context (R54). -/
def adopted (x : Context) : Context := { x with owner := none, priority := -1 }

/-- The context active on a channel: the owning slot's, or the base context (4.2). -/
def Ownership.current (o : Ownership) : Context := o.active.getD o.base

/-- The active context is replaced in place. -/
def Ownership.setCurrent (o : Ownership) (x : Context) : Ownership :=
  match o.active with
  | some _ => { o with active := some x }
  | none => { o with base := x }

/-- The value of the field a patch names (R56). -/
def patchRead (f : PatchField) (x : Context) : Word :=
  match f with
  | .gain => x.fields.gain
  | .offset => x.fields.offset
  | .hold => x.fields.hold
  | .step => x.fields.step

/-- A patch writes one field of a context (R56, R57). -/
def patchWrite (f : PatchField) (v : Word) (x : Context) : Context :=
  match f with
  | .gain => { x with fields := { x.fields with gain := v } }
  | .offset => { x with fields := { x.fields with offset := v } }
  | .hold => { x with fields := { x.fields with hold := v } }
  | .step => { x with fields := { x.fields with step := v } }

/-- The context active on `c` takes a patch (R21, R56). -/
def patchChannel (c : Chan) (f : PatchField) (v : Word) (s : State) : State :=
  s.setOwn c (s.own[c].setCurrent (patchWrite f v s.own[c].current))

/-! ### Arithmetic -/

/-- floor((P + 2048) / 4096) (R62). -/
def round12 (p : Int) : Int := (p + 2048) / 4096

/-- floor((D + 128) / 256) (R63). -/
def round8 (d : Int) : Int := (d + 128) / 256

/-- Whether the duty pattern position of the tick is on (R59). -/
def Context.patternOn (x : Context) : Bool := x.fields.duty.getLsbD x.patternIndex

/-- The transform of a tick whose pattern position is on (4.5, R60 to R66). `presented` is the value track t presents
at the tick, `L` the channel's last transform value. -/
def transformOn (x : Context) (L : Int) (presented : Word) (v : Word) : Int :=
  match x.fields.kind with
  | .pass => v.toInt
  | .fixed => x.fields.hold.toInt
  | .freeze => x.freeze.getD L
  | .scale => round12 (v.toInt * x.fields.gain.toInt) + x.fields.offset.toInt
  | .ramp => round12 (v.toInt * x.fields.gain.toInt) + x.fields.offset.toInt + round8 x.drift
  | .track => presented.toInt
  | .gap => if x.gapPhase < x.fields.gapOn then v.toInt else x.gapHeld.getD L
  | .coarse => v.toInt / 2 ^ x.fields.coarse * 2 ^ x.fields.coarse

/-- Stage 3: y by kind, or y = x where the pattern position is off (R59). -/
def transform (x : Context) (L : Int) (presented : Word) (v : Word) : Int :=
  if x.patternOn then transformOn x L presented v else v.toInt

/-- The sum of the drift limited to ±Lm·256 (R71). -/
def limitDrift (limit : Nat) (d : Int) : Int :=
  if (limit : Int) * 256 < d then (limit : Int) * 256 else if d < -((limit : Int) * 256) then -((limit : Int) * 256) else d

/-- Stage 8: the active context's run state moves on (R71). -/
def advanceContext (v : Word) (x : Context) : Context :=
  { x with
    drift := limitDrift x.fields.limit (x.drift + x.fields.step.toInt)
    gapHeld := if x.gapPhase < x.fields.gapOn then some v.toInt else x.gapHeld
    gapPhase := (x.gapPhase + 1) % (x.fields.gapOn + x.fields.gapOff)
    patternIndex := (x.patternIndex + 1) % x.fields.patternLength }

/-- Stage 6: z within the record's limits (R69). -/
def clampOut (r : ChannelRecord) (z : Int) : Word :=
  if z < r.lo.toInt then r.lo else if r.hi.toInt < z then r.hi else BitVec.ofInt 16 z

/-- Whether stage 6 counts a clip (R69). -/
def clipped (r : ChannelRecord) (z : Int) : Bool := decide (z < r.lo.toInt) || decide (r.hi.toInt < z)

end Sys2Proof.Machine
end

