-- ==== Sys2Proof/Machine/Records.lean ====
section
/-! DEFINITION. The records of the nine tables as words: reading a written record, and the words a read returns (12.4, R156,
R169). A decoder answers none where the table's RANGE check refuses the record. -/

namespace Sys2Proof.Machine

/-! ### Codes (12.4) -/

def StarvePolicy.num : StarvePolicy → Nat
  | .hold => 0 | .code => 1 | .safe => 2

def starvePolicyOf? (n : Nat) : Option StarvePolicy :=
  if n = 0 then some .hold else if n = 1 then some .code else if n = 2 then some .safe else none

def OverlayKind.num : OverlayKind → Nat
  | .pass => 0 | .fixed => 1 | .freeze => 2 | .scale => 3 | .ramp => 4 | .track => 5 | .gap => 6 | .coarse => 7

def overlayKindOf? (n : Nat) : Option OverlayKind :=
  if n = 0 then some .pass else if n = 1 then some .fixed else if n = 2 then some .freeze else if n = 3 then some .scale
  else if n = 4 then some .ramp else if n = 5 then some .track else if n = 6 then some .gap
  else if n = 7 then some .coarse else none

def PinCondition.num : PinCondition → Nat
  | .none => 0 | .opened => 1 | .toGround => 2 | .toSupply => 3 | .toPartner => 4

def pinConditionOf? (n : Nat) : Option PinCondition :=
  if n = 0 then some .none else if n = 1 then some .opened else if n = 2 then some .toGround
  else if n = 3 then some .toSupply else if n = 4 then some .toPartner else none

def Tap.num : Tap → Nat
  | .input => 0 | .output => 1

def tapOf? (n : Nat) : Option Tap := if n = 0 then some .input else if n = 1 then some .output else none

def WatchMode.num : WatchMode → Nat
  | .above => 0 | .below => 1 | .inside => 2 | .outside => 3 | .pattern => 4 | .miss => 5

def watchModeOf? (n : Nat) : Option WatchMode :=
  if n = 0 then some .above else if n = 1 then some .below else if n = 2 then some .inside
  else if n = 3 then some .outside else if n = 4 then some .pattern else if n = 5 then some .miss else none

def Rearm.num : Rearm → Nat
  | .oneShot => 0 | .every => 1

def rearmOf? (n : Nat) : Option Rearm := if n = 0 then some .oneShot else if n = 1 then some .every else none

def StoreMode.num : StoreMode → Nat
  | .compareOnly => 0 | .compareStore => 1

def storeModeOf? (n : Nat) : Option StoreMode :=
  if n = 0 then some .compareOnly else if n = 1 then some .compareStore else none

def TrackMode.num : TrackMode → Nat
  | .stored => 0 | .fed => 1

def trackModeOf? (n : Nat) : Option TrackMode := if n = 0 then some .stored else if n = 1 then some .fed else none

def TickSource.num : TickSource → Nat
  | .lcl => 0 | .paced => 1

def tickSourceOf? (n : Nat) : Option TickSource := if n = 0 then some .lcl else if n = 1 then some .paced else none

/-- A watch named by a capture record: 0 to 7 a watch, 8 NONE (12.4). -/
def watchCode : Option WatchNo → Nat
  | some w => w.val
  | none => 8

/-- The watch field coded `n`; the outer none is a code of 9 to 15 (R169). -/
def watchOf? (n : Nat) : Option (Option WatchNo) := if n = 8 then some none else (index? 8 n).map some

/-! ### CHANNEL (R34) -/

def Source.num : Source → Nat
  | .live => 0 | .code => 1 | .track _ => 2

/-- The source coded `n` with track bits `t`: a source of TRACK names a track 0 to 7 (R34). -/
def sourceOf? (n t : Nat) : Option Source :=
  if n = 0 then some .live else if n = 1 then some .code else if n = 2 then (index? 8 t).map .track else none

/-- The track bits a Channel Record returns. -/
def ChannelRecord.trackBits (r : ChannelRecord) : Nat :=
  match r.source with
  | .track t => t.val
  | _ => r.spare.val

/-- The track bits kept beside a source that is not a track (R156; log 12). -/
def spareOf (src : Source) (t : Nat) : Fin 16 :=
  match src with
  | .track _ => 0
  | _ => ⟨t % 16, Nat.mod_lt _ (by decide)⟩

/-- A safe value clamped into the record's own limits (R34). -/
def clampSafe (lo hi v : Word) : Word := if v.toInt < lo.toInt then lo else if hi.toInt < v.toInt then hi else v

/-- The Channel Record of six written words, its safe value clamped, none for a RANGE fault of R34. -/
def channelOf? (ws : List Word) : Option ChannelRecord := do
  let w := ws.getD 0 0
  let enabled ← flagOf? (bits w 14 2)
  let starve ← starvePolicyOf? (bits w 12 2)
  let source ← sourceOf? (bits w 10 2) (bits w 6 4)
  let lo := ws.getD 2 0
  let hi := ws.getD 3 0
  let trim := ws.getD 4 0
  (if hi.toInt < lo.toInt then none
  else if trim.toInt < -4096 ∨ 4095 < trim.toInt then none
  else some
    { enabled := enabled, source := source, spare := spareOf source (bits w 6 4), insert := ws.getD 1 0, lo := lo, hi := hi,
      trim := trim, safeValue := clampSafe lo hi (ws.getD 5 0), starve := starve })

def ChannelRecord.words (r : ChannelRecord) : List Word :=
  [word (flagCode r.enabled * 16384 + r.starve.num * 4096 + r.source.num * 1024 + r.trackBits * 64),
   r.insert, r.lo, r.hi, r.trim, r.safeValue]

/-! ### SLOTMAP (R18) -/

/-- A Slot Map entry: a channel 0 to 31, or 255 for UNMAPPED; the outer none is any other code (R169). -/
def mapEntryOf? (ws : List Word) : Option (Option Chan) :=
  let n := (ws.getD 0 0).toNat
  if n = 255 then some none else (index? 32 n).map some

def mapEntryWords (e : Option Chan) : List Word :=
  match e with
  | some c => [word c.val]
  | none => [word 255]

/-! ### OVERLAY (R50) -/

/-- The Overlay Record of twelve written words, none for a RANGE fault of R50. -/
def overlayOf? (ws : List Word) : Option OverlayRecord := do
  let kind ← overlayKindOf? (bits (ws.getD 0 0) 8 8)
  let pin ← pinConditionOf? (bits (ws.getD 0 0) 0 8)
  let track ← index? 8 (bits (ws.getD 6 0) 8 8)
  let cue ← flagOf? (bits (ws.getD 6 0) 0 8)
  let partner ← index? 32 (bits (ws.getD 9 0) 0 8)
  let limit := (ws.getD 5 0).toNat
  let gapOn := (ws.getD 7 0).toNat
  let gapOff := (ws.getD 8 0).toNat
  let coarse := bits (ws.getD 9 0) 8 8
  let len := (ws.getD 11 0).toNat
  (if 32767 < limit ∨ gapOn = 0 ∨ gapOff = 0 then none
  else if coarse = 0 ∨ 12 < coarse ∨ len = 0 ∨ 16 < len then none
  else some
    { kind := kind, gain := ws.getD 1 0, offset := ws.getD 2 0, hold := ws.getD 3 0, step := ws.getD 4 0, limit := limit,
      track := track, cue := cue, gapOn := gapOn, gapOff := gapOff, coarse := coarse, pin := pin, partner := partner,
      duty := ws.getD 10 0, patternLength := len })

def OverlayRecord.words (r : OverlayRecord) : List Word :=
  [word (r.kind.num * 256 + r.pin.num), r.gain, r.offset, r.hold, r.step, word r.limit,
   word (r.track.val * 256 + flagCode r.cue), word r.gapOn, word r.gapOff, word (r.coarse * 256 + r.partner.val), r.duty,
   word r.patternLength]

/-! ### BLOCK and EPISODE: raw words, decoded at use (R89, R90) -/

/-- The start field of two bits; the fourth code is read as NOW (R90). -/
def startKindOf (n : Nat) : StartKind := if n = 1 then .delay else if n = 2 then .onFire else .now

/-- A Scenario Block decoded from its five words (R90, 12.4). -/
def blockOf (ws : List Word) : Block :=
  let w1 := ws.getD 0 0
  let w5 := ws.getD 4 0
  { target := ⟨bits w1 11 5, Nat.mod_lt _ (by decide)⟩
    priority := bits w1 8 3
    start := startKindOf (bits w1 6 2)
    watch := ⟨bits w1 3 3, Nat.mod_lt _ (by decide)⟩
    delay := (ws.getD 1 0).toNat
    listStart := bits (ws.getD 2 0) 0 10
    listCount := bits (ws.getD 3 0) 0 11
    passes := bits w5 8 8
    endAction := if bits w1 2 1 = 1 then .adopt else .restore
    next := if bits w5 7 1 = 1 then some (bits w5 0 7) else none }

/-- An Episode Entry decoded from its two words (R90, 12.4). -/
def entryOf (ws : List Word) : Entry :=
  let w1 := ws.getD 0 0
  { overlay := ⟨bits w1 8 8, Nat.mod_lt _ (by decide)⟩
    duration := (ws.getD 1 0).toNat
    endWatch := index? 8 (bits w1 0 4) }

/-- Block `b` as it stands in Scenario Memory. -/
def State.block (s : State) (b : Nat) : Block := blockOf (Mem.readAll s.scenario.blocks (5 * b) 5)

/-- Entry `e` as it stands in the Episode Store. -/
def State.entry (s : State) (e : Nat) : Entry := entryOf (Mem.readAll s.scenario.entries (2 * e) 2)

/-! ### WATCH (R112) -/

/-- The Watch Record of six written words, none for a RANGE fault of R112. -/
def watchRecordOf? (ws : List Word) : Option WatchRecord := do
  let w := ws.getD 0 0
  let enabled ← flagOf? (bits w 14 2)
  let tap ← tapOf? (bits w 12 2)
  let mode ← watchModeOf? (bits w 9 3)
  let rearm ← rearmOf? (bits w 7 2)
  let store ← storeModeOf? (bits w 5 2)
  let report ← flagOf? (bits w 3 2)
  let channel ← index? 32 (bits (ws.getD 1 0) 8 8)
  let persistence := bits (ws.getD 1 0) 0 8
  let t1 := ws.getD 2 0
  let t2 := ws.getD 3 0
  (if persistence = 0 then none
  else if (mode = .inside ∨ mode = .outside) ∧ t2.toInt < t1.toInt then none
  else some
    { enabled := enabled, tap := tap, mode := mode, rearm := rearm, store := store, report := report, channel := channel,
      persistence := persistence, t1 := t1, t2 := t2, mask := ws.getD 4 0, compare := ws.getD 5 0 })

def WatchRecord.words (r : WatchRecord) : List Word :=
  [word (flagCode r.enabled * 16384 + r.tap.num * 4096 + r.mode.num * 512 + r.rearm.num * 128 + r.store.num * 32
     + flagCode r.report * 8),
   word (r.channel.val * 256 + r.persistence), r.t1, r.t2, r.mask, r.compare]

/-- A watch as READ RECORD returns it: its record and then its run state (R114). -/
def Watch.words (w : Watch) : List Word :=
  w.record.words
    ++ (word w.count :: word (flagCode w.latched * 2 + flagCode w.spent) :: w.lastValue :: words32 w.lastTick)

/-! ### TRACK (R126) -/

/-- The Track Descriptor of four written words, none for a RANGE fault of R126; a size word of 0 codes 65536 (R169). -/
def trackOf? (ws : List Word) : Option TrackDescriptor := do
  let w := ws.getD 0 0
  let mode ← trackModeOf? (bits w 14 2)
  let loop ← flagOf? (bits w 12 2)
  let interpolate ← flagOf? (bits w 10 2)
  let base := (ws.getD 1 0).toNat
  let size := if (ws.getD 2 0).toNat = 0 then 65536 else (ws.getD 2 0).toNat
  let divider := (ws.getD 3 0).toNat
  (if 65536 < base + size ∨ divider = 0 ∨ 256 < divider then none
  else some { mode := mode, loop := loop, interpolate := interpolate, base := base, size := size, divider := divider })

def TrackDescriptor.words (d : TrackDescriptor) : List Word :=
  [word (d.mode.num * 16384 + flagCode d.loop * 4096 + flagCode d.interpolate * 1024), word d.base, word d.size,
   word d.divider]

/-! ### CAPTURE (R142) -/

/-- The Capture Set record of eleven written words, none for a RANGE fault of R142; the list words beyond the count are
stored as written (R169). -/
def captureOf? (ws : List Word) : Option CaptureRecord := do
  let w := ws.getD 0 0
  let n := bits w 12 4
  let tap ← tapOf? (bits w 10 2)
  let start ← watchOf? (bits w 6 4)
  let stop ← watchOf? (bits w 2 4)
  let m := (ws.getD 1 0).toNat
  let list : Vector Word 8 := Vector.ofFn fun i => ws.getD (3 + i.val) 0
  (if n = 0 ∨ 8 < n ∨ m = 0 ∨ 256 < m then none
  else if (list.toList.take n).any (fun v => decide (31 < v.toNat)) then none
  else some { channels := n, tap := tap, start := start, stop := stop, decimation := m, length := (ws.getD 2 0).toNat, list := list })

def CaptureRecord.words (r : CaptureRecord) : List Word :=
  word (r.channels * 4096 + r.tap.num * 1024 + watchCode r.start * 64 + watchCode r.stop * 4) :: word r.decimation
    :: word r.length :: r.list.toList

/-- The listed channels, in order (9.1). -/
def CaptureRecord.chans (r : CaptureRecord) : List Chan :=
  (r.list.toList.take r.channels).filterMap fun v => index? 32 v.toNat

/-! ### SETUP (R157) -/

/-- `n` limited to `lo` … `hi` (R156). -/
def clampNat (lo hi n : Nat) : Nat := max lo (min hi n)

/-- The Setup record of six written words, P and the starve time clamped, none for a RANGE fault of R157. -/
def setupOf? (ws : List Word) : Option Setup := do
  let w := ws.getD 0 0
  let source ← tickSourceOf? (bits w 14 2)
  let hold ← flagOf? (bits w 12 2)
  let sl := bits (ws.getD 3 0) 8 8
  let k := bits (ws.getD 3 0) 0 8
  let e := (ws.getD 4 0).toNat
  (if sl = 0 ∨ k = 0 ∨ e = 0 ∨ 32 < e then none
  else some
    { source := source, hold := hold, period := clampNat 5 10000 (ws.getD 1 0).toNat,
      starve := clampNat 10 65535 (ws.getD 2 0).toNat, staleLimit := sl, recovery := k, expected := e,
      masks := BitVec.ofNat 8 (ws.getD 5 0).toNat })

def Setup.words (r : Setup) : List Word :=
  [word (r.source.num * 16384 + flagCode r.hold * 4096), word r.period, word r.starve,
   word (r.staleLimit * 256 + r.recovery), word r.expected, word r.masks.toNat]

/-! ### The nine tables (10.2, 12.2, 12.4) -/

/-- A table: how many records it has, the words a READ RECORD returns per record, and the words of record i as they
stand. -/
structure TableView where
  size : Nat
  readWords : Nat
  record : Nat → List Word

/-- The table an object names (12.2); any other object names none. -/
def tableView? (s : State) (object : Nat) : Option TableView :=
  match object with
  | 1 => some ⟨32, 6, fun i => if h : i < 32 then s.channels.records[i].words else []⟩
  | 2 => some ⟨32, 1, fun i => if h : i < 32 then mapEntryWords s.ingress.slotMap[i] else []⟩
  | 3 => some ⟨256, 12, fun i => if h : i < 256 then s.bank[i].words else []⟩
  | 4 => some ⟨128, 5, fun i => Mem.readAll s.scenario.blocks (5 * i) 5⟩
  | 5 => some ⟨1024, 2, fun i => Mem.readAll s.scenario.entries (2 * i) 2⟩
  | 6 => some ⟨8, 11, fun i => if h : i < 8 then s.watch.watches[i].words else []⟩
  | 7 => some ⟨8, 4, fun i => if h : i < 8 then s.replay.tracks[i].desc.words else []⟩
  | 8 => some ⟨2, 11, fun i => if h : i < 2 then s.capture[i].record.words else []⟩
  | 9 => some ⟨1, 6, fun _ => s.setup.words⟩
  | _ => none

/-- The first `n` groups of `w` words. -/
def groups (w : Nat) : Nat → List Word → List (List Word)
  | 0, _ => []
  | n + 1, ws => ws.take w :: groups w n (ws.drop w)

/-- Every group decoded, none if one is refused. -/
def decodeAll {α : Type} (f : List Word → Option α) : List (List Word) → Option (List α)
  | [] => some []
  | g :: gs =>
    match f g, decodeAll f gs with
    | some x, some xs => some (x :: xs)
    | _, _ => none

/-- The record a write from record `i` on carries for record `k`, if it carries one. -/
def written? {α : Type} (i : Nat) (xs : List α) (k : Nat) : Option α := if i ≤ k then xs[k - i]? else none

/-- Records `i`, `i + 1`, … of a vector are replaced by those of a list. -/
def putAll {α : Type} {n : Nat} (v : Vector α n) (i : Nat) (xs : List α) : Vector α n :=
  Vector.ofFn fun k => (written? i xs k.val).getD v[k]

end Sys2Proof.Machine
end

