-- ==== Sys2Proof/Machine/Tracks.lean ====
section
/-! DEFINITION. The Replay Unit: presented values, the advance, spans, cues, and the track and memory requests (chapter 8). -/

namespace Sys2Proof.Machine

/-! ### Samples and interpolation -/

/-- s[i], the word at base + i (8.2). -/
def Track.sample (m : Mem) (x : Track) (i : Nat) : Word := Mem.read m (x.desc.base + i)

/-- The address `r` places forward of `p` within the region, wrapping from its last address to its first (8.3). -/
def TrackDescriptor.forward (d : TrackDescriptor) (p r : Nat) : Nat := d.base + (p - d.base + r) % d.size

/-- f[r], the ring's sample at position r from the read point (8.3). -/
def Track.ring (m : Mem) (x : Track) (r : Nat) : Word := Mem.read m (x.desc.forward x.readPoint r)

/-- round_haz(d·j/k), half away from zero (R130). -/
def roundHaz (d : Int) (j k : Nat) : Int :=
  let r : Nat := (2 * (d.natAbs * j) + k) / (2 * k)
  if 0 < d then r else if d < 0 then -r else 0

/-- Interpolation from `a` toward `b` at phase j of divider k (R130). -/
def interpolate (a b : Word) (j k : Nat) : Word := BitVec.ofInt 16 (a.toInt + roundHaz (b.toInt - a.toInt) j k)

/-- The next sample of a STORED track's playhead, absent at the end of a ONCE region (R131). -/
def Track.nextSample? (m : Mem) (x : Track) : Option Word :=
  if x.playhead + 1 < x.desc.size then some (x.sample m (x.playhead + 1))
  else if x.desc.loop then some (x.sample m 0) else none

/-! ### The tick's event of one track (R129) -/

/-- The value a STORED track settles (R131, R132). -/
def settleStored (m : Mem) (x : Track) : Word :=
  match x.state, x.desc.interpolate, x.nextSample? m with
  | .playing, true, some b => interpolate (x.sample m x.playhead) b x.phase x.desc.divider
  | _, _, _ => x.sample m x.playhead

/-- The value a FED track settles (R132, R133, R134): with a fill of 0 it keeps its presented value. -/
def settleFed (m : Mem) (x : Track) : Word :=
  if x.fill = 0 then x.presented
  else if x.state = .playing ∧ x.desc.interpolate = true ∧ 2 ≤ x.fill then
    interpolate (x.ring m 0) (x.ring m 1) x.phase x.desc.divider
  else x.ring m 0

/-- The track settles the value it presents at the tick (R129). -/
def settleTrack (m : Mem) (x : Track) : Track :=
  { x with presented := match x.desc.mode with | .stored => settleStored m x | .fed => settleFed m x }

/-- The phase of a PLAYING track moves on (R131, R133). An UNDERRUN track keeps j (R134), the others do not advance. -/
def stepPhase (x : Track) : Track := if x.state = .playing then { x with phase := x.phase + 1 } else x

/-- The phase of a PLAYING track has reached its divider (R131, R133). -/
def Track.spanOver (x : Track) : Bool := decide (x.state = .playing) && decide (x.desc.divider ≤ x.phase)

/-- The span end of a STORED track: the playhead moves on, and at the end of the region LOOP returns to 0 and ONCE ends
(R131). -/
def endStoredSpan (x : Track) : Track :=
  if x.playhead + 1 < x.desc.size then { x with phase := 0, playhead := x.playhead + 1 }
  else if x.desc.loop then { x with phase := 0, playhead := 0 }
  else { x with phase := 0, playhead := x.desc.size - 1, state := .ended }

/-- The span end of a FED track: f[0] is consumed, or with a fill below 2 the track goes to UNDERRUN (R133, R134). -/
def endFedSpan (x : Track) : Track :=
  if 2 ≤ x.fill then { x with phase := 0, readPoint := x.desc.forward x.readPoint 1, fill := x.fill - 1 }
  else { x with phase := x.desc.divider - 1, state := .underrun }

/-- The event of a track's move to `x` from a PLAYING state, if it raises one (R131, R134). -/
def spanEvent? (t : TrackNo) (x : Track) : Option Event :=
  match x.state with
  | .ended => some (.trackEnd t)
  | .underrun => some (.trackUnderrun t)
  | _ => none

/-- An event raised, if there is one. -/
def raise? (e : Option Event) (s : State) : State :=
  match e with
  | some e => raise e s
  | none => s

/-- TRACK_SPAN_END of track t: nothing happens unless its phase has reached its divider (R131, R133). -/
def spanEnd (t : TrackNo) (s : State) : State :=
  let x := s.track t
  if x.spanOver then
    let y := match x.desc.mode with | .stored => endStoredSpan x | .fed => endFedSpan x
    raise? (spanEvent? t y) (s.setTrack t y)
  else s

/-- Track t's event of a tick: it settles, counts an underrun tick (R134), moves its phase and ends its span. -/
def trackTick (t : TrackNo) (s : State) : State :=
  let x := settleTrack s.replay.mem (s.track t)
  let s1 := s.setTrack t (stepPhase x)
  spanEnd t (if x.state = .underrun then advance (ctrUnderrunTicks t) 1 s1 else s1)

/-- Every track's event of a tick (R129). -/
def tracksTick (s : State) : State := (List.finRange 8).foldl (fun s t => trackTick t s) s

/-! ### Starting and stopping -/

/-- PLAY TRACK's effect on a track (R136). -/
def playTrack (x : Track) : Track :=
  match x.desc.mode with
  | .stored => { x with state := .playing, playhead := 0, phase := 0 }
  | .fed => if x.state = .playing then x else { x with state := .playing, phase := 0 }

/-- A cue of track t (R98, R138): it acts as PLAY TRACK does, and needs no reply. -/
def cueTrack (t : TrackNo) (s : State) : State := s.setTrack t (playTrack (s.track t))

/-- A track goes to STOPPED and keeps the rest (R137, R140). -/
def stopTrack (x : Track) : Track := { x with state := .stopped }

/-- The state code of a track (R170). -/
def TrackState.num : TrackState → Nat
  | .stopped => 0 | .playing => 1 | .ended => 2 | .underrun => 3

/-! ### Requests -/

/-- READ MEMORY (R124). The object is not looked at: the catalogue says Replay Memory, and no rule gives it a code (log 32). -/
def readMemoryRequest (r : Request) (s : State) : Answer :=
  if Config.replayWords < r.index + r.count then refuse .noIndex s
  else if r.count ≤ Config.dataRoom then done (Mem.readAll s.replay.mem r.index r.count) s
  else { state := s, status := .part, data := Mem.readAll s.replay.mem r.index Config.dataRoom }

/-- WRITE MEMORY (R124). The object is not looked at: the catalogue says Replay Memory, and no rule gives it a code (log 32). -/
def writeMemoryRequest (r : Request) (s : State) : Answer :=
  if Config.replayWords < r.index + r.data.length then refuse .noIndex s
  else done [] { s with replay := { s.replay with mem := Mem.writeAll s.replay.mem r.index r.data } }

/-- PLAY TRACK (R136). -/
def playTrackRequest (r : Request) (s : State) : Answer :=
  match index? 8 r.object with
  | none => refuse .noIndex s
  | some t =>
    if s.safe.asserted then refuse .safe s
    else done [word (s.track t).state.num] (s.setTrack t (playTrack (s.track t)))

/-- STOP TRACK (R137). -/
def stopTrackRequest (r : Request) (s : State) : Answer :=
  match index? 8 r.object with
  | none => refuse .noIndex s
  | some t => done [word (s.track t).state.num] (s.setTrack t (stopTrack (s.track t)))

/-- One sample joins a FED ring at the write point (R135). -/
def appendOne (t : TrackNo) (v : Word) (s : State) : State :=
  let x := s.track t
  { s with replay :=
      { mem := Mem.write s.replay.mem x.writePoint v
        tracks := s.replay.tracks.set t { x with writePoint := x.desc.forward x.writePoint 1, fill := x.fill + 1 } } }

/-- Samples join a FED ring in their order. -/
def appendAll (t : TrackNo) (vs : List Word) (s : State) : State := vs.foldl (fun s v => appendOne t v s) s

/-- An UNDERRUN track whose fill is 2 or more returns to PLAYING (R135). -/
def resumeFed (x : Track) : Track := if x.state = .underrun ∧ 2 ≤ x.fill then { x with state := .playing } else x

/-- APPEND TRACK (R135). -/
def appendTrackRequest (r : Request) (s : State) : Answer :=
  match index? 8 r.object with
  | none => refuse .noIndex s
  | some t =>
    let x := s.track t
    if x.desc.mode = .stored then refuse .range s
    else
      let n := min r.data.length (x.desc.size - x.fill)
      let s1 := appendAll t (r.data.take n) s
      let s2 := s1.setTrack t (resumeFed (s1.track t))
      if n = r.data.length then done [word n] s2
      else { state := advance (ctrAppendDropped t) (r.data.length - n) s2, status := .part, data := [word n] }

/-- The nine words of TRACK STATUS (R139). -/
def trackStatusWords (x : Track) : List Word :=
  match x.desc.mode with
  | .stored =>
    [word x.state.num, word 0, word x.playhead, word x.phase, word x.desc.base, word x.desc.base, word 0, word 0,
     x.presented]
  | .fed =>
    [word x.state.num, word 1, word 0, word x.phase, word x.readPoint, word x.writePoint, word (x.fill / 65536),
     word x.fill, x.presented]

/-- TRACK STATUS (R139). -/
def trackStatusRequest (r : Request) (s : State) : Answer :=
  match index? 8 r.object with
  | none => refuse .noIndex s
  | some t => done (trackStatusWords (s.track t)) s

/-! ### The rows -/

/-- READ_MEMORY. -/
def execReadMemory (s : State) : Host.Outcome State Fault Refusal := request (codeIs 3) readMemoryRequest s

/-- WRITE_MEMORY. -/
def execWriteMemory (s : State) : Host.Outcome State Fault Refusal := request (codeIs 4) writeMemoryRequest s

/-- PLAY_TRACK. -/
def execPlayTrack (s : State) : Host.Outcome State Fault Refusal := request (codeIs 15) playTrackRequest s

/-- STOP_TRACK. -/
def execStopTrack (s : State) : Host.Outcome State Fault Refusal := request (codeIs 16) stopTrackRequest s

/-- APPEND_TRACK. -/
def execAppendTrack (s : State) : Host.Outcome State Fault Refusal := request (codeIs 17) appendTrackRequest s

/-- TRACK_STATUS. -/
def execTrackStatus (s : State) : Host.Outcome State Fault Refusal := request (codeIs 18) trackStatusRequest s

/-- TRACK_SPAN_END: track `t`'s phase reaches its divider. A tick makes it within its own step (R129; log 7). -/
def execTrackSpanEnd (t : Nat) (s : State) : Host.Outcome State Fault Refusal :=
  match index? 8 t with
  | none => .fault .noSuchObject
  | some t => .next (if s.phase = .running then spanEnd t s else s)

end Sys2Proof.Machine
end

