-- ==== Sys2Proof/Machine/Ownership.lean ====
section
/-! DEFINITION. Entry fetch, claims, pushes, releases, resumption, withdrawal and re-examination (R72 to R85, R97, R98, R102),
and CHANNEL STATUS, SET STANDING and PATCH (R55, R56, R88). -/

namespace Sys2Proof.Machine

/-! ### The base context -/

/-- The base context of channel c becomes active: its F and gap held value are settled with L if this is the first time
(R53), and the owner is BASE. -/
def activateBase (c : Chan) (s : State) : State :=
  s.setOwn c { s.own[c] with base := settle s.channels.last[c] s.own[c].base, active := none }

/-- The whole channel is cleared: active slot context, stack and waiting set are dropped and the base context becomes
active, with no release resolution (R72). -/
def clearChannel (c : Chan) (s : State) : State :=
  s.setOwn c
    { base := settle s.channels.last[c] s.own[c].base, active := none, stack := [], waiting := [] }

/-! ### Entry fetch -/

/-- Why the entry cannot be fetched (R97), on target channel c. -/
def fetchFault? (c : Chan) (e : Entry) (r : OverlayRecord) : Option FaultCode :=
  if e.duration = 0 then some .zeroDuration
  else if r.pin = .toPartner ∧ r.partner = c then some .badPartner else none

/-- The context of a fetch that succeeds becomes the channel's active context and the slot runs with the entry in force
(R77, R97). -/
def installEntry (n : SlotNo) (e : Entry) (r : OverlayRecord) (s : State) : State :=
  let x := s.slot n
  let c := x.latch.target
  let s1 := s.setOwn c
    { s.own[c] with active := some (settle s.channels.last[c] (contextOf r (some n) x.latch.priority)) }
  s1.setSlot n { x with state := .running, ticksLeft := e.duration, endWatch := e.endWatch, counts := false }

/-- The cue of a TRACK record with cue yes (R98, R138). -/
def cueOf (r : OverlayRecord) (s : State) : State :=
  if r.kind = .track ∧ r.cue = true then cueTrack r.track s else s

/-- A fetch that fails makes the slot FAULTED, its other fields as they stood, and raises SLOT_FAULT (R102). -/
def faultFetch (n : SlotNo) (code : FaultCode) (s : State) : State :=
  let x := s.slot n
  raise (.slotFault n)
    (s.setSlot n
      { x with
        state := .faulted, ticksLeft := 0, fault := code, entryAtFault := some x.entryIndex, endWatch := none,
        counts := false })

/-- The entry at slot n's entry index is fetched (R97, R98): the state it leaves, and whether it succeeded. After a
failure the slot is FAULTED and no context is made (R102). -/
def fetch (n : SlotNo) (s : State) : State × Bool :=
  let x := s.slot n
  let e := s.entry x.entryIndex
  let r := s.bank[e.overlay]
  match fetchFault? x.latch.target e r with
  | some code => (faultFetch n code s, false)
  | none => (cueOf r (installEntry n e r s), true)

/-! ### Waiting sets and stacks -/

/-- Whether `v` goes before `w`: a higher priority, or an equal one and a lower slot number (R79, R84). -/
def Waiter.before (v w : Waiter) : Bool :=
  decide (w.priority < v.priority) || (decide (v.priority = w.priority) && decide (v.slot < w.slot))

/-- The highest-priority waiting slot, the lowest slot number among equals (R79). -/
def bestWaiter? : List Waiter → Option Waiter
  | [] => none
  | w :: ws =>
    match bestWaiter? ws with
    | none => some w
    | some v => if v.before w then some v else some w

/-- A slot joins the waiting set, kept in ascending slot number (R76). -/
def joinWaiting (w : Waiter) : List Waiter → List Waiter
  | [] => [w]
  | v :: vs => if w.slot < v.slot then w :: v :: vs else if w.slot = v.slot then w :: vs else v :: joinWaiting w vs

/-- A slot leaves the waiting set. -/
def leaveWaiting (n : SlotNo) (ws : List Waiter) : List Waiter := ws.filter fun w => w.slot != n

/-- The slot leaves channel c's waiting set. -/
def removeWaiter (n : SlotNo) (c : Chan) (s : State) : State :=
  s.setOwn c { s.own[c] with waiting := leaveWaiting n s.own[c].waiting }

/-- The slot of a context pushed or resumed takes its new state, if the context has one. It has no open count any more: a
tick it has not counted at its push is not counted, also where it resumes before the count is taken (R80, R110; log 5). -/
def setOwnerState (x : Context) (st : SlotState) (s : State) : State :=
  match x.owner with
  | some n => s.setSlot n { s.slot n with state := st, counts := false }
  | none => s

/-- The active context moves whole to the top of the stack and its slot goes to SUSPENDED (R78). -/
def pushActive (c : Chan) (s : State) : State :=
  match s.own[c].active with
  | some x =>
    setOwnerState x .suspended (s.setOwn c { s.own[c] with active := none, stack := x :: s.own[c].stack })
  | none => s

/-- The stack top resumes without a fetch, or the base context becomes active when the stack is empty (R79, R80). -/
def popOrBase (c : Chan) (s : State) : State :=
  match s.own[c].stack with
  | x :: xs => setOwnerState x .running (s.setOwn c { s.own[c] with active := some x, stack := xs })
  | [] => activateBase c s

/-! ### Release (R79 to R81) -/

/-- Whether the waiting slot ranks above the stack top, or the stack is empty (R79). -/
def beatsTop (w : Waiter) (stack : List Context) : Bool :=
  match stack with
  | x :: _ => decide (x.priority < (w.priority : Int))
  | [] => true

/-- A channel without an active slot context is resolved (R79). A waiting slot whose fetch fails faults and the channel
is resolved again (R81); each failure removes one waiting slot, so `fuel` of one more than their number is never used up. -/
def resolve : Nat → Chan → State → State
  | 0, c, s => popOrBase c s
  | fuel + 1, c, s =>
    match bestWaiter? s.own[c].waiting with
    | some w =>
      if beatsTop w s.own[c].stack then
        match fetch w.slot (removeWaiter w.slot c s) with
        | (s1, true) => s1
        | (s1, false) => resolve fuel c s1
      else popOrBase c s
    | none => popOrBase c s

/-- The active slot context of channel c is dropped. -/
def dropActive (c : Chan) (s : State) : State := s.setOwn c { s.own[c] with active := none }

/-- The channel is resolved with as many attempts as it has waiting slots. -/
def resolveAll (c : Chan) (s : State) : State := resolve (s.own[c].waiting.length + 1) c s

/-- Whether a waiting slot pre-empts: above the active context's priority, with room on the stack (R84). -/
def qualifies (w : Waiter) (o : Ownership) : Bool :=
  decide (o.current.priority < (w.priority : Int)) && decide (o.stack.length < Config.stackRoom)

/-- Re-examination of channel c's waiting set (R84): the highest waiting slot that qualifies pushes the active context and
takes over, until none qualifies. A take-over whose fetch fails releases the channel (R81). Each round removes a
waiting slot, so `fuel` of their number is never used up. -/
def reexamine : Nat → Chan → State → State
  | 0, _, s => s
  | fuel + 1, c, s =>
    match bestWaiter? s.own[c].waiting with
    | some w =>
      if qualifies w s.own[c] then
        match fetch w.slot (removeWaiter w.slot c (pushActive c s)) with
        | (s1, true) => reexamine fuel c s1
        | (s1, false) => reexamine fuel c (resolveAll c s1)
      else s
    | none => s

/-- The waiting set of channel c is re-examined. -/
def reexamineAll (c : Chan) (s : State) : State := reexamine s.own[c].waiting.length c s

/-- A channel its owner has left is resolved and its waiting set re-examined (R79). -/
def vacate (c : Chan) (s : State) : State := reexamineAll c (resolveAll c s)

/-- The owner of channel c releases it (R79): the active slot context is dropped and the channel is resolved. -/
def release (c : Chan) (s : State) : State := vacate c (dropActive c s)

/-! ### Claims (R76, R77, R81) -/

/-- Slot n takes over its channel, whose active slot context, if any, has been pushed (R77); if the fetch fails the
channel is released by the slot and resolved (R81). -/
def takeOver (n : SlotNo) (s : State) : State :=
  match fetch n s with
  | (s1, true) => s1
  | (s1, false) => vacate (s.slot n).latch.target s1

/-- Slot n joins the waiting set of its channel and goes to WAITING (R76). -/
def waitFor (n : SlotNo) (s : State) : State :=
  let x := s.slot n
  let c := x.latch.target
  (s.setOwn c
      { s.own[c] with waiting := joinWaiting { slot := n, priority := x.latch.priority } s.own[c].waiting }).setSlot n
    { x with state := .waiting }

/-- Slot n claims its target channel (R76). -/
def claim (n : SlotNo) (s : State) : State :=
  let x := s.slot n
  let o := s.own[x.latch.target]
  match o.active with
  | none => takeOver n s
  | some a =>
    if a.priority < (x.latch.priority : Int) ∧ o.stack.length < Config.stackRoom then
      takeOver n (pushActive x.latch.target s)
    else waitFor n s

/-- A SUSPENDED slot's context is withdrawn from the stack at whatever position it holds, and the waiting set is
re-examined (R82). -/
def withdraw (n : SlotNo) (c : Chan) (s : State) : State :=
  reexamineAll c (s.setOwn c { s.own[c] with stack := s.own[c].stack.filter fun x => x.owner != some n })

/-! ### SET STANDING, PATCH, CHANNEL STATUS -/

/-- The base context of c is replaced by a context made from r: active at once if no slot owns c (R53, R55). -/
def installBase (c : Chan) (r : OverlayRecord) (s : State) : State :=
  let x := contextOf r none (-1)
  s.setOwn c
    { s.own[c] with base := match s.own[c].active with | some _ => x | none => settle s.channels.last[c] x }

/-- SET STANDING (R55). -/
def setStandingRequest (r : Request) (s : State) : Answer :=
  match index? 32 r.object, index? 256 r.index with
  | some c, some o =>
    if s.safe.asserted then refuse .safe s
    else if s.bank[o].pin = .toPartner ∧ s.bank[o].partner = c then refuse .badPartner s
    else done [] (installBase c s.bank[o] s)
  | _, _ => refuse .noIndex s

/-- The owner code of a context (R170). -/
def ownerCode (x : Context) : Nat :=
  match x.owner with
  | some n => n.val
  | none => 255

/-- PATCH (R56); the data word is looked for after the index check and before the others (R153). -/
def patchRequest (r : Request) (s : State) : Answer :=
  match index? 32 r.object with
  | none => refuse .noIndex s
  | some c =>
    match r.data, patchField? r.count with
    | v :: _, some f =>
      if s.enabled c then
        done [word (ownerCode s.own[c].current), patchRead f s.own[c].current] (patchChannel c f v s)
      else refuse .channelOff s
    | _, _ => refuse .range s

/-- How many output words of the delivery in progress are out when it is looked at: no fewer than known, at most 32
(R41; log 8). -/
def wordsSent (d : Delivery) (ix : Nat) : Nat := min 32 (max d.sent (Config.wordsOut ix))

/-- The output word set with the words gone out so far put in it (R41). -/
def Port.shown (p : Port) (ix : Nat) : Vector OutWord 32 :=
  match p.sending with
  | some d => Vector.ofFn fun c => if c.val < wordsSent d ix then d.words[c] else p.set[c]
  | none => p.set

/-- A look at the delivery in progress: how far it has come is known from then on, and the free value is used up (log 8). -/
def lookAtPort (s : State) : State :=
  match s.port.sending with
  | some d =>
    { s with port := { s.port with sending := some { d with sent := wordsSent d s.freeIx } }, freeIx := s.freeIx + 1 }
  | none => s

/-- A pair of slot number and priority (R170). -/
def contextPair (x : Context) : List Word := [word (ownerCode x), BitVec.ofInt 16 x.priority]

/-- The data words of CHANNEL STATUS (R88): the stack is listed from bottom to top. -/
def channelStatusWords (c : Chan) (s : State) : List Word :=
  let o := s.own[c]
  let w := (s.port.shown s.freeIx)[c]
  contextPair o.current
    ++ word o.stack.length :: (o.stack.reverse.flatMap contextPair)
    ++ word o.waiting.length :: (o.waiting.flatMap fun x => [word x.slot.val, word x.priority])
    ++ [w.value, word w.cond.num]

/-- CHANNEL STATUS (R88). -/
def channelStatusRequest (r : Request) (s : State) : Answer :=
  match index? 32 r.object with
  | none => refuse .noIndex s
  | some c => done (channelStatusWords c s) (lookAtPort s)

/-- SET_STANDING. -/
def execSetStanding (s : State) : Host.Outcome State Fault Refusal := request (codeIs 5) setStandingRequest s

/-- PATCH. -/
def execPatch (s : State) : Host.Outcome State Fault Refusal := request (codeIs 6) patchRequest s

/-- CHANNEL_STATUS. -/
def execChannelStatus (s : State) : Host.Outcome State Fault Refusal := request (codeIs 8) channelStatusRequest s

end Sys2Proof.Machine
end

