-- ==== Sys2Proof/Machine/Channels.lean ====
section
/-! DEFINITION. A tick's values: source selection, taps, the value pipeline and the output words (R37 to R42, R58 to R71), and
the deliveries of the Output Port (R41, R45). -/

namespace Sys2Proof.Machine

/-- What one channel's tick comes to. -/
structure ChannelTick where
  /-- The INPUT tap (R40). -/
  input : Word
  /-- The output word; its value is the OUTPUT tap (R40, R41). -/
  out : OutWord
  /-- The partner designation that follows the word (R42). -/
  designation : Option Chan
  /-- The transform value y, none where the pipeline does not run (R33, R67). -/
  y : Option Int
  /-- The active context after its advance, none where it does not advance (R71). -/
  context : Option Context
  /-- A clip is counted (R69). -/
  clip : Bool
deriving DecidableEq, Repr

/-- The channel delivers its safe value with a condition; its pipeline does not run. -/
def heldTick (r : ChannelRecord) (input : Word) (cond : PinCondition) : ChannelTick :=
  { input := input, out := { value := r.safeValue, cond := cond }, designation := none, y := none, context := none,
    clip := false }

/-- A LIVE source's value while the flow is not LIVE; none where the pipeline is bypassed (R38). -/
def starveValue? (r : ChannelRecord) (held : Word) : Option Word :=
  match r.starve with
  | .hold => some held
  | .code => some r.insert
  | .safe => none

/-- The source value x, none where the channel is bypassed by starve policy SAFE (R37, R38). -/
def sourceValue? (c : Chan) (s : State) : Option Word :=
  let r := s.channels.records[c]
  match r.source with
  | .live => if s.ingress.flow = .live then some s.ingress.held[c] else starveValue? r s.ingress.held[c]
  | .code => some r.insert
  | .track t => some (s.track t).presented

/-- The condition stage 7 gives, before degradation (R59, R70). -/
def stageCondition (x : Context) : PinCondition := if x.patternOn then x.fields.pin else .none

/-- TO_PARTNER is delivered as NONE while the partner is disabled (R42). -/
def degraded (s : State) (x : Context) (p : PinCondition) : PinCondition :=
  if p = .toPartner ∧ s.enabled x.fields.partner = false then .none else p

/-- The pipeline of channel c on source value `v` (R58, R67 to R71). -/
def pipeline (c : Chan) (v : Word) (s : State) : ChannelTick :=
  let r := s.channels.records[c]
  let x := s.own[c].current
  let y := transform x s.channels.last[c] (s.track x.fields.track).presented v
  let z := y + r.trim.toInt
  let cond := degraded s x (stageCondition x)
  { input := v
    out := { value := clampOut r z, cond := cond }
    designation := if cond = .toPartner then some x.fields.partner else none
    y := some y
    context := some (advanceContext v x)
    clip := clipped r z }

/-- Channel c at a tick (R37 to R42). -/
def channelTick (s : State) (c : Chan) : ChannelTick :=
  let r := s.channels.records[c]
  if r.enabled = false then heldTick r r.safeValue .opened
  else
    match sourceValue? c s with
    | none => heldTick r r.safeValue .none
    | some v => if s.safe.asserted then heldTick r v .none else pipeline c v s

/-- The values of one tick, all computed from one state (R58). -/
abbrev TickValues := Vector ChannelTick 32

def tickValues (s : State) : TickValues := Vector.ofFn (channelTick s)

/-- The tap value of channel c (R40). -/
def tapValue (vs : TickValues) (tap : Tap) (c : Chan) : Word :=
  match tap with
  | .input => vs[c].input
  | .output => vs[c].out.value

/-- The clips of a tick are counted (R69). -/
def countClips (vs : TickValues) (s : State) : State :=
  (List.finRange 32).foldl (fun s c => if vs[c].clip then advance (ctrClips c) 1 s else s) s

/-- L, the active contexts and the CLIPS counters take a tick's values (R67, R69, R71). -/
def takeValues (vs : TickValues) (s : State) : State :=
  countClips vs
    { s with
      channels := { s.channels with last := Vector.ofFn fun c => vs[c].y.getD s.channels.last[c] }
      own := Vector.ofFn fun c => s.own[c].setCurrent (vs[c].context.getD s.own[c].current) }

/-! ### The Output Port -/

/-- The partner designations of a tick (R42). -/
def designationsOf (vs : TickValues) : List (Chan × Chan) :=
  (List.finRange 32).filterMap fun c => vs[c].designation.map fun p => (c, p)

/-- One strobe of OP_STB: the channel number on OP_CH0–OP_CH4, the code on OP_PC0–OP_PC2, and the word on OP_D0–OP_D15
(R41). -/
structure PortStrobe where
  chan : Chan
  code : Nat
  data : Word
deriving DecidableEq, Repr

/-- The strobe of channel c's output word (R41). -/
def wordStrobe (c : Chan) (w : OutWord) : PortStrobe := { chan := c, code := w.cond.num, data := w.value }

/-- The strobe of a partner designation: code 7, and the partner's number on OP_D0–OP_D4 with OP_D5–OP_D15 at 0 (R42). -/
def designationStrobe (c p : Chan) : PortStrobe := { chan := c, code := 7, data := word p.val }

/-- The strobes of channel c in a delivery: its output word, and right after it its partner designation, if it has one
(R42). -/
def Delivery.strobesOf (d : Delivery) (c : Chan) : List PortStrobe :=
  wordStrobe c d.words[c] :: (d.designations.filter fun q => q.1 == c).map fun q => designationStrobe q.1 q.2

/-- What the Output Port sends in a delivery before its latch strobe, in channel order (R41, R42). -/
def Delivery.strobes (d : Delivery) : List PortStrobe := (List.finRange 32).flatMap d.strobesOf

/-- A tick's delivery begins (R41). -/
def beginDelivery (vs : TickValues) (s : State) : State :=
  { s with port :=
      { s.port with
        sending := some
          { safe := false, words := Vector.ofFn fun c => vs[c].out, designations := designationsOf vs, sent := 0 }
        safeNext := none } }

/-- The safe set of R45 under the records as they stand. -/
def safeWords (s : State) : Vector OutWord 32 :=
  Vector.ofFn fun c =>
    { value := s.channels.records[c].safeValue, cond := if s.enabled c then .none else .opened }

/-- A safe delivery (R45). -/
def safeDelivery (ws : Vector OutWord 32) : Delivery := { safe := true, words := ws, designations := [], sent := 0 }

/-- The safe set is delivered at once, or at the end of the delivery in progress, a tick's (R45) or a safe one. It takes the place
of a safe set that waits already from an earlier assertion, so one safe delivery follows; the spec does not say (log 17). -/
def startSafeDelivery (s : State) : State :=
  match s.port.sending with
  | none => { s with port := { s.port with sending := some (safeDelivery (safeWords s)) } }
  | some _ => { s with port := { s.port with safeNext := some (safeWords s) } }

/-- The latch strobe of the delivery in progress: the board applies its words, the set holds them, and a safe delivery that
waits follows at once (R41, R45). -/
def finishDelivery (d : Delivery) (s : State) : State :=
  { s with port :=
      { set := d.words, latched := d.words, sending := s.port.safeNext.map safeDelivery, safeNext := none } }

/-- The safe delivery in progress ends without its latch strobe (R45); the words gone out stay in the set (log 8). A safe set that
waits behind it from a second assertion is dropped with it: the spec does not speak of one (log 17). -/
def cutDelivery (s : State) : State :=
  { s with
    port := { s.port with set := s.port.shown s.freeIx, sending := none, safeNext := none }
    freeIx := s.freeIx + 1 }

/-- A tick ends the safe delivery in progress; a tick's delivery it finds has completed (R41, R45; log 17). -/
def clearPort (s : State) : State :=
  match s.port.sending with
  | none => s
  | some d =>
    if d.safe then cutDelivery s
    else if s.port.safeNext.isSome then cutDelivery (finishDelivery d s) else finishDelivery d s

/-- DELIVERY_COMPLETE: the latch strobe of a tick's delivery (R41, R45). -/
def execDeliveryComplete (s : State) : Host.Outcome State Fault Refusal :=
  match s.port.sending with
  | some d => .next (if s.phase = .running ∧ d.safe = false then finishDelivery d s else s)
  | none => .next s

/-- SAFE_DELIVERY_COMPLETE: the latch strobe of a safe delivery (R45). -/
def execSafeDeliveryComplete (s : State) : Host.Outcome State Fault Refusal :=
  match s.port.sending with
  | some d => .next (if s.phase = .running ∧ d.safe = true then finishDelivery d s else s)
  | none => .next s

end Sys2Proof.Machine
end

