-- ==== Sys2Proof/Machine/Captures.lean ====
section
/-! DEFINITION. The Capture Unit: arming, starting, records due, halves, overrun, stopping and draining (chapter 9). -/

namespace Sys2Proof.Machine

/-! ### Codes (R170) -/

def CaptureState.num : CaptureState → Nat
  | .idle => 0 | .armed => 1 | .recording => 2 | .overrun => 3 | .draining => 4

def HalfState.num : HalfState → Nat
  | .vacant => 0 | .filling => 1 | .full => 2

/-! ### Halves -/

def HalfName.other : HalfName → HalfName
  | .a => .b | .b => .a

def CaptureSet.half (x : CaptureSet) : HalfName → Half
  | .a => x.halfA | .b => x.halfB

def CaptureSet.setHalf (x : CaptureSet) (h : HalfName) (y : Half) : CaptureSet :=
  match h with
  | .a => { x with halfA := y }
  | .b => { x with halfB := y }

/-- The FILLING half, if there is one; at most one is (R145). -/
def CaptureSet.filling? (x : CaptureSet) : Option HalfName :=
  if x.halfA.state = .filling then some .a else if x.halfB.state = .filling then some .b else none

/-- Records a half holds (9.1). -/
def CaptureRecord.room (r : CaptureRecord) : Nat := Config.halfRoom / r.channels

/-- The half becomes EMPTY with record count 0. -/
def Half.emptied (y : Half) : Half := { y with state := .vacant, records := [] }

/-- The half becomes FILLING with record count 0. -/
def Half.opened (y : Half) : Half := { y with state := .filling, records := [] }

def Half.filled (y : Half) : Half := { y with state := .full }

/-- A record joins a half after its last; the first sets the half's first tick and first sequence number (R13, R145). -/
def Half.add (y : Half) (tick : BitVec 32) (seq : Word) (rec : List Word) : Half :=
  if y.records = [] then { y with firstTick := tick, firstSeq := seq, records := [rec] }
  else { y with records := y.records ++ [rec] }

/-- Half h of set k turns FULL and joins the tail of the capture drain queue (R12). -/
def fillHalf (k : SetNo) (h : HalfName) (s : State) : State :=
  let x := s.capture[k]
  let s1 := s.setCapture k (x.setHalf h (x.half h).filled)
  { s1 with tx := { s1.tx with drain := s1.tx.drain ++ [{ set := k, half := h, sent := 0 }] } }

/-! ### Start and stop (R144, R147) -/

/-- Whether a record may be due: RECORDING or OVERRUN (9.2). -/
def CaptureSet.active (x : CaptureSet) : Bool := decide (x.state = .recording) || decide (x.state = .overrun)

/-- The set starts (R144). -/
def startCapture (k : SetNo) (s : State) : State :=
  let x := s.capture[k]
  s.setCapture k { x with state := .recording, halfA := x.halfA.opened, ticksToNext := 0, due := none }

/-- No half of the set is FULL. -/
def CaptureSet.drained (x : CaptureSet) : Bool :=
  decide (x.halfA.state ≠ .full) && decide (x.halfB.state ≠ .full)

/-- A set in DRAINING without a FULL half goes to IDLE and raises CAPTURE_DONE (R147, R148). -/
def settleDrain (k : SetNo) (s : State) : State :=
  if (s.capture[k]).drained then raise (.captureDone k) (s.setCapture k { s.capture[k] with state := .idle }) else s

/-- The FILLING half of a set that stops: FULL if it holds a record, else EMPTY (R147). -/
def closeFilling (k : SetNo) (s : State) : State :=
  let x := s.capture[k]
  match x.filling? with
  | some h => if (x.half h).records = [] then s.setCapture k (x.setHalf h (x.half h).emptied) else fillHalf k h s
  | none => s

/-- The set stops, if it is RECORDING or in OVERRUN (R147). -/
def stopCapture (k : SetNo) (s : State) : State :=
  if (s.capture[k]).active then
    let s1 := closeFilling k s
    settleDrain k (s1.setCapture k { s1.capture[k] with state := .draining, due := none })
  else s

/-- The records due equal a length that is not 0 (R147). -/
def CaptureSet.lengthReached (x : CaptureSet) : Bool :=
  x.active && decide (x.record.length ≠ 0) && decide (x.recordsDue = x.record.length)

/-! ### Records (R145, R146) -/

/-- A record of a set that is due consumes its sequence number and counts toward the length (R145). -/
def CaptureSet.consume (x : CaptureSet) : CaptureSet :=
  { x with
    ticksToNext := x.record.decimation - 1
    nextSeq := x.nextSeq + 1
    recordsDue := if x.record.length = 0 then x.recordsDue else x.recordsDue + 1
    due := none }

/-- A half that holds all it can turns FULL; the other half opens, or the set goes to OVERRUN (R145). -/
def turnHalf (k : SetNo) (h : HalfName) (s : State) : State :=
  let s1 := fillHalf k h s
  let x := s1.capture[k]
  if (x.half h.other).state = .vacant then s1.setCapture k (x.setHalf h.other (x.half h.other).opened)
  else raise (.captureOverrun k) (s1.setCapture k { x with state := .overrun })

/-- The record is taken into the FILLING half (R145). -/
def takeRecord (k : SetNo) (rec : List Word) (s : State) : State :=
  let x := s.capture[k]
  match x.filling? with
  | none => s.setCapture k x.consume
  | some h =>
    let y := (x.half h).add s.timer.ticks x.nextSeq rec
    let x1 := (x.setHalf h y).consume
    let s1 := s.setCapture k x1
    if x.record.room ≤ y.records.length ∧ x1.lengthReached = false then turnHalf k h s1 else s1

/-- CAPTURE_RECORD_DUE of set k: the record due is taken, or in OVERRUN dropped and counted. Nothing happens where no record
is due (R145, R146). -/
def recordDue (k : SetNo) (s : State) : State :=
  let x := s.capture[k]
  match x.due with
  | none => s
  | some rec =>
    if x.state = .recording then takeRecord k rec s
    else if x.state = .overrun then advance (ctrRecordsDropped k) 1 (s.setCapture k x.consume)
    else s.setCapture k { x with due := none }

/-- CAPTURE_LENGTH_REACHED of set k: the set stops, if its records due equal its length (R147). -/
def lengthReached (k : SetNo) (s : State) : State := if (s.capture[k]).lengthReached then stopCapture k s else s

/-- The record set k would take of a tick (R40, R145). -/
def CaptureRecord.sample (r : CaptureRecord) (vs : TickValues) : List Word := r.chans.map (tapValue vs r.tap)

/-- A tick counts toward set k's next record, or makes it due (R145). -/
def markDue (vs : TickValues) (x : CaptureSet) : CaptureSet :=
  if x.active then
    if 0 < x.ticksToNext then { x with ticksToNext := x.ticksToNext - 1 } else { x with due := some (x.record.sample vs) }
  else x

/-- Set k's event of a tick (R145). -/
def captureTick (vs : TickValues) (k : SetNo) (s : State) : State :=
  lengthReached k (recordDue k (s.setCapture k (markDue vs s.capture[k])))

/-- Both sets' events of a tick, K0's first: where halves of both turn FULL at one tick, K0's joins the drain queue ahead of
K1's. The spec gives no order (R12, R145; log 29). -/
def capturesTick (vs : TickValues) (s : State) : State := captureTick vs 1 (captureTick vs 0 s)

/-! ### Fires and drains (R120, R148) -/

/-- A fire of watch w reaches set k: it starts an ARMED set or stops a recording one (R120, R144, R147). -/
def fireCapture (w : WatchNo) (k : SetNo) (s : State) : State :=
  let x := s.capture[k]
  if x.state = .armed ∧ x.record.start = some w then startCapture k s
  else if x.active = true ∧ x.record.stop = some w then stopCapture k s
  else s

/-- A fire reaches both sets. -/
def fireCaptures (w : WatchNo) (s : State) : State := fireCapture w 1 (fireCapture w 0 s)

/-- The Capture Unit is told that half h of set k is EMPTY (R146, R148). -/
def halfDrained (k : SetNo) (h : HalfName) (s : State) : State :=
  let x := s.capture[k]
  match x.state with
  | .overrun => s.setCapture k { x.setHalf h (x.half h).opened with state := .recording }
  | .draining => settleDrain k (s.setCapture k (x.setHalf h (x.half h).emptied))
  | .recording | .idle | .armed => s.setCapture k (x.setHalf h (x.half h).emptied)

/-! ### Requests (R143, R149, R150) -/

/-- The set is armed from its record: next sequence number and records due 0, both halves EMPTY (R143). -/
def CaptureSet.armedAnew (x : CaptureSet) : CaptureSet :=
  { x with
    state := .armed, halfA := x.halfA.emptied, halfB := x.halfB.emptied, nextSeq := 0, recordsDue := 0, due := none }

/-- ARM CAPTURE's effect on an IDLE set (R143). -/
def armCapture (k : SetNo) (s : State) : State :=
  let s1 := s.setCapture k (s.capture[k]).armedAnew
  if (s.capture[k]).record.start = none then startCapture k s1 else s1

/-- ARM CAPTURE (R143). -/
def armCaptureRequest (r : Request) (s : State) : Answer :=
  match index? 2 r.object with
  | none => refuse .noIndex s
  | some k =>
    if (s.capture[k]).state = .idle then done [word ((armCapture k s).capture[k]).state.num] (armCapture k s)
    else refuse .busy s

/-- STOP CAPTURE's effect on a set (R149). -/
def stopRequested (k : SetNo) (s : State) : State :=
  if (s.capture[k]).state = .armed then
    raise (.captureDone k) (s.setCapture k { s.capture[k] with state := .idle })
  else stopCapture k s

/-- STOP CAPTURE (R149). -/
def stopCaptureRequest (r : Request) (s : State) : Answer :=
  match index? 2 r.object with
  | none => refuse .noIndex s
  | some k => done [word (s.capture[k]).state.num] (stopRequested k s)

/-- Records of a half already sent, as the drain queue tells (R12). -/
def sentOf (k : SetNo) (h : HalfName) : List DrainEntry → Nat
  | [] => 0
  | e :: es => if e.set = k ∧ e.half = h then e.sent else sentOf k h es

/-- Word 3 or 5 of CAPTURE STATUS (R150). -/
def halfCount (k : SetNo) (h : HalfName) (s : State) : Nat :=
  let y := (s.capture[k]).half h
  match y.state with
  | .vacant => 0
  | .filling => y.records.length
  | .full => y.records.length - sentOf k h s.tx.drain

/-- Word 7 of CAPTURE STATUS (R150): length minus records due, 0 for a length of 0 (log 28). -/
def recordsLeft (x : CaptureSet) : Word :=
  if x.record.length = 0 then 0
  else if x.recordsDue ≤ x.record.length then word (x.record.length - x.recordsDue)
  else Config.recordsLeftBelowZero x.record.length x.recordsDue

/-- The seven words of CAPTURE STATUS (R150). -/
def captureStatusWords (k : SetNo) (s : State) : List Word :=
  let x := s.capture[k]
  [word x.state.num, word x.halfA.state.num, word (halfCount k .a s), word x.halfB.state.num, word (halfCount k .b s),
   x.nextSeq, recordsLeft x]

/-- CAPTURE STATUS (R150). -/
def captureStatusRequest (r : Request) (s : State) : Answer :=
  match index? 2 r.object with
  | none => refuse .noIndex s
  | some k => done (captureStatusWords k s) s

/-! ### The rows -/

/-- ARM_CAPTURE. -/
def execArmCapture (s : State) : Host.Outcome State Fault Refusal := request (codeIs 19) armCaptureRequest s

/-- STOP_CAPTURE. -/
def execStopCapture (s : State) : Host.Outcome State Fault Refusal := request (codeIs 20) stopCaptureRequest s

/-- CAPTURE_STATUS. -/
def execCaptureStatus (s : State) : Host.Outcome State Fault Refusal := request (codeIs 21) captureStatusRequest s

/-- CAPTURE_RECORD_DUE: the record due of set k at the tick being taken (R145; log 7). -/
def execCaptureRecordDue (k : Nat) (s : State) : Host.Outcome State Fault Refusal :=
  match index? 2 k with
  | none => .fault .noSuchObject
  | some k => .next (if s.phase = .running then recordDue k s else s)

/-- CAPTURE_LENGTH_REACHED: the length test of set k (R147; log 7). -/
def execCaptureLengthReached (k : Nat) (s : State) : Host.Outcome State Fault Refusal :=
  match index? 2 k with
  | none => .fault .noSuchObject
  | some k => .next (if s.phase = .running then lengthReached k s else s)

end Sys2Proof.Machine
end

