-- ==== Sys2Proof/Machine/Scenario.lean ====
section
/-! DEFINITION. The Scenario Unit: arming, delays and fires, entry ends, block ends and follow-ons, faults, aborts and resets
(chapter 6), and the disabling of a channel (R36). -/

namespace Sys2Proof.Machine

/-! ### Codes (R170) -/

def SlotState.num : SlotState → Nat
  | .idle => 0 | .armed => 1 | .waiting => 2 | .running => 3 | .suspended => 4 | .faulted => 5

def FaultCode.num : FaultCode → Nat
  | .noFault => 0 | .emptyList => 9 | .listBounds => 10 | .channelOff => 11 | .badPartner => 12 | .zeroDuration => 15

/-- An entry at fault, NONE being 65535. -/
def entryCode : Option Nat → Word
  | some e => word e
  | none => word 65535

/-- The busy states of R93. -/
def SlotState.busy : SlotState → Bool
  | .armed | .waiting | .running | .suspended => true
  | .idle | .faulted => false

/-! ### Arming (R94 to R96) -/

/-- What is wrong with a block read for arming, by checks 4 to 6 of R94: the fault code of a follow-on (R104), whose status
code is the same (R170). -/
def blockFault? (x : Block) (s : State) : Option FaultCode :=
  if x.listCount = 0 then some .emptyList
  else if Config.entries < x.listStart + x.listCount then some .listBounds
  else if s.enabled x.target then none else some .channelOff

/-- The status ARM SLOT answers for such a block. -/
def FaultCode.status : FaultCode → Status
  | .emptyList => .emptyList
  | .listBounds => .listBounds
  | .channelOff => .channelOff
  | .badPartner => .badPartner
  | .noFault | .zeroDuration => .ok

/-- A slot that has latched block b and is ARMED (R95). -/
def Slot.latched (b : Nat) (x : Block) : Slot :=
  { Slot.idle with
    state := .armed, block := b, latch := x, entryIndex := x.listStart, entriesLeft := x.listCount,
    passesLeft := x.passes }

/-- The start field of the block slot n has latched acts (R95). -/
def startSlot (n : SlotNo) (s : State) : State :=
  let x := s.slot n
  match x.latch.start with
  | .now => claim n s
  | .delay => if x.latch.delay = 0 then claim n s else s.setSlot n { x with delayLeft := x.latch.delay }
  | .onFire => s.setSlot n { x with awaiting := true }

/-- Slot n latches block b, read as `x`, and acts on its start field (R95). -/
def armSlot (n : SlotNo) (b : Nat) (x : Block) (s : State) : State := startSlot n (s.setSlot n (Slot.latched b x))

/-- ARM SLOT (R94, R95). -/
def armSlotRequest (r : Request) (s : State) : Answer :=
  match index? 8 r.object with
  | none => refuse .noIndex s
  | some n =>
    if Config.blocks ≤ r.index then refuse .noIndex s
    else if s.safe.asserted then refuse .safe s
    else if (s.slot n).state.busy then refuse .busy s
    else if (s.slot n).state = .faulted then refuse .held s
    else
      match blockFault? (s.block r.index) s with
      | some code => refuse code.status s
      | none =>
        let s1 := armSlot n r.index (s.block r.index) s
        done [word (s1.slot n).state.num] s1

/-! ### Block end and follow-on (R103, R104) -/

/-- With ADOPT the base context becomes a copy of the active context (R54). -/
def adopt (c : Chan) (s : State) : State := s.setOwn c { s.own[c] with base := adopted s.own[c].current }

/-- The slot of a follow-on that fails its check (R104). -/
def Slot.followFault (code : FaultCode) (b : Nat) (x : Block) (old : Slot) : Slot :=
  { Slot.idle with state := .faulted, block := b, latch := x, entryIndex := old.entryIndex, fault := code }

/-- Block b follows on slot n: it is read, checked and armed, or the slot faults (R104). -/
def followOn (n : SlotNo) (b : Nat) (s : State) : State :=
  match blockFault? (s.block b) s with
  | some code => raise (.slotFault n) (s.setSlot n (Slot.followFault code b (s.block b) (s.slot n)))
  | none => armSlot n b (s.block b) s

/-- Steps 1 and 2 of a block end: adopt, then release (R103, R85). -/
def leaveBlock (n : SlotNo) (s : State) : State :=
  let x := s.slot n
  release x.latch.target (match x.latch.endAction with | .adopt => adopt x.latch.target s | .restore => s)

/-- Step 3 of a block end: slot n goes to IDLE with SLOT_DONE, or its follow-on block is taken up (R103). -/
def finishBlock (n : SlotNo) (next : Option Nat) (s : State) : State :=
  match next with
  | none => raise (.slotDone n) (s.setSlot n Slot.idle)
  | some b => followOn n b s

/-- Slot n's block ends (R103). -/
def blockEnd (n : SlotNo) (s : State) : State := finishBlock n (s.slot n).latch.next (leaveBlock n s)

/-! ### Entry ends (R101) -/

/-- The slot as it goes on to its next entry or pass, none at the end of the last pass (R101). -/
def Slot.afterEntry? (x : Slot) : Option Slot :=
  if 1 < x.entriesLeft then some { x with entriesLeft := x.entriesLeft - 1, entryIndex := x.entryIndex + 1 }
  else if x.latch.passes = 0 then some { x with entriesLeft := x.latch.listCount, entryIndex := x.latch.listStart }
  else if 1 < x.passesLeft then
    some
      { x with
        entriesLeft := x.latch.listCount, entryIndex := x.latch.listStart, passesLeft := x.passesLeft - 1 }
  else none

/-- The next entry of slot n, which owns its channel, is fetched in place (R85); if that fails the channel is released
(R81, R102). -/
def fetchInPlace (n : SlotNo) (s : State) : State :=
  match fetch n s with
  | (s1, true) => s1
  | (s1, false) => release (s.slot n).latch.target s1

/-- The entry in force on slot n ends (R101). -/
def endEntry (n : SlotNo) (s : State) : State :=
  match (s.slot n).afterEntry? with
  | some x => fetchInPlace n (s.setSlot n x)
  | none => blockEnd n s

/-! ### The end of an entry whose slot was pushed as its tick was counted (log 5) -/

/-- The context slot n has on the stack of channel c is replaced by `f` of it. -/
def mapSaved (n : SlotNo) (c : Chan) (f : Context → Context) (s : State) : State :=
  s.setOwn c { s.own[c] with stack := s.own[c].stack.map fun y => if y.owner = some n then f y else y }

/-- The next entry of a SUSPENDED slot n is fetched: its context takes the place of the slot's saved one, as the next
entry's context is the one pushed where the count comes first (R97, R110). If the fetch fails the saved context is withdrawn
(R82, R102). -/
def fetchSaved (n : SlotNo) (s : State) : State :=
  let x := s.slot n
  let c := x.latch.target
  let e := s.entry x.entryIndex
  let r := s.bank[e.overlay]
  match fetchFault? c e r with
  | some code => withdraw n c (faultFetch n code s)
  | none =>
    let fresh := settle s.channels.last[c] (contextOf r (some n) x.latch.priority)
    cueOf r
      ((mapSaved n c (fun _ => fresh) s).setSlot n
        { x with ticksLeft := e.duration, endWatch := e.endWatch, counts := false })

/-- With ADOPT the base context becomes a copy of slot n's saved context (R54). -/
def adoptSaved (n : SlotNo) (c : Chan) (s : State) : State :=
  match s.own[c].stack.find? fun y => y.owner == some n with
  | some y => s.setOwn c { s.own[c] with base := adopted y }
  | none => s

/-- Steps 1 and 2 of the block end of a SUSPENDED slot n: adopt, then leave the stack (R82, R103). -/
def leaveSaved (n : SlotNo) (s : State) : State :=
  let x := s.slot n
  withdraw n x.latch.target
    (match x.latch.endAction with | .adopt => adoptSaved n x.latch.target s | .restore => s)

/-- The entry of a SUSPENDED slot n ends (R101). -/
def endSaved (n : SlotNo) (s : State) : State :=
  match (s.slot n).afterEntry? with
  | some x => fetchSaved n (s.setSlot n x)
  | none => finishBlock n (s.slot n).latch.next (leaveSaved n s)

/-! ### The tick's event of the Scenario Unit (R96, R99, R110; log 5) -/

/-- The slot has still to count the latest tick, and it is the last of its entry. -/
def Slot.entryDue (x : Slot) : Bool := x.counts && decide (x.state = .running) && decide (x.ticksLeft ≤ 1)

/-- The slot has still to count the latest tick, and it is the last of its delay. -/
def Slot.delayDue (x : Slot) : Bool :=
  x.counts && decide (x.state = .armed) && !x.awaiting && decide (x.delayLeft = 1)

/-- A slot that will have a tick to count: its entry governs the tick, or its delay was loaded before it (R99). -/
def Slot.meetsTick (x : Slot) : Bool :=
  decide (x.state = .running) || (decide (x.state = .armed) && !x.awaiting && decide (0 < x.delayLeft))

/-- The count of a tick on one slot that has it to count (R99). -/
def Slot.counted (x : Slot) : Slot :=
  if x.counts && decide (x.state = .running) then { x with counts := false, ticksLeft := x.ticksLeft - 1 }
  else if x.counts && decide (x.state = .armed) then { x with counts := false, delayLeft := x.delayLeft - 1 }
  else { x with counts := false }

/-- Every slot is changed by `f`. -/
def State.mapSlots (f : Slot → Slot) (s : State) : State :=
  { s with scenario := { s.scenario with slots := Vector.ofFn fun n => f s.scenario.slots[n] } }

/-- At a tick each slot takes note of whether it has the tick to count. -/
def meetTick (s : State) : State := s.mapSlots fun x => { x with counts := x.meetsTick }

/-- Step 1 of the tick's event: every slot counts (R99). -/
def countSlots (s : State) : State := s.mapSlots Slot.counted

/-- The slots whose entries the latest tick ends, in ascending number. -/
def entriesDue (s : State) : List SlotNo := (List.finRange 8).filter fun n => (s.slot n).entryDue

/-- The slots whose delays the latest tick ends, in ascending number. -/
def delaysDue (s : State) : List SlotNo := (List.finRange 8).filter fun n => (s.slot n).delayDue

/-- The entry of slot n, whose ticks left the count has brought to 0, ends (R99). A slot that another slot's action of the
same tick has pushed is SUSPENDED at its turn (log 5). -/
def entryRunsOut (n : SlotNo) (s : State) : State :=
  match (s.slot n).state with
  | .running => endEntry n s
  | .suspended => endSaved n s
  | .idle | .armed | .waiting | .faulted => s

/-- Step 2 of the tick's event: the entries of `ends` end, and then the slots of `claims` claim (R99). -/
def actSlots (ends claims : List SlotNo) (s : State) : State :=
  claims.foldl (fun s n => claim n s) (ends.foldl (fun s n => entryRunsOut n s) s)

/-- The Scenario Unit takes the latest tick as one event: it counts, then acts (R99). Where no slot has it to count, nothing
happens. -/
def scenarioTick (s : State) : State := actSlots (entriesDue s) (delaysDue s) (countSlots s)

/-! ### Fires (R96, R100, R120) -/

/-- Whether a fire of watch w acts on the slot: its start waits for it, or its entry in force ends on it. -/
def Slot.hears (w : WatchNo) (x : Slot) : Bool :=
  (decide (x.state = .armed) && x.awaiting && decide (x.latch.watch = w))
    || (decide (x.state = .running) && decide (x.endWatch = some w))

/-- A fire starts the delay of an ARMED slot, or has it claim at once (R96). -/
def fireStart (n : SlotNo) (s : State) : State :=
  let x := s.slot n
  if x.latch.delay = 0 then claim n (s.setSlot n { x with awaiting := false })
  else s.setSlot n { x with awaiting := false, delayLeft := x.latch.delay, counts := false }

/-- A fire that slot n hears: it starts the slot or ends its entry. -/
def fireSlot (n : SlotNo) (s : State) : State :=
  if (s.slot n).state = .armed then fireStart n s else endEntry n s

/-- A fire of watch w reaches every slot, in ascending number (log 14). A slot acts if it heard the fire as it arrived and
hears it still at its turn, so no slot acts twice on one fire (R100, R104). -/
def fireSlots (w : WatchNo) (s : State) : State :=
  (List.finRange 8).foldl
    (fun t n => if (s.slot n).hears w && (t.slot n).hears w then fireSlot n t else t) s

/-! ### Ending scenarios from outside (R36, R106 to R108) -/

/-- What an abort does to the slot's place on its channel (R107). -/
def leaveChannel (n : SlotNo) (s : State) : State :=
  let x := s.slot n
  match x.state with
  | .waiting => removeWaiter n x.latch.target s
  | .running => release x.latch.target s
  | .suspended => withdraw n x.latch.target s
  | .idle | .armed | .faulted => s

/-- ABORT SLOT (R107). -/
def abortSlotRequest (r : Request) (s : State) : Answer :=
  match index? 8 r.object with
  | none => refuse .noIndex s
  | some n => done [word (s.slot n).state.num] ((leaveChannel n s).setSlot n Slot.idle)

/-- The three words of CLEAR SLOT (R106, R170). -/
def faultWords (x : Slot) : List Word := [word x.fault.num, word x.block, entryCode x.entryAtFault]

/-- CLEAR SLOT (R106). -/
def clearSlotRequest (r : Request) (s : State) : Answer :=
  match index? 8 r.object with
  | none => refuse .noIndex s
  | some n =>
    let x := s.slot n
    if x.state.busy then { state := s, status := .busy, data := faultWords x }
    else if x.state = .faulted then done (faultWords x) (s.setSlot n Slot.idle)
    else done (faultWords x) s

/-- Every channel is cleared to its base context (R72). -/
def clearChannels (s : State) : State := (List.finRange 32).foldl (fun s c => clearChannel c s) s

/-- RESET SCENARIOS (R108). -/
def resetScenariosRequest (_r : Request) (s : State) : Answer :=
  done [] ((clearChannels s).mapSlots fun _ => Slot.idle)

/-- A slot faulted by the disabling of its channel (R36, R105). -/
def Slot.channelOff (x : Slot) : Slot :=
  { x with
    state := .faulted
    fault := .channelOff
    entryAtFault := if x.state = .running ∨ x.state = .suspended then some x.entryIndex else none
    awaiting := false
    endWatch := none
    counts := false }

/-- Slot n faults if it is busy on channel c, which is being disabled (R36). -/
def faultOn (c : Chan) (n : SlotNo) (s : State) : State :=
  if (s.slot n).state.busy && decide ((s.slot n).latch.target = c) then
    raise (.slotFault n) (s.setSlot n (s.slot n).channelOff)
  else s

/-- Channel c is disabled by a Channel Record write (R36, R72). -/
def disableChannel (c : Chan) (s : State) : State :=
  clearChannel c ((List.finRange 8).foldl (fun s n => faultOn c n s) s)

/-! ### Status (R93, R170) -/

/-- The twelve words of SLOT STATUS. -/
def slotStatusWords (x : Slot) : List Word :=
  [word x.state.num, word x.block, word x.latch.target.val, word x.latch.priority, word x.entryIndex, word x.entriesLeft,
   word x.passesLeft, word x.ticksLeft, word x.delayLeft, word (flagCode x.awaiting), word x.fault.num,
   entryCode x.entryAtFault]

/-- SLOT STATUS (R93). -/
def slotStatusRequest (r : Request) (s : State) : Answer :=
  match index? 8 r.object with
  | none => refuse .noIndex s
  | some n => done (slotStatusWords (s.slot n)) s

/-- The set of slots whose state satisfies `p`, slot i in bit i (R170). -/
def slotSet (p : SlotState → Bool) (s : State) : Word :=
  (List.finRange 8).foldl (fun w n => if p (s.slot n).state then w ||| BitVec.twoPow 16 n.val else w) 0

/-- SLOT SUMMARY (R93). -/
def slotSummaryRequest (_r : Request) (s : State) : Answer :=
  done [slotSet SlotState.busy s, slotSet (fun st => decide (st = .faulted)) s] s

/-! ### The rows -/

/-- ARM_SLOT. -/
def execArmSlot (s : State) : Host.Outcome State Fault Refusal := request (codeIs 9) armSlotRequest s

/-- ABORT_SLOT. -/
def execAbortSlot (s : State) : Host.Outcome State Fault Refusal := request (codeIs 10) abortSlotRequest s

/-- CLEAR_SLOT. -/
def execClearSlot (s : State) : Host.Outcome State Fault Refusal := request (codeIs 11) clearSlotRequest s

/-- SLOT_STATUS. -/
def execSlotStatus (s : State) : Host.Outcome State Fault Refusal := request (codeIs 12) slotStatusRequest s

/-- SLOT_SUMMARY. -/
def execSlotSummary (s : State) : Host.Outcome State Fault Refusal := request (codeIs 13) slotSummaryRequest s

/-- RESET_SCENARIOS. -/
def execResetScenarios (s : State) : Host.Outcome State Fault Refusal := request (codeIs 14) resetScenariosRequest s

/-- SLOT_DELAY_EXPIRY: the latest tick, not yet counted, brings slot n's delay to 0, and the Scenario Unit takes that tick
with slot n's claim first. Nothing happens where slot n has no such delay (log 1, log 5). -/
def execSlotDelayExpiry (n : Nat) (s : State) : Host.Outcome State Fault Refusal :=
  match index? 8 n with
  | none => .fault .noSuchObject
  | some n =>
    .next
      (if s.phase = .running ∧ (s.slot n).delayDue = true then
        actSlots (entriesDue s) ((delaysDue s).erase n) (claim n (countSlots s))
      else s)

/-- ENTRY_DURATION_EXPIRY: the latest tick, not yet counted, brings the ticks left of slot n's entry to 0, and the Scenario
Unit takes that tick with slot n's entry end first. Nothing happens where slot n has no such entry (log 1, log 5). -/
def execEntryDurationExpiry (n : Nat) (s : State) : Host.Outcome State Fault Refusal :=
  match index? 8 n with
  | none => .fault .noSuchObject
  | some n =>
    .next
      (if s.phase = .running ∧ (s.slot n).entryDue = true then
        actSlots (n :: (entriesDue s).erase n) (delaysDue s) (countSlots s)
      else s)

end Sys2Proof.Machine
end

