-- ==== Sys2Proof/Machine/Watches.lean ====
section
/-! DEFINITION. The Watch Unit: conditions, persistence, fires, and the requests on watches (chapter 7). -/

namespace Sys2Proof.Machine

/-! ### The condition (R116) -/

/-- Whether `v` and C agree at every position set in M. -/
def patternMatches (r : WatchRecord) (v : Word) : Bool := v &&& r.mask == r.compare &&& r.mask

/-- Whether the condition holds for the tap value `v` (R116). -/
def conditionHolds (r : WatchRecord) (v : Word) : Bool :=
  match r.mode with
  | .above => decide (r.t1.toInt < v.toInt)
  | .below => decide (v.toInt < r.t1.toInt)
  | .inside => decide (r.t1.toInt ≤ v.toInt) && decide (v.toInt ≤ r.t2.toInt)
  | .outside => decide (v.toInt < r.t1.toInt) || decide (r.t2.toInt < v.toInt)
  | .pattern => patternMatches r v
  | .miss => !patternMatches r v

/-! ### Evaluation (R115, R117, R118) -/

/-- A tick at which the condition is false, or the channel disabled (R117, R118). -/
def Watch.missed (x : Watch) : Watch := { x with count := 0, latched := false }

/-- A tick at which the condition holds for `v` (R118). The fire is computed and not yet taken (log 6). -/
def Watch.held (v : Word) (x : Watch) : Watch :=
  let count := if x.count < x.record.persistence then x.count + 1 else x.record.persistence
  if count = x.record.persistence ∧ x.latched = false ∧ x.spent = false then
    { x with
      count := count
      latched := match x.record.rearm with | .every => true | .oneShot => x.latched
      spent := match x.record.rearm with | .oneShot => true | .every => x.spent
      fire := some v }
  else { x with count := count }

/-- A watch's evaluation of a tick (R115 to R118). -/
def Watch.evaluate (s : State) (vs : TickValues) (x : Watch) : Watch :=
  if x.record.enabled = false then x
  else if s.enabled x.record.channel = false then x.missed
  else
    let v := tapValue vs x.record.tap x.record.channel
    if conditionHolds x.record v then x.held v else x.missed

/-- The Watch Unit evaluates a tick (R115). -/
def watchesTick (vs : TickValues) (s : State) : State :=
  { s with watch := { s.watch with watches := Vector.ofFn fun w => (s.watchOf w).evaluate s vs } }

/-! ### Fires (R119, R120) -/

/-- Step 1 of a fire: under COMPARE_STORE its value and tick are kept. The fire is taken. -/
def Watch.stored (v : Word) (tick : BitVec 32) (x : Watch) : Watch :=
  match x.record.store with
  | .compareStore => { x with lastValue := v, lastTick := tick, fire := none }
  | .compareOnly => { x with fire := none }

/-- Step 2 of a fire: watch w joins the hit set. -/
def joinHits (w : WatchNo) (s : State) : State :=
  { s with watch := { s.watch with hits := s.watch.hits ||| BitVec.twoPow 8 w.val } }

/-- Steps 1 to 4 of a fire of watch w with tap value `v` (R119). -/
def noteFire (w : WatchNo) (v : Word) (s : State) : State :=
  let x := s.watchOf w
  let s1 := advance (ctrFires w) 1 (joinHits w (s.setWatch w (x.stored v s.timer.ticks)))
  if x.record.report then raise (.watchFire w) s1 else s1

/-- The fire of watch w computed from the latest tick is taken and delivered to its consumers (R119, R120). Nothing happens
where the watch has none. -/
def takeFire (w : WatchNo) (s : State) : State :=
  match (s.watchOf w).fire with
  | some v => fireCaptures w (fireSlots w (noteFire w v s))
  | none => s

/-- Every fire of the latest tick not yet taken is taken, in ascending watch number (log 6). -/
def takeFires (s : State) : State := (List.finRange 8).foldl (fun s w => takeFire w s) s

/-! ### Requests (R121, R122) -/

/-- REARM WATCH (R121). The spent flag is answered as a word of 1 for yes and 0 for no, a coding the spec does not give (log 33). -/
def rearmWatchRequest (r : Request) (s : State) : Answer :=
  match index? 8 r.object with
  | none => refuse .noIndex s
  | some w =>
    done [word (flagCode (s.watchOf w).spent)]
      (s.setWatch w { s.watchOf w with count := 0, spent := false, latched := false })

/-- READ HITS (R122, R170). -/
def readHitsRequest (_r : Request) (s : State) : Answer :=
  done [word s.watch.hits.toNat] { s with watch := { s.watch with hits := 0 } }

/-! ### The rows -/

/-- REARM_WATCH. -/
def execRearmWatch (s : State) : Host.Outcome State Fault Refusal := request (codeIs 22) rearmWatchRequest s

/-- READ_HITS. -/
def execReadHits (s : State) : Host.Outcome State Fault Refusal := request (codeIs 23) readHitsRequest s

/-- WATCH_FIRE of watch w (R119). -/
def execWatchFire (w : Nat) (s : State) : Host.Outcome State Fault Refusal :=
  match index? 8 w with
  | none => .fault .noSuchObject
  | some w => .next (if s.phase = .running then takeFire w s else s)

end Sys2Proof.Machine
end

