-- ==== Sys2Proof/Machine/Tick.lean ====
section
/-! DEFINITION. The tick: the Frame Timer, the sample flow, and the order in which the blocks react (chapter 2, R23 to R31). -/

namespace Sys2Proof.Machine

/-! ### The sample flow (R28 to R30) -/

/-- FLOW_LIVE: the fresh run has reached K at the tick being taken. In PACED mode the Frame Timer stops and the starve timer
starts (R26, R29). -/
def flowLive (s : State) : State :=
  raise .linkLive
    { s with
      ingress := { s.ingress with flow := .live, staleRun := 0, flowDue := none }
      timer :=
        { s.timer with
          interval := match s.setup.source with | .paced => none | .lcl => s.timer.interval
          starve := match s.setup.source with | .paced => some s.setup.starve | .lcl => s.timer.starve } }

/-- The flow enters STARVED from LIVE with a fresh run of 0 (R30). -/
def starved (s : State) : State :=
  raise .linkStarved { s with ingress := { s.ingress with flow := .starved, freshRun := 0, flowDue := none } }

/-- The change of flow the tick being taken has reached is made. -/
def takeFlow (s : State) : State :=
  match s.ingress.flowDue with
  | some .toLive => flowLive s
  | some .toStarved => starved s
  | none => s

/-- A stale tick in LIVE, LOCAL mode (R30). -/
def staleLive (s : State) : State :=
  advance ctrStaleTicks 1
    { s with ingress :=
        { s.ingress with
          staleRun := s.ingress.staleRun + 1
          flowDue := if s.setup.staleLimit ≤ s.ingress.staleRun + 1 then some .toStarved else none } }

/-- A fresh tick outside LIVE (R29). -/
def freshRunTick (s : State) : State :=
  { s with ingress :=
      { s.ingress with
        flow := .recovering
        freshRun := s.ingress.freshRun + 1
        flowDue := if s.setup.recovery ≤ s.ingress.freshRun + 1 then some .toLive else none } }

/-- A tick is judged fresh or stale and moves the run it updates (R28 to R30). -/
def judgeRuns (fresh : Bool) (s : State) : State :=
  match s.ingress.flow, fresh with
  | .live, true => { s with ingress := { s.ingress with staleRun := 0 } }
  | .live, false => match s.setup.source with | .lcl => staleLive s | .paced => s
  | _, true => freshRunTick s
  | _, false => { s with ingress := { s.ingress with freshRun := 0 } }

/-- Sample Ingress judges the tick before any channel's value is computed for it (R28). -/
def judge (s : State) : State :=
  takeFlow (judgeRuns s.ingress.fresh { s with ingress := { s.ingress with fresh := false, flowDue := none } })

/-! ### The tick (R28, R58, R99, R115, R129, R145) -/

/-- The events of the latest tick that still stand open are taken before the next tick: the Scenario Unit's count, and the
fires (log 5, log 6). -/
def closeTick (s : State) : State := takeFires (scenarioTick s)

/-- The tick counter advances (R24). -/
def countTick (s : State) : State := { s with timer := { s.timer with ticks := s.timer.ticks + 1 } }

/-- The values of a tick reach L, the contexts and the Output Port, and then the watches, the capture sets and the slots
(R41, R58, R99, R115, R145). -/
def deliverTick (vs : TickValues) (s : State) : State :=
  meetTick (capturesTick vs (watchesTick vs (beginDelivery vs (takeValues vs s))))

/-- A tick's work up to the Scenario Unit's count (R28, R129). -/
def tickCore (s : State) : State :=
  let s1 := tracksTick (judge (countTick (clearPort (closeTick s))))
  deliverTick (tickValues s1) s1

/-- A tick occurs (R28). With `eventsFirst` the Scenario Unit's count stands open (R110; log 5). -/
def tick (order : CountOrder) (s : State) : State :=
  match order with
  | .countFirst => scenarioTick (tickCore s)
  | .eventsFirst => tickCore s

/-! ### The rows -/

/-- FRAME_TIMER_EXPIRY: the interval in progress ends, the next begins, and a tick occurs (R23). Nothing happens where no
interval is in progress. -/
def execFrameTimerExpiry (order : CountOrder) (s : State) : Host.Outcome State Fault Refusal :=
  .next
    (if s.phase = .running ∧ s.timer.interval.isSome = true then
      tick order { s with timer := { s.timer with interval := some s.setup.period } }
    else s)

/-- HELD_TICK_RELEASE: the held arrival tick occurs (R25). Nothing happens where no tick is held. -/
def execHeldTickRelease (order : CountOrder) (s : State) : Host.Outcome State Fault Refusal :=
  .next
    (if s.phase = .running ∧ s.timer.heldTick = true then
      tick order { s with timer := { s.timer with heldTick := false } }
    else s)

/-- FLOW_LIVE, where the tick being taken has reached it (R29; log 7). -/
def execFlowLive (s : State) : Host.Outcome State Fault Refusal :=
  .next (if s.phase = .running ∧ s.ingress.flowDue = some .toLive then flowLive s else s)

/-- FLOW_STARVED, where the tick being taken has reached it (R30; log 7). -/
def execFlowStarved (s : State) : Host.Outcome State Fault Refusal :=
  .next (if s.phase = .running ∧ s.ingress.flowDue = some .toStarved then starved s else s)

/-- STARVE_TIMER_EXPIRY: the flow moves from LIVE to STARVED, and the Frame Timer begins an interval (R26, R30). Nothing
happens where the starve timer does not run. -/
def execStarveTimerExpiry (s : State) : Host.Outcome State Fault Refusal :=
  .next
    (if s.phase = .running ∧ s.timer.starve.isSome = true ∧ s.ingress.flow = .live then
      starved { s with timer := { s.timer with starve := none, interval := some s.setup.period } }
    else s)

end Sys2Proof.Machine
end

