-- ==== Sys2Proof/Machine/Sample.lean ====
section
/-! DEFINITION. The Link Receiver's line events, and the acceptance of SAMPLE frames (R1, R2, R4, R15 to R22, R25). -/

namespace Sys2Proof.Machine

/-! ### Words, marks and violations (R1) -/

/-- The buffered words of an unclosed frame are discarded and BAD_FRAMES advances (R1). -/
def discardFrame (next : Framing) (s : State) : State :=
  advance ctrBadFrames 1 { s with rx := { s.rx with framing := next, buffer := [] } }

/-- The Link Receiver delimits frames: INIT has ended and RESET_N is released (R5). -/
def State.framed (s : State) : Bool := decide (s.phase = .running) && decide (s.rx.framing = .frame)

/-- WORD_RECEIVED (R1). -/
def execWordReceived (w : Word) (s : State) : Host.Outcome State Fault Refusal :=
  .next
    (if s.framed = false then s
    else if s.rx.buffer.length < Config.bufferRoom then
      { s with rx := { s.rx with buffer := s.rx.buffer ++ [w] } }
    else discardFrame .hunt s)

/-- START_MARK (R1). -/
def execStartMark (s : State) : Host.Outcome State Fault Refusal :=
  .next
    (if s.phase ≠ .running then s
    else if s.rx.framing = .frame then discardFrame .frame s
    else { s with rx := { s.rx with framing := .frame, buffer := [] } })

/-- CODE_VIOLATION (R1). -/
def execCodeViolation (s : State) : Host.Outcome State Fault Refusal :=
  .next (if s.framed then discardFrame .hunt s else s)

/-- FRAME_REJECTED: an end mark completes a frame that fails a check of R2. Nothing happens where the frame passes
(log 2). -/
def execFrameRejected (s : State) : Host.Outcome State Fault Refusal :=
  .next
    (match s.taken? with
    | some .crcError => advance ctrCrcErrors 1 s.toHunt
    | some .badFrame => advance ctrBadFrames 1 s.toHunt
    | _ => s)

/-- FILL_FRAME: an end mark completes a good FILL frame, which is ignored (R4). -/
def execFillFrame (s : State) : Host.Outcome State Fault Refusal :=
  .next
    (match s.taken? with
    | some .fill => s.toHunt
    | _ => s)

/-! ### Acceptance (R15 to R17, R19, R21) -/

/-- One sample word feeds the channel the Slot Map names for its position (R17). -/
def holdSample (s : State) (i : Nat) (w : Word) (held : Vector Word 32) : Vector Word 32 :=
  if h : i < 32 then
    match s.ingress.slotMap[i] with
    | some c => held.set c w
    | none => held
  else held

/-- The sample words from position `i` on, those at positions below E, are written into the held sample set (R17). -/
def holdSamples (s : State) : Nat → List Word → Vector Word 32 → Vector Word 32
  | _, [], held => held
  | i, w :: ws, held =>
    holdSamples s (i + 1) ws (if i < s.setup.expected then holdSample s i w held else held)

/-- The channel a patch word addresses: its view's base plus its offset (R21). -/
def patchChannelOf (p : PatchWord) (s : State) : Nat := (if p.view1 then s.ingress.view1 else s.ingress.view0) + p.offset.val

/-- One patch word: ignored on a disabled channel, else it writes the field of the active context (R21). -/
def applyPatch (p : PatchWord) (s : State) : State :=
  match index? 32 (patchChannelOf p s) with
  | some c => if s.enabled c then patchChannel c p.field p.value s else s
  | none => s

/-- Patch words in frame order (R21). -/
def applyPatches (ps : List PatchWord) (s : State) : State := ps.foldl (fun s p => applyPatch p s) s

/-- How far a frame lies ahead of the expected sequence number, none while that is unset (R15). -/
def State.ahead? (s : State) (seq : Word) : Option Nat := s.rx.expected.map fun e => (seq - e).toNat

/-- SEQ_MISSING takes a gap as one addition (R15). -/
def countMissing (d : Nat) (s : State) : State := if d = 0 then s else advance ctrSeqMissing d s

/-- Step 1 of R16: the expected sequence number moves on (R15), the sample words are written into the held sample set,
and a frame with fewer than E of them counts in SHORT_FRAMES (R17). -/
def storeSamples (f : SampleFrame) (s : State) : State :=
  let s1 := { s with
    rx := { s.rx with expected := some (f.seq + 1) }
    ingress := { s.ingress with held := holdSamples s 0 f.samples s.ingress.held } }
  if f.samples.length < s.setup.expected then advance ctrShortFrames 1 s1 else s1

/-- Steps 3 and 4 of R16: a fresh marker still set counts in OVERTAKEN, and the marker is set (R19). -/
def markFresh (s : State) : State :=
  let s1 := if s.ingress.fresh then advance ctrOvertaken 1 s else s
  { s1 with ingress := { s1.ingress with fresh := true } }

/-- The effects of an acceptance on Sample Ingress: steps 1 to 4 of R16, the patch words being step 2. -/
def acceptSamples (f : SampleFrame) (s : State) : State := markFresh (applyPatches f.patches (storeSamples f s))

/-- Step 5 of R16: in PACED mode while LIVE the starve timer restarts and the frame asks for a tick, which occurs at once or
is held; a tick already held stays (R25, R26). -/
def askTick (elapsed : Nat) (order : CountOrder) (s : State) : State :=
  if s.setup.source = .paced ∧ s.ingress.flow = .live then
    let s1 := { s with timer := { s.timer with starve := some s.setup.starve } }
    if s.timer.heldTick then s1
    else if Config.spacing ≤ elapsed then tick order s1
    else { s1 with timer := { s1.timer with heldTick := true } }
  else s

/-- A good SAMPLE frame is accepted or discarded (R15). -/
def takeSample (elapsed : Nat) (order : CountOrder) (f : SampleFrame) (s : State) : State :=
  match s.ahead? f.seq with
  | some d =>
    if 32767 < d then advance ctrSeqBackward 1 s
    else askTick elapsed order (acceptSamples f (countMissing d s))
  | none => askTick elapsed order (acceptSamples f s)

/-- SAMPLE_FRAME: an end mark completes a good SAMPLE frame (R16). Nothing happens where the buffered frame is none
(log 2). -/
def execSampleFrame (elapsed : Nat) (order : CountOrder) (s : State) : Host.Outcome State Fault Refusal :=
  .next
    (match s.taken? with
    | some (.sample f) => takeSample elapsed order f s.toHunt
    | _ => s)

/-! ### SET VIEWS (R22) -/

/-- A view base: rounded down to a multiple of 8, at most 24. -/
def viewBase (v : Word) : Nat := min 24 (v.toNat / 8 * 8)

/-- SET VIEWS (R22, R153). -/
def setViewsRequest (r : Request) (s : State) : Answer :=
  match r.data with
  | a :: b :: _ =>
    done [word (viewBase a), word (viewBase b)]
      { s with ingress := { s.ingress with view0 := viewBase a, view1 := viewBase b } }
  | _ => refuse .range s

/-- SET_VIEWS. -/
def execSetViews (s : State) : Host.Outcome State Fault Refusal := request (codeIs 7) setViewsRequest s

end Sys2Proof.Machine
end

