-- ==== Sys2Proof/Machine/Management.lean ====
section
/-! DEFINITION. The record requests over the nine tables, the counter and event requests, and undefined request codes
(chapters 10 and 11, and the write rules of each table). -/

namespace Sys2Proof.Machine

/-! ### Reading records (R154, R169) -/

/-- Whole records `i` to `i + c - 1` of a table, in index order. -/
def TableView.records (v : TableView) (i c : Nat) : List Word := (List.range c).flatMap fun j => v.record (i + j)

/-- READ RECORD (R154). -/
def readRecordRequest (r : Request) (s : State) : Answer :=
  match tableView? s r.object with
  | none => refuse .noTable s
  | some v =>
    if v.size ≤ r.index ∨ v.size < r.index + r.count then refuse .noIndex s
    else if r.count ≤ Config.dataRoom / v.readWords then done (v.records r.index r.count) s
    else { state := s, status := .part, data := v.records r.index (Config.dataRoom / v.readWords) }

/-! ### Writing records: the checks every table shares (R155) -/

/-- The objects that name one of the nine tables (12.2). -/
def namesTable (object : Nat) : Bool := decide (1 ≤ object) && decide (object ≤ 9)

/-- The WRITE RECORD requests of one table's row. A WRITE RECORD whose object names no table belongs to no table's row of the
opcode table; each of the nine rows takes it and refuses it with NO_TABLE (log 3). -/
def writeRow (object : Nat) (r : Request) : Bool :=
  r.code == 2 && (r.object == object || !namesTable r.object)

/-- Checks 1 to 3 of R155 for the table `object` of `size` records of `words` words; `store` is the table's own rule on the
records written. -/
def writeTable (object size words : Nat) (store : Nat → List (List Word) → State → Answer) (r : Request) (s : State) :
    Answer :=
  if r.object ≠ object then refuse .noTable s
  else if size ≤ r.index ∨ size < r.index + r.count then refuse .noIndex s
  else if r.data.length ≠ r.count * words then refuse .range s
  else store r.index (groups words r.count r.data) s

/-- A table's rule whose only check is RANGE. -/
def storeDecoded {α : Type} (decode : List Word → Option α) (put : Nat → List α → State → State) (i : Nat)
    (gs : List (List Word)) (s : State) : Answer :=
  match decodeAll decode gs with
  | none => refuse .range s
  | some rs => done [] (put i rs s)

/-! ### CHANNEL (R34 to R36) -/

/-- The channels a write turns from enabled to disabled are disabled with the effects of R36. -/
def disableWritten (old : Vector ChannelRecord 32) (s : State) : State :=
  (List.finRange 32).foldl (fun s c => if old[c].enabled && !s.enabled c then disableChannel c s else s) s

/-- Channel Records are written, and channels disabled by them fault their slots (R35, R36). -/
def putChannels (i : Nat) (rs : List ChannelRecord) (s : State) : State :=
  disableWritten s.channels.records
    { s with channels := { s.channels with records := putAll s.channels.records i rs } }

/-! ### SLOTMAP (R18) -/

/-- Whether no channel stands at two positions. -/
def mapDistinct (m : Vector (Option Chan) 32) : Bool := decide (m.toList.filterMap id).Nodup

/-- Slot Map positions are checked and written (R18). -/
def storeSlotMap (i : Nat) (gs : List (List Word)) (s : State) : Answer :=
  match decodeAll mapEntryOf? gs with
  | none => refuse .range s
  | some es =>
    let m := putAll s.ingress.slotMap i es
    if mapDistinct m then done [] { s with ingress := { s.ingress with slotMap := m } } else refuse .duplicate s

/-! ### OVERLAY (R50), BLOCK and EPISODE (R89) -/

/-- Overlay Records are written; contexts keep their copies (R51). -/
def putOverlays (i : Nat) (rs : List OverlayRecord) (s : State) : State := { s with bank := putAll s.bank i rs }

/-- Scenario Blocks are written as they are (R89). -/
def storeBlocks (i : Nat) (gs : List (List Word)) (s : State) : Answer :=
  done [] { s with scenario := { s.scenario with blocks := Mem.writeAll s.scenario.blocks (5 * i) gs.flatten } }

/-- Episode Entries are written as they are (R89). -/
def storeEntries (i : Nat) (gs : List (List Word)) (s : State) : Answer :=
  done [] { s with scenario := { s.scenario with entries := Mem.writeAll s.scenario.entries (2 * i) gs.flatten } }

/-! ### WATCH (R113) -/

/-- The fires that written watches made at the latest tick and that still wait are taken under the old records (R113), in ascending
watch number and ahead of the waiting fires of watches not written: R120 gives no order (log 15). -/
def takeFiresOf (i n : Nat) (s : State) : State :=
  (List.finRange 8).foldl (fun s w => if i ≤ w.val ∧ w.val < i + n then takeFire w s else s) s

/-- Watch Records are written and the run state of each is reset (R113). -/
def putWatches (i : Nat) (rs : List WatchRecord) (s : State) : State :=
  let s1 := takeFiresOf i rs.length s
  { s1 with watch := { s1.watch with watches := putAll s1.watch.watches i (rs.map Watch.cleared) } }

/-! ### TRACK (R126, R127) -/

/-- Whether two regions share an address. -/
def regionsMeet (d e : TrackDescriptor) : Bool := decide (d.base < e.base + e.size) && decide (e.base < d.base + d.size)

/-- Whether a track would move while it is written: PLAYING or UNDERRUN (R126, check 3). -/
def Track.inUse (x : Track) : Bool := decide (x.state = .playing) || decide (x.state = .underrun)

/-- Check 4 of R126 on the descriptors as they would stand: a written FED region meets another FED region. -/
def regionsClash (i n : Nat) (xs : Vector Track 8) : Bool :=
  (List.finRange 8).any fun t =>
    decide (i ≤ t.val) && decide (t.val < i + n) && decide (xs[t].desc.mode = .fed)
      && (List.finRange 8).any fun u =>
        decide (u ≠ t) && decide (xs[u].desc.mode = .fed) && regionsMeet xs[t].desc xs[u].desc

/-- Track Descriptors are checked and written, and the run state of each is reset (R126, R127). -/
def storeTracks (i : Nat) (gs : List (List Word)) (s : State) : Answer :=
  match decodeAll trackOf? gs with
  | none => refuse .range s
  | some ds =>
    let xs := putAll s.replay.tracks i (ds.map Track.cleared)
    if (List.finRange 8).any fun t =>
        decide (i ≤ t.val) && decide (t.val < i + ds.length) && (s.track t).inUse then refuse .busy s
    else if regionsClash i ds.length xs then refuse .overlap s
    else done [] { s with replay := { s.replay with tracks := xs } }

/-! ### CAPTURE (R142) -/

/-- Whether a channel stands twice in the record's list. -/
def CaptureRecord.repeats (r : CaptureRecord) : Bool := !decide (r.list.toList.take r.channels).Nodup

/-- Capture Set records are checked and written; the run state stands (R142). -/
def storeCaptures (i : Nat) (gs : List (List Word)) (s : State) : Answer :=
  match decodeAll captureOf? gs with
  | none => refuse .range s
  | some rs =>
    if rs.any CaptureRecord.repeats then refuse .duplicate s
    else if (List.finRange 2).any fun k =>
        decide (i ≤ k.val) && decide (k.val < i + rs.length) && decide ((s.capture[k]).state ≠ .idle) then
      refuse .busy s
    else
      done []
        { s with capture := Vector.ofFn fun k =>
            { s.capture[k] with record := (written? i rs k.val).getD s.capture[k].record } }

/-! ### SETUP (R31, R157, R158, R165) -/

/-- A change of tick source acts, the new record standing (R31). -/
def changeSource (s : State) : State :=
  { s with
    ingress := { s.ingress with flow := .recovering, freshRun := 0, flowDue := none }
    timer :=
      { s.timer with
        interval := some (s.timer.interval.getD s.setup.period)
        heldTick := false
        starve := none } }

/-- A change of report hold from yes to no requests a report while the summary is not empty (R165). -/
def releaseHold (s : State) : State :=
  { s with tx := { s.tx with report := s.tx.report || s.events.summary != 0 } }

/-- The Setup record is stored, and then each changed field acts (R158). -/
def putSetup (x : Setup) (s : State) : State :=
  let s1 := { s with setup := x }
  let s2 := if x.source = s.setup.source then s1 else changeSource s1
  if s.setup.hold && !x.hold then releaseHold s2 else s2

/-- The write of the SETUP table. -/
def putSetups (_i : Nat) (rs : List Setup) (s : State) : State :=
  match rs with
  | x :: _ => putSetup x s
  | [] => s

/-! ### Counters and events (R162, R163, R166) -/

/-- Counter `i` as it stands. -/
def counterAt (s : State) (i : Nat) : Word := if h : i < 66 then s.events.counters[i] else 0

/-- READ COUNTERS (R162). -/
def readCountersRequest (r : Request) (s : State) : Answer :=
  if 65 < r.index ∨ 66 < r.index + r.count then refuse .noIndex s
  else if r.count ≤ Config.dataRoom then done ((List.range r.count).map fun j => counterAt s (r.index + j)) s
  else
    { state := s, status := .part, data := (List.range Config.dataRoom).map fun j => counterAt s (r.index + j) }

/-- LOAD COUNTER (R163). -/
def loadCounterRequest (r : Request) (s : State) : Answer :=
  match index? 66 r.index with
  | none => refuse .noIndex s
  | some i =>
    match r.data with
    | [] => refuse .range s
    | v :: _ =>
      done [s.events.counters[i]] { s with events := { s.events with counters := s.events.counters.set i v } }

/-- READ EVENTS (R166): the flags and the summary are read and cleared, and a report request is withdrawn. -/
def readEventsRequest (_r : Request) (s : State) : Answer :=
  done (eventWords s)
    { s with events := { s.events with flags := 0, summary := 0 }, tx := { s.tx with report := false } }

/-! ### The rows -/

/-- READ_RECORD. -/
def execReadRecord (s : State) : Host.Outcome State Fault Refusal := request (codeIs 1) readRecordRequest s

/-- WRITE_RECORD_CHANNEL (R34). -/
def execWriteRecordChannel (s : State) : Host.Outcome State Fault Refusal :=
  request (writeRow 1) (writeTable 1 32 6 (storeDecoded channelOf? putChannels)) s

/-- WRITE_RECORD_SLOTMAP (R18). -/
def execWriteRecordSlotmap (s : State) : Host.Outcome State Fault Refusal :=
  request (writeRow 2) (writeTable 2 32 1 storeSlotMap) s

/-- WRITE_RECORD_OVERLAY (R50). -/
def execWriteRecordOverlay (s : State) : Host.Outcome State Fault Refusal :=
  request (writeRow 3) (writeTable 3 256 12 (storeDecoded overlayOf? putOverlays)) s

/-- WRITE_RECORD_BLOCK (R89). -/
def execWriteRecordBlock (s : State) : Host.Outcome State Fault Refusal :=
  request (writeRow 4) (writeTable 4 128 5 storeBlocks) s

/-- WRITE_RECORD_EPISODE (R89). -/
def execWriteRecordEpisode (s : State) : Host.Outcome State Fault Refusal :=
  request (writeRow 5) (writeTable 5 1024 2 storeEntries) s

/-- WRITE_RECORD_WATCH (R112, R113). -/
def execWriteRecordWatch (s : State) : Host.Outcome State Fault Refusal :=
  request (writeRow 6) (writeTable 6 8 6 (storeDecoded watchRecordOf? putWatches)) s

/-- WRITE_RECORD_TRACK (R126). -/
def execWriteRecordTrack (s : State) : Host.Outcome State Fault Refusal :=
  request (writeRow 7) (writeTable 7 8 4 storeTracks) s

/-- WRITE_RECORD_CAPTURE (R142). -/
def execWriteRecordCapture (s : State) : Host.Outcome State Fault Refusal :=
  request (writeRow 8) (writeTable 8 2 11 storeCaptures) s

/-- WRITE_RECORD_SETUP (R157, R158). -/
def execWriteRecordSetup (s : State) : Host.Outcome State Fault Refusal :=
  request (writeRow 9) (writeTable 9 1 6 (storeDecoded setupOf? putSetups)) s

/-- READ_COUNTERS. -/
def execReadCounters (s : State) : Host.Outcome State Fault Refusal := request (codeIs 24) readCountersRequest s

/-- LOAD_COUNTER. -/
def execLoadCounter (s : State) : Host.Outcome State Fault Refusal := request (codeIs 25) loadCounterRequest s

/-- READ_EVENTS. -/
def execReadEvents (s : State) : Host.Outcome State Fault Refusal := request (codeIs 26) readEventsRequest s

/-- The codes that name no request (12.2). -/
def undefinedCode (r : Request) : Bool := r.code == 0 || decide (27 < r.code)

/-- UNKNOWN_REQUEST: refused with UNKNOWN, and nothing else is examined (R152). -/
def execUnknownRequest (s : State) : Host.Outcome State Fault Refusal :=
  request undefinedCode (fun _ s => refuse .unknown s) s

end Sys2Proof.Machine
end

