-- ==== Sys2Proof/Machine/Transmit.lean ====
section
/-! DEFINITION. The Link Transmitter's arbiter: choosing the next upstream frame, and the end of a transmission (R7 to R14). -/

namespace Sys2Proof.Machine

/-- Records of a CAPTURE frame: those of the half not yet sent, as many as fit in 64 words (R12). -/
def frameRecords (r : CaptureRecord) (y : Half) (sent : Nat) : List (List Word) :=
  (y.records.drop sent).take (Config.frameRoom / r.channels)

/-- The CAPTURE frame of an entry of the drain queue (R12, R13): record i of a half stands m·i ticks after the first. -/
def captureFrame (e : DrainEntry) (s : State) : UpFrame :=
  let x := s.capture[e.set]
  let y := x.half e.half
  .capture e.set e.half (y.firstSeq + word e.sent) (y.firstTick + BitVec.ofNat 32 (x.record.decimation * e.sent))
    x.record.channels (frameRecords x.record y e.sent)

/-- The line takes a frame. -/
def putOnLine (f : UpFrame) (counts : Bool) (s : State) : State :=
  { s with tx := { s.tx with line := some f, lineCounts := counts } }

/-- The arbiter chooses a frame, and its transmission begins (R9, R10, R11). -/
def choose (s : State) : State :=
  match s.tx.replies with
  | r :: rs => putOnLine (.reply r) false { s with tx := { s.tx with replies := rs } }
  | [] =>
    if s.tx.report then
      putOnLine (.report s.events.summary s.timer.ticks) false { s with tx := { s.tx with report := false } }
    else
      match s.tx.drain with
      | e :: _ => putOnLine (captureFrame e s) true s
      | [] => putOnLine .idle false s

/-- The records a frame carries. -/
def UpFrame.recordCount : UpFrame → Nat
  | .capture _ _ _ _ _ records => records.length
  | .reply _ | .report _ _ | .idle => 0

/-- The end of a CAPTURE frame: the head half's sent count advances, and a half with nothing left leaves the queue and is told
EMPTY (R12, R148). -/
def settleSent (f : UpFrame) (s : State) : State :=
  match s.tx.drain with
  | e :: es =>
    let sent := e.sent + f.recordCount
    if ((s.capture[e.set]).half e.half).records.length ≤ sent then
      halfDrained e.set e.half { s with tx := { s.tx with drain := es } }
    else { s with tx := { s.tx with drain := { e with sent := sent } :: es } }
  | [] => s

/-- UPSTREAM_FRAME_END: the end mark of the frame on the line is sent, and the arbiter chooses the next (R9). What the frame
brings about on the Capture Unit comes before the choice, so a report that CAPTURE_DONE requests may be the next frame: the
spec gives both at the frame's end without an order (R9, R148; log 30). Nothing happens where no frame is on the line. -/
def execUpstreamFrameEnd (s : State) : Host.Outcome State Fault Refusal :=
  .next
    (match s.tx.line with
    | some f => choose (if s.tx.lineCounts then settleSent f s else s)
    | none => s)

end Sys2Proof.Machine
end

