-- ==== Sys2Proof/Machine/Resets.lean ====
section
/-! DEFINITION. RESET DEVICE, RESET_N and INIT, and SAFE_N (R5, R14, R32, R43 to R47, R72, R109, R123, R128, R151, R159,
R167). -/

namespace Sys2Proof.Machine

/-! ### RESET DEVICE (R159) -/

/-- The run state of a capture set starts again; its record and first ticks stay (R151). -/
def CaptureSet.reset (x : CaptureSet) : CaptureSet :=
  { x with
    state := .idle, halfA := x.halfA.emptied, halfB := x.halfB.emptied, nextSeq := 0, recordsDue := 0, ticksToNext := 0,
    due := none }

/-- Sample Ingress after RESET DEVICE: the Slot Map and the views are kept (R32). -/
def Ingress.reset (x : Ingress) : Ingress :=
  { x with
    held := Vector.replicate 32 0, flow := .waiting, staleRun := 0, freshRun := 0, fresh := false, flowDue := none }

/-- The effects of RESET DEVICE in every block, before any event (R159). -/
def resetUnits (s : State) : State :=
  { s with
    rx := { s.rx with expected := none }
    tx := { s.tx with report := false, drain := [], lineCounts := false }
    ingress := s.ingress.reset
    timer := { interval := some s.setup.period, heldTick := false, starve := none, ticks := 0 }
    channels := { s.channels with last := Vector.replicate 32 0 }
    own := Vector.replicate 32 Ownership.initial
    scenario := { s.scenario with slots := Vector.replicate 8 Slot.idle }
    watch := { watches := Vector.ofFn fun w => Watch.cleared s.watch.watches[w].record, hits := 0 }
    replay := { s.replay with tracks := Vector.ofFn fun t => Track.cleared s.replay.tracks[t].desc }
    capture := Vector.ofFn fun k => s.capture[k].reset
    events := { counters := Vector.replicate 66 0, flags := 0, summary := 0 } }

/-- RESET DEVICE: with SAFE_N asserted, SAFE_ON is raised once the flags are cleared (R159, R167). -/
def resetDevice (s : State) : State := if s.safe.asserted then raise .safeOn (resetUnits s) else resetUnits s

/-- RESET DEVICE; its reply follows the effects (R7). -/
def resetDeviceRequest (_r : Request) (s : State) : Answer := done [] (resetDevice s)

/-- RESET_DEVICE. -/
def execResetDevice (s : State) : Host.Outcome State Fault Refusal := request (codeIs 27) resetDeviceRequest s

/-! ### RESET_N and INIT -/

/-- RESET_N is asserted: the line is cut off, the transmitter's queues empty, the Output Port and the timers stop (R7, R14, R23,
R26, R43). A delivery in progress is dropped, and the output word set is that of before it: the spec does not say whether the
words already sent stand in it (log 31). -/
def holdReset (s : State) : State :=
  { s with
    phase := .held
    tx := { replies := [], report := false, drain := [], line := none, lineCounts := false }
    timer := { s.timer with interval := none, heldTick := false, starve := none }
    port := { s.port with sending := none, safeNext := none } }

/-- INIT begins: what takes its default at the start of INIT, and the set of the default records delivered once (R9, R33, R43,
R49, R54, R72, R92, R111, R125, R141, R157, R161). -/
def initStart (s : State) : State :=
  { s with
    phase := .init
    tx := { replies := [], report := false, drain := [], line := some .idle, lineCounts := false }
    ingress := { s.ingress with slotMap := Vector.ofFn fun i => some i }
    timer := { s.timer with interval := none, heldTick := false, starve := none }
    channels := { records := Vector.replicate 32 ChannelRecord.initial, last := Vector.replicate 32 0 }
    bank := Vector.replicate 256 OverlayRecord.initial
    own := Vector.replicate 32 Ownership.initial
    scenario := { s.scenario with slots := Vector.replicate 8 Slot.idle }
    watch := { watches := Vector.replicate 8 (Watch.cleared WatchRecord.initial), hits := 0 }
    replay := { s.replay with tracks := Vector.ofFn fun t => Track.cleared (TrackDescriptor.initial t) }
    capture := Vector.replicate 2 (CaptureSet.cleared CaptureRecord.initial)
    setup := Setup.initial
    events := { counters := Vector.replicate 66 0, flags := 0, summary := 0 }
    port := Port.initial }

/-- What stands at the end of INIT, before READY: the memories cleared, the Link Receiver in HUNT, Sample Ingress and the Frame
Timer at their values after power-on, and SAFE_N judged as it stands (R5, R22 to R24, R27, R32, R44, R89, R124). -/
def initUnits (s : State) : State :=
  { s with
    phase := .running
    rx := { framing := .hunt, buffer := [], expected := none }
    ingress := { Ingress.initial with slotMap := s.ingress.slotMap }
    timer := { interval := some s.setup.period, heldTick := false, starve := none, ticks := 0 }
    scenario := { s.scenario with blocks := [], entries := [] }
    replay := { s.replay with mem := [] }
    safe := { s.safe with asserted := s.safe.low } }

/-- INIT ends: READY is raised, and SAFE_ON with it if SAFE_N is asserted (R44, R167). -/
def initEnd (s : State) : State :=
  let s1 := raise .ready (initUnits s)
  if s1.safe.asserted then raise .safeOn s1 else s1

/-- RESET_N_ASSERT (R14). -/
def execResetNAssert (s : State) : Host.Outcome State Fault Refusal := .next (holdReset s)

/-- INIT_START: power-up, or the release of RESET_N (R43; log 10). -/
def execInitStart (s : State) : Host.Outcome State Fault Refusal := .next (initStart s)

/-- INIT_END (R167). Nothing happens where the part is not in INIT. -/
def execInitEnd (s : State) : Host.Outcome State Fault Refusal :=
  .next (if s.phase = .init then initEnd s else s)

/-! ### SAFE_N (R44 to R47) -/

/-- Slot n, if busy, goes to IDLE and raises SLOT_ABORTED (R45). -/
def abortSafe (n : SlotNo) (s : State) : State :=
  if (s.slot n).state.busy then raise (.slotAborted n) (s.setSlot n Slot.idle) else s

/-- Every channel is cleared and its base context becomes PASS (R45, R54, R72). -/
def clearAllToPass (s : State) : State := { s with own := Vector.ofFn fun c =>
    { base := Context.standing s.channels.last[c], active := none, stack := [], waiting := [] } }

/-- Every track becomes STOPPED and keeps the rest (R45, R140). -/
def stopTracks (s : State) : State :=
  { s with replay := { s.replay with tracks := Vector.ofFn fun t => stopTrack (s.track t) } }

/-- The assertion of SAFE_N, one event (R45). -/
def assertSafe (s : State) : State :=
  let s1 := (List.finRange 8).foldl (fun s n => abortSafe n s) s
  let s2 := stopTracks (clearAllToPass { s1 with safe := { s1.safe with asserted := true } })
  raise .safeOn (startSafeDelivery s2)

/-- The line stands low or high. -/
def State.setLow (b : Bool) (s : State) : State := { s with safe := { s.safe with low := b } }

/-- SAFE_N_ASSERT: the line is taken as asserted (R44, R45). While RESET_N is asserted and during INIT only the line's level is
noted (R44; log 18). -/
def execSafeNAssert (s : State) : Host.Outcome State Fault Refusal :=
  .next (if s.phase = .running ∧ s.safe.asserted = false then assertSafe (s.setLow true) else s.setLow true)

/-- The release of SAFE_N (R47). The fires made while it was asserted and not yet taken come before it, so that they start no
slot armed after it (R123; log 6). -/
def releaseSafe (s : State) : State :=
  raise .safeOff { takeFires s with safe := { asserted := false, low := false } }

/-- SAFE_N_RELEASE: the line is taken as released (R44, R47). -/
def execSafeNRelease (s : State) : Host.Outcome State Fault Refusal :=
  .next (if s.phase = .running ∧ s.safe.asserted = true then releaseSafe s else s.setLow false)

end Sys2Proof.Machine
end

