-- ==== Sys2Proof/Machine/Dispatch.lean ====
section
/-! DEFINITION. One arm per command: the call of its meaning. -/

namespace Sys2Proof.Machine

/-- The effect of a command on everything but the queue of waiting commands. -/
def exec (i : Instr) (s : State) : Host.Outcome State Fault Refusal :=
  match i with
  | .wordReceived w => Sys2Proof.Machine.execWordReceived w s
  | .startMark => Sys2Proof.Machine.execStartMark s
  | .codeViolation => Sys2Proof.Machine.execCodeViolation s
  | .frameRejected => Sys2Proof.Machine.execFrameRejected s
  | .sampleFrame elapsed order => Sys2Proof.Machine.execSampleFrame elapsed order s
  | .fillFrame => Sys2Proof.Machine.execFillFrame s
  | .unknownRequest => Sys2Proof.Machine.execUnknownRequest s
  | .readRecord => Sys2Proof.Machine.execReadRecord s
  | .writeRecordChannel => Sys2Proof.Machine.execWriteRecordChannel s
  | .writeRecordSlotmap => Sys2Proof.Machine.execWriteRecordSlotmap s
  | .writeRecordOverlay => Sys2Proof.Machine.execWriteRecordOverlay s
  | .writeRecordBlock => Sys2Proof.Machine.execWriteRecordBlock s
  | .writeRecordEpisode => Sys2Proof.Machine.execWriteRecordEpisode s
  | .writeRecordWatch => Sys2Proof.Machine.execWriteRecordWatch s
  | .writeRecordTrack => Sys2Proof.Machine.execWriteRecordTrack s
  | .writeRecordCapture => Sys2Proof.Machine.execWriteRecordCapture s
  | .writeRecordSetup => Sys2Proof.Machine.execWriteRecordSetup s
  | .readMemory => Sys2Proof.Machine.execReadMemory s
  | .writeMemory => Sys2Proof.Machine.execWriteMemory s
  | .setStanding => Sys2Proof.Machine.execSetStanding s
  | .patch => Sys2Proof.Machine.execPatch s
  | .setViews => Sys2Proof.Machine.execSetViews s
  | .channelStatus => Sys2Proof.Machine.execChannelStatus s
  | .armSlot => Sys2Proof.Machine.execArmSlot s
  | .abortSlot => Sys2Proof.Machine.execAbortSlot s
  | .clearSlot => Sys2Proof.Machine.execClearSlot s
  | .slotStatus => Sys2Proof.Machine.execSlotStatus s
  | .slotSummary => Sys2Proof.Machine.execSlotSummary s
  | .resetScenarios => Sys2Proof.Machine.execResetScenarios s
  | .playTrack => Sys2Proof.Machine.execPlayTrack s
  | .stopTrack => Sys2Proof.Machine.execStopTrack s
  | .appendTrack => Sys2Proof.Machine.execAppendTrack s
  | .trackStatus => Sys2Proof.Machine.execTrackStatus s
  | .armCapture => Sys2Proof.Machine.execArmCapture s
  | .stopCapture => Sys2Proof.Machine.execStopCapture s
  | .captureStatus => Sys2Proof.Machine.execCaptureStatus s
  | .rearmWatch => Sys2Proof.Machine.execRearmWatch s
  | .readHits => Sys2Proof.Machine.execReadHits s
  | .readCounters => Sys2Proof.Machine.execReadCounters s
  | .loadCounter => Sys2Proof.Machine.execLoadCounter s
  | .readEvents => Sys2Proof.Machine.execReadEvents s
  | .resetDevice => Sys2Proof.Machine.execResetDevice s
  | .frameTimerExpiry order => Sys2Proof.Machine.execFrameTimerExpiry order s
  | .heldTickRelease order => Sys2Proof.Machine.execHeldTickRelease order s
  | .deliveryComplete => Sys2Proof.Machine.execDeliveryComplete s
  | .flowLive => Sys2Proof.Machine.execFlowLive s
  | .flowStarved => Sys2Proof.Machine.execFlowStarved s
  | .starveTimerExpiry => Sys2Proof.Machine.execStarveTimerExpiry s
  | .trackSpanEnd t => Sys2Proof.Machine.execTrackSpanEnd t s
  | .watchFire w => Sys2Proof.Machine.execWatchFire w s
  | .slotDelayExpiry n => Sys2Proof.Machine.execSlotDelayExpiry n s
  | .entryDurationExpiry n => Sys2Proof.Machine.execEntryDurationExpiry n s
  | .captureRecordDue k => Sys2Proof.Machine.execCaptureRecordDue k s
  | .captureLengthReached k => Sys2Proof.Machine.execCaptureLengthReached k s
  | .upstreamFrameEnd => Sys2Proof.Machine.execUpstreamFrameEnd s
  | .resetNAssert => Sys2Proof.Machine.execResetNAssert s
  | .initStart => Sys2Proof.Machine.execInitStart s
  | .initEnd => Sys2Proof.Machine.execInitEnd s
  | .safeNAssert => Sys2Proof.Machine.execSafeNAssert s
  | .safeNRelease => Sys2Proof.Machine.execSafeNRelease s
  | .safeDeliveryComplete => Sys2Proof.Machine.execSafeDeliveryComplete s

end Sys2Proof.Machine
end

