-- ==== Sys2Proof/Safety.lean ====
section
/-! DEFINITION. What a sound state is: the laws the spec states of the whole machine, in the terms the claims use. -/

namespace Sys2Proof.Machine

/-! ### Requests -/

/-- The end mark completes the good MANAGE frame `r`, and the reply queue has room for its reply (R4, R6). -/
def State.serves (s : State) (r : Request) : Prop :=
  s.taken? = some (.manage r) ∧ s.tx.replies.length < Config.replyRoom

/-- A reply to `r` has joined the tail of the reply queue (R8). -/
def State.answered (r : Request) (st : Status) (data : List Word) (s : State) : State :=
  { s with tx := { s.tx with replies := s.tx.replies ++ [{ tag := r.tag, status := st, data := data }] } }

/-- The table a WRITE RECORD row writes: its object, its number of records and the words of a record (12.2, 12.4). -/
def writtenTable? : Instr → Option (Nat × Nat × Nat)
  | .writeRecordChannel => some (1, 32, 6)
  | .writeRecordSlotmap => some (2, 32, 1)
  | .writeRecordOverlay => some (3, 256, 12)
  | .writeRecordBlock => some (4, 128, 5)
  | .writeRecordEpisode => some (5, 1024, 2)
  | .writeRecordWatch => some (6, 8, 6)
  | .writeRecordTrack => some (7, 8, 4)
  | .writeRecordCapture => some (8, 2, 11)
  | .writeRecordSetup => some (9, 1, 6)
  | _ => none

/-- The code of a request row other than the nine of WRITE RECORD (12.2). -/
def requestCode? : Instr → Option Nat
  | .readRecord => some 1
  | .readMemory => some 3
  | .writeMemory => some 4
  | .setStanding => some 5
  | .patch => some 6
  | .setViews => some 7
  | .channelStatus => some 8
  | .armSlot => some 9
  | .abortSlot => some 10
  | .clearSlot => some 11
  | .slotStatus => some 12
  | .slotSummary => some 13
  | .resetScenarios => some 14
  | .playTrack => some 15
  | .stopTrack => some 16
  | .appendTrack => some 17
  | .trackStatus => some 18
  | .armCapture => some 19
  | .stopCapture => some 20
  | .captureStatus => some 21
  | .rearmWatch => some 22
  | .readHits => some 23
  | .readCounters => some 24
  | .loadCounter => some 25
  | .readEvents => some 26
  | .resetDevice => some 27
  | _ => none

/-- Whether the request `r` is one of the row `c` (12.2): by its code, or for WRITE RECORD by its table, an object that
names no table being every row's (log 3); an undefined code is the row UNKNOWN_REQUEST's. -/
def rowTakes (c : Instr) (r : Request) : Prop :=
  requestCode? c = some r.code
    ∨ (r.code = 2 ∧ ∃ t, writtenTable? c = some t ∧ (r.object = t.1 ∨ namesTable r.object = false))
    ∨ (c = .unknownRequest ∧ (r.code = 0 ∨ 27 < r.code))

/-! ### Runs and settled states -/

/-- The state after a list of commands executed one after another, none if one of them stops. -/
def State.after : List Instr → State → Option State
  | [], s => some s
  | c :: cs, s =>
    match exec c s with
    | .next t => State.after cs t
    | _ => none

/-- Every event of the latest tick has been taken: no slot has a tick to count, and no fire waits (log 5, log 6). -/
def State.Settled (s : State) : Prop :=
  (∀ n : SlotNo, (s.slot n).counts = false) ∧ ∀ w : WatchNo, (s.watchOf w).fire = none

/-- What the acceptance of the frame `f` leaves, before it asks for a tick (R15 to R17, R21). -/
def State.accepting (f : SampleFrame) (s : State) : State :=
  match s.ahead? f.seq with
  | some d => acceptSamples f (countMissing d s)
  | none => acceptSamples f s

/-- The command `c` makes a tick with order `o`, which occurs in the state `s0`: the Frame Timer's next interval has begun
(R23), the held arrival tick is released (R25), or a frame accepted in PACED mode while LIVE, 5 µs or more after the previous
tick, has been taken (R16, R25, R26). -/
def State.TickStarts (s : State) (c : Instr) (o : CountOrder) (s0 : State) : Prop :=
  s.phase = .running
    ∧ ((c = .frameTimerExpiry o ∧ s.timer.interval.isSome = true
          ∧ s0 = { s with timer := { s.timer with interval := some s.setup.period } })
      ∨ (c = .heldTickRelease o ∧ s.timer.heldTick = true
          ∧ s0 = { s with timer := { s.timer with heldTick := false } })
      ∨ ∃ us f, c = .sampleFrame us o ∧ s.taken? = some (.sample f)
          ∧ (∀ e, s.rx.expected = some e → (f.seq - e).toNat ≤ 32767)
          ∧ s.setup.source = .paced ∧ s.ingress.flow = .live ∧ s.timer.heldTick = false ∧ 5 ≤ us
          ∧ s0 = { s.toHunt.accepting f with timer := { s.timer with starve := some s.setup.starve } })

/-- The tick that follows is the last of the entry in force on slot n (R99). -/
def State.endsAtTick (s : State) (n : SlotNo) : Prop := (s.slot n).state = .running ∧ (s.slot n).ticksLeft ≤ 1

/-- The tick that follows is the last of slot n's delay (R96). -/
def State.claimsAtTick (s : State) (n : SlotNo) : Prop :=
  (s.slot n).state = .armed ∧ (s.slot n).awaiting = false ∧ (s.slot n).delayLeft = 1

/-- The header `hdr` names a downstream kind, its counts are in range, and `n` words between it and the check word are what
it promises (R3, 12.1, 12.2). -/
def goodHeader (hdr : Word) (n : Nat) : Prop :=
  (bits hdr 12 4 = 1 ∧ (1 ≤ bits hdr 6 6 ∧ bits hdr 6 6 ≤ 32) ∧ bits hdr 3 3 ≤ 4 ∧ n = 1 + bits hdr 6 6 + 2 * bits hdr 3 3)
    ∨ (bits hdr 12 4 = 2 ∧ bits hdr 6 6 ≤ 32 ∧ n = 4 + bits hdr 6 6)
    ∨ (bits hdr 12 4 = 3 ∧ n = 0)

/-! ### Records, settings, stores and queues -/

/-- A Channel Record as R34 and R48 keep it: lo ≤ safe value ≤ hi, and the trim in its range. -/
def ChannelRecord.Legal (r : ChannelRecord) : Prop :=
  r.lo.toInt ≤ r.safeValue.toInt ∧ r.safeValue.toInt ≤ r.hi.toInt ∧ -4096 ≤ r.trim.toInt ∧ r.trim.toInt ≤ 4095

/-- Every Channel Record is legal (R48). -/
def State.LimitsHold (s : State) : Prop := ∀ c : Chan, s.channels.records[c].Legal

/-- The Slot Map never maps two positions to one channel (R18). -/
def State.MapDistinct (s : State) : Prop :=
  ∀ (i j : Fin 32) (c : Chan), s.ingress.slotMap[i] = some c → s.ingress.slotMap[j] = some c → i = j

/-- The three addressed stores keep their canonical form (log 23). -/
def State.StoresCanonical (s : State) : Prop :=
  Mem.Wf s.scenario.blocks ∧ Mem.Wf s.scenario.entries ∧ Mem.Wf s.replay.mem

/-- The reply queue holds at most 4 replies, and the frame buffer at most 64 words (R1, R6). -/
def State.QueuesBounded (s : State) : Prop := s.tx.replies.length ≤ 4 ∧ s.rx.buffer.length ≤ 64

/-- The Setup record lies in the ranges of 10.4 (R156, R157). -/
def Setup.Legal (x : Setup) : Prop :=
  (5 ≤ x.period ∧ x.period ≤ 10000) ∧ (10 ≤ x.starve ∧ x.starve ≤ 65535) ∧ (1 ≤ x.staleLimit ∧ x.staleLimit ≤ 255)
    ∧ (1 ≤ x.recovery ∧ x.recovery ≤ 255) ∧ (1 ≤ x.expected ∧ x.expected ≤ 32)

/-- A view base is 0, 8, 16 or 24 (R22). -/
def viewLegal (v : Nat) : Prop := v = 0 ∨ v = 8 ∨ v = 16 ∨ v = 24

/-- The tables, the stores, the queues, the Setup record and the views are as the spec's checks keep them. -/
def State.TablesLegal (s : State) : Prop :=
  s.LimitsHold ∧ s.MapDistinct ∧ s.StoresCanonical ∧ s.QueuesBounded ∧ s.setup.Legal
    ∧ viewLegal s.ingress.view0 ∧ viewLegal s.ingress.view1

/-! ### Events (R164, R165) -/

/-- Some detail flag of category `c` is set. -/
def flagged (flags : BitVec 123) (c : Nat) : Prop := ∃ f, f < 123 ∧ flagCategory f = c ∧ flags.getLsbD f = true

/-- A category is pending exactly when one of its flags is set (R164); a report request, and a REPORT frame on the line, show
a summary that is not empty (R11). -/
def State.EventsConsistent (s : State) : Prop :=
  (∀ c, c < 8 → (s.events.summary.getLsbD c = true ↔ flagged s.events.flags c))
    ∧ (s.tx.report = true → s.events.summary ≠ 0)
    ∧ ∀ sm tk, s.tx.line = some (.report sm tk) → sm ≠ 0

/-! ### Tracks (R126, R131, R135) -/

/-- A Track Descriptor as R126 keeps it. -/
def TrackDescriptor.Legal (d : TrackDescriptor) : Prop :=
  1 ≤ d.size ∧ d.base + d.size ≤ 65536 ∧ 1 ≤ d.divider ∧ d.divider ≤ 256

/-- A track's playhead stays within its region, its phase below the divider, its fill within its size, and the ring's points
within the region, the write point `fill` places beyond the read point (R131, R133, R135). -/
def Track.Legal (x : Track) : Prop :=
  x.desc.Legal ∧ x.playhead < x.desc.size ∧ x.phase < x.desc.divider ∧ x.fill ≤ x.desc.size
    ∧ (x.desc.base ≤ x.readPoint ∧ x.readPoint < x.desc.base + x.desc.size)
    ∧ x.writePoint = x.desc.forward x.readPoint x.fill

/-- Every track is legal, and no two FED regions overlap (R126). -/
def State.TracksLegal (s : State) : Prop :=
  (∀ t : TrackNo, (s.track t).Legal)
    ∧ ∀ t u : TrackNo, t ≠ u → (s.track t).desc.mode = .fed → (s.track u).desc.mode = .fed →
        regionsMeet (s.track t).desc (s.track u).desc = false

/-! ### Contexts (R50, R63, R67, R71) -/

/-- An Overlay Record as R50 keeps it. -/
def OverlayRecord.Legal (r : OverlayRecord) : Prop :=
  r.limit ≤ 32767 ∧ (1 ≤ r.gapOn ∧ r.gapOn ≤ 65535) ∧ (1 ≤ r.gapOff ∧ r.gapOff ≤ 65535)
    ∧ (1 ≤ r.coarse ∧ r.coarse ≤ 12) ∧ (1 ≤ r.patternLength ∧ r.patternLength ≤ 16)

/-- The range of a transform value (R67). -/
def transformRange (y : Int) : Prop := -327671 ≤ y ∧ y ≤ 327678

/-- A context's drift stays within its limit (R71), its positions within their cycles (R65, R71), and its kept values are
transform values (R53). -/
def Context.Legal (x : Context) : Prop :=
  x.fields.Legal
    ∧ (-((x.fields.limit : Int) * 256) ≤ x.drift ∧ x.drift ≤ (x.fields.limit : Int) * 256)
    ∧ x.gapPhase < x.fields.gapOn + x.fields.gapOff ∧ x.patternIndex < x.fields.patternLength
    ∧ (∀ f ∈ x.freeze, transformRange f) ∧ ∀ g ∈ x.gapHeld, transformRange g

/-- Every Overlay Record, every context and every last transform value is legal (R50, R67, R71). -/
def State.ContextsLegal (s : State) : Prop :=
  (∀ i : Fin 256, s.bank[i].Legal)
    ∧ ∀ c : Chan, transformRange s.channels.last[c] ∧ s.own[c].base.Legal
        ∧ (∀ x ∈ s.own[c].active, x.Legal) ∧ ∀ x ∈ s.own[c].stack, x.Legal

/-! ### The safe line (R46) -/

/-- While SAFE_N is asserted every slot is IDLE or FAULTED; so it is during INIT, at whose end the line is judged (R44,
R46). -/
def State.SafeLineHolds (s : State) : Prop :=
  s.safe.asserted = true ∨ s.phase = .init → ∀ n : SlotNo, (s.slot n).state.busy = false

/-! ### Capture sets (9.2, R12, R145) -/

/-- The halves of a set in each of its states (9.2). -/
def CaptureSet.StateLegal (x : CaptureSet) : Prop :=
  match x.state with
  | .idle | .armed => x.halfA.state = .vacant ∧ x.halfB.state = .vacant
  | .recording =>
    (x.halfA.state = .filling ∧ x.halfB.state ≠ .filling) ∨ (x.halfB.state = .filling ∧ x.halfA.state ≠ .filling)
  | .overrun => x.halfA.state = .full ∧ x.halfB.state = .full
  | .draining =>
    x.halfA.state ≠ .filling ∧ x.halfB.state ≠ .filling ∧ (x.halfA.state = .full ∨ x.halfB.state = .full)

/-- The records of a half in each of its states, in a set with room for `room` records (9.1, R145, R147). -/
def Half.Legal (room : Nat) (y : Half) : Prop :=
  match y.state with
  | .vacant => y.records = []
  | .filling => y.records.length < room
  | .full => y.records ≠ [] ∧ y.records.length ≤ room

/-- A capture set as chapter 9 keeps it; no record is due between ticks. -/
def CaptureSet.Legal (x : CaptureSet) : Prop :=
  (1 ≤ x.record.channels ∧ x.record.channels ≤ 8) ∧ x.StateLegal ∧ x.halfA.Legal x.record.room
    ∧ x.halfB.Legal x.record.room ∧ x.due = none

/-- The drain queue holds each FULL half once and no other half, each with records still to send (R12). -/
def State.DrainLegal (s : State) : Prop :=
  (s.tx.drain.map fun e => (e.set, e.half)).Nodup
    ∧ (∀ (k : SetNo) (h : HalfName),
        (s.capture[k].half h).state = .full ↔ (k, h) ∈ s.tx.drain.map fun e => (e.set, e.half))
    ∧ ∀ e ∈ s.tx.drain, e.sent < (s.capture[e.set].half e.half).records.length

/-- The Capture Unit and the drain queue agree (9.2, R12). While RESET_N is asserted the queue is empty and the sets are not
served (R14). -/
def State.CapturesLegal (s : State) : Prop :=
  (∀ k : SetNo, s.capture[k].Legal) ∧ (s.phase ≠ .held → s.DrainLegal) ∧ (s.phase = .held → s.tx.drain = [])

/-! ### Ownership (R73 to R75) -/

/-- Slot n holds its place on channel c with its latched priority, in state `st`. -/
def State.holdsPlace (s : State) (n : SlotNo) (c : Chan) (p : Int) (st : SlotState) : Prop :=
  (s.slot n).state = st ∧ (s.slot n).latch.target = c ∧ p = ((s.slot n).latch.priority : Int)

/-- The stack law of one channel (R73) and the waiting law (R74). -/
def Ownership.Lawful (o : Ownership) : Prop :=
  o.base.priority = -1 ∧ o.stack.length ≤ 4 ∧ (o.stack.map Context.priority).Pairwise (fun x y => y < x)
    ∧ (o.waiting.map Waiter.slot).Pairwise (fun m n => m < n)
    ∧ match o.active with
      | none => o.stack = [] ∧ o.waiting = []
      | some a =>
        (∀ x ∈ o.stack, x.priority < a.priority) ∧ ∀ w ∈ o.waiting, (w.priority : Int) ≤ a.priority ∨ o.stack.length = 4

/-- Every context and every waiting slot of channel c is its slot's one place in the part (R75). -/
def State.placesHeld (s : State) (c : Chan) : Prop :=
  (∀ x ∈ s.own[c].active, ∃ n, x.owner = some n ∧ s.holdsPlace n c x.priority .running)
    ∧ (∀ x ∈ s.own[c].stack, ∃ n, x.owner = some n ∧ s.holdsPlace n c x.priority .suspended)
    ∧ ∀ w ∈ s.own[c].waiting, s.holdsPlace w.slot c w.priority .waiting

/-- A RUNNING slot owns its channel, a SUSPENDED one stands on its stack, a WAITING one in its waiting set (6.2, R75). -/
def State.hasPlace (s : State) (n : SlotNo) : Prop :=
  let o := s.own[(s.slot n).latch.target]
  match (s.slot n).state with
  | .running => ∃ x ∈ o.active, x.owner = some n
  | .suspended => ∃ x ∈ o.stack, x.owner = some n
  | .waiting => ∃ w ∈ o.waiting, w.slot = n
  | .idle | .armed | .faulted => True

/-- The law of the Ownership Unit: stacks, waiting sets and slots agree on every channel (R73 to R75). -/
def State.OwnershipLawful (s : State) : Prop :=
  (∀ c : Chan, s.own[c].Lawful ∧ s.placesHeld c) ∧ ∀ n : SlotNo, s.hasPlace n

end Sys2Proof.Machine
end

