-- ==== Sys2Proof/WellFormed.lean ====
section
/-! DEFINITION. Which commands name objects that exist (00_scope.md, Indexed objects). -/

namespace Sys2Proof

/-- A command is well formed when the track, watch, slot or set its operand names exists: T0 to T7, W0 to W7, S0 to
S7, K0 and K1. Every other operand covers its whole range. -/
def Instr.wellFormed : Instr → Bool
  | .wordReceived _ => true
  | .startMark => true
  | .codeViolation => true
  | .frameRejected => true
  | .sampleFrame _ _ => true
  | .fillFrame => true
  | .unknownRequest => true
  | .readRecord => true
  | .writeRecordChannel => true
  | .writeRecordSlotmap => true
  | .writeRecordOverlay => true
  | .writeRecordBlock => true
  | .writeRecordEpisode => true
  | .writeRecordWatch => true
  | .writeRecordTrack => true
  | .writeRecordCapture => true
  | .writeRecordSetup => true
  | .readMemory => true
  | .writeMemory => true
  | .setStanding => true
  | .patch => true
  | .setViews => true
  | .channelStatus => true
  | .armSlot => true
  | .abortSlot => true
  | .clearSlot => true
  | .slotStatus => true
  | .slotSummary => true
  | .resetScenarios => true
  | .playTrack => true
  | .stopTrack => true
  | .appendTrack => true
  | .trackStatus => true
  | .armCapture => true
  | .stopCapture => true
  | .captureStatus => true
  | .rearmWatch => true
  | .readHits => true
  | .readCounters => true
  | .loadCounter => true
  | .readEvents => true
  | .resetDevice => true
  | .frameTimerExpiry _ => true
  | .heldTickRelease _ => true
  | .deliveryComplete => true
  | .flowLive => true
  | .flowStarved => true
  | .starveTimerExpiry => true
  | .trackSpanEnd t => decide (t < 8)
  | .watchFire w => decide (w < 8)
  | .slotDelayExpiry n => decide (n < 8)
  | .entryDurationExpiry n => decide (n < 8)
  | .captureRecordDue k => decide (k < 2)
  | .captureLengthReached k => decide (k < 2)
  | .upstreamFrameEnd => true
  | .resetNAssert => true
  | .initStart => true
  | .initEnd => true
  | .safeNAssert => true
  | .safeNRelease => true
  | .safeDeliveryComplete => true

end Sys2Proof
end

