-- ==== Sys2Proof/Certificates/Slice0/Obligations.lean ====
section
/-! DEFINITION. The statements for the provers: what the commands do, by chapter of the spec, and the laws every step keeps. -/

open Sys2Proof Sys2Proof.Machine

/-! ### The queue, the line and the frames (chapters 1 and 12) -/

/-- A step executes the command at the front of the queue with the queue's rest.
The queue of commands is the model's (log 22). -/
def Obligations.StepTakesTheFrontCommand : Prop :=
  ∀ (c : Instr) (q : List Instr) (s : State), step (s.withPending (c :: q)) = exec c (s.withPending q)

/-- A command that names an object that exists has a next state, whatever the state is; one that names none faults. A request row
whose frame does not stand in the buffer leaves the state as it is (log 1, log 2). The fault is the model's choice (log 24). -/
def Obligations.CommandsStopOnlyOnAbsentObjects : Prop :=
  ∀ (c : Instr) (s : State),
    (c.wellFormed = true → ∃ t, exec c s = .next t)
    ∧ (c.wellFormed = false → exec c s = .fault .noSuchObject)
    ∧ ((requestCode? c ≠ none ∨ writtenTable? c ≠ none ∨ c = .unknownRequest) →
      (∀ r, s.taken? = some (.manage r) → ¬ rowTakes c r) → exec c s = .next s)

/-- Words, start marks and code violations in HUNT, in FRAME, and while the Link Receiver delimits no frame (1.1); a start mark, the
words of a frame and its check word leave exactly those words in the frame buffer. -/
def Obligations.LineSymbolsDelimitFrames : Prop :=
  (∀ (s : State) (w : Word),
     (s.phase = .running → s.rx.framing = .hunt →
       exec (.wordReceived w) s = .next s ∧ exec .codeViolation s = .next s
         ∧ exec .startMark s = .next { s with rx := { s.rx with framing := .frame, buffer := [] } })
     ∧ (s.phase = .running → s.rx.framing = .frame →
       (s.rx.buffer.length < 64 →
           exec (.wordReceived w) s = .next { s with rx := { s.rx with buffer := s.rx.buffer ++ [w] } })
         ∧ (64 ≤ s.rx.buffer.length → exec (.wordReceived w) s = .next (advance ctrBadFrames 1 s.toHunt))
         ∧ exec .codeViolation s = .next (advance ctrBadFrames 1 s.toHunt)
         ∧ exec .startMark s
           = .next (advance ctrBadFrames 1 { s with rx := { s.rx with framing := .frame, buffer := [] } }))
     ∧ (s.phase ≠ .running →
       exec (.wordReceived w) s = .next s ∧ exec .codeViolation s = .next s ∧ exec .startMark s = .next s))
  ∧ (∀ (s : State) (content : List Word), s.phase = .running → s.rx.framing = .hunt → content.length ≤ 63 →
       s.after (.startMark :: (content ++ [crc16 content]).map Instr.wordReceived)
         = some { s with rx := { s.rx with framing := .frame, buffer := content ++ [crc16 content] } })

/-- The four checks at an end mark, in their order: each frame discarded advances one counter, and a frame discarded by none
is good. -/
def Obligations.EndMarkChecksTheFrame : Prop :=
  ∀ s : State, s.phase = .running → s.rx.framing = .frame →
    (s.rx.buffer.length < 2 → exec .frameRejected s = .next (advance ctrBadFrames 1 s.toHunt))
    ∧ ∀ (hdr : Word) (body : List Word) (chk : Word), s.rx.buffer = hdr :: (body ++ [chk]) →
      (chk ≠ crc16 (hdr :: body) → exec .frameRejected s = .next (advance ctrCrcErrors 1 s.toHunt))
      ∧ (chk = crc16 (hdr :: body) → ¬ goodHeader hdr body.length →
          exec .frameRejected s = .next (advance ctrBadFrames 1 s.toHunt))
      ∧ (chk = crc16 (hdr :: body) → goodHeader hdr body.length →
          (∃ f, s.taken? = some (.sample f)) ∨ (∃ r, s.taken? = some (.manage r)) ∨ s.taken? = some .fill)

/-- A FILL frame is ignored, a request of an undefined code is answered UNKNOWN, and a full reply queue drops a request of any row
unexecuted, counted in REQ_DROPPED. -/
def Obligations.FramesIgnoredAnsweredOrDropped : Prop :=
  (∀ (s : State) (r : Request),
     (s.taken? = some .fill → exec .fillFrame s = .next s.toHunt)
     ∧ (s.serves r → (r.code = 0 ∨ 27 < r.code) → exec .unknownRequest s = .next (s.toHunt.answered r .unknown [])))
  ∧ (∀ (c : Instr) (r : Request) (s : State), rowTakes c r → s.taken? = some (.manage r) → 4 ≤ s.tx.replies.length →
       exec c s = .next (advance ctrReqDropped 1 s.toHunt))

/-- A MANAGE frame built from a request is taken as that request, and a SAMPLE frame built from its fields as those fields, every
field at every value. The other way, the words of each upstream frame carry its fields at their places: the kind in the header, which
is 0 elsewhere but for the data count of a REPLY, and the check word of the words before it last. -/
def Obligations.DownstreamFramesRoundTrip : Prop :=
  (∀ r : Request, r.Fits → takeFrame (r.content ++ [crc16 r.content]) = .manage r)
  ∧ (∀ f : SampleFrame, 1 ≤ f.samples.length → f.samples.length ≤ 32 → f.patches.length ≤ 4 →
       takeFrame (f.content ++ [crc16 f.content]) = .sample f)
  ∧ (∀ r : Reply, r.data.length ≤ 32 →
       ∃ hdr w : Word, (UpFrame.reply r).onLine = hdr :: w :: (r.data ++ [crc16 (hdr :: w :: r.data)])
         ∧ bits hdr 12 4 = 9 ∧ bits hdr 6 6 = r.data.length ∧ bits hdr 0 6 = 0 ∧ bits w 8 8 = r.tag.toNat
         ∧ bits w 0 8
           = (match r.status with
              | .ok => 0 | .part => 1 | .busy => 2 | .held => 3 | .range => 4 | .duplicate => 5 | .overlap => 6
              | .noTable => 7 | .noIndex => 8 | .emptyList => 9 | .listBounds => 10 | .channelOff => 11
              | .badPartner => 12 | .safe => 13 | .unknown => 14))
  ∧ (∀ (m : BitVec 8) (tk : BitVec 32),
       ∃ hdr w hi lo : Word, (UpFrame.report m tk).onLine = [hdr, w, hi, lo, crc16 [hdr, w, hi, lo]]
         ∧ bits hdr 12 4 = 10 ∧ bits hdr 0 12 = 0 ∧ (∀ c, w.getLsbD c = m.getLsbD c)
         ∧ hi.toNat * 65536 + lo.toNat = tk.toNat)
  ∧ (∀ (k : SetNo) (h : HalfName) (seq : Word) (tk : BitVec 32) (n : Nat) (rs : List (List Word)), n ≤ 8 → rs.length ≤ 64 →
       ∃ hdr w hi lo : Word,
         (UpFrame.capture k h seq tk n rs).onLine
             = hdr :: w :: seq :: hi :: lo :: (rs.flatten ++ [crc16 (hdr :: w :: seq :: hi :: lo :: rs.flatten)])
         ∧ bits hdr 12 4 = 11 ∧ bits hdr 0 12 = 0
         ∧ bits w 15 1 = k.val ∧ bits w 14 1 = (match h with | .a => 0 | .b => 1) ∧ bits w 10 4 = n ∧ bits w 7 3 = 0
         ∧ bits w 0 7 = rs.length ∧ hi.toNat * 65536 + lo.toNat = tk.toNat)
  ∧ (∃ hdr : Word, UpFrame.idle.onLine = [hdr, crc16 [hdr]] ∧ bits hdr 12 4 = 12 ∧ bits hdr 0 12 = 0)

/-- The end of an upstream frame. The arbiter's choice is a reply, else a report, else the next records of the head half, else
IDLE. The end of a CAPTURE frame first moves the sent count on; with none left the half leaves the queue, EMPTY, and the set goes
on by its state; then the same choice is made, whatever else waits in the queues.
That CAPTURE_DONE and its report request come before the choice is the model's choice (log 30). -/
def Obligations.FrameEndChoosesTheNextFrame : Prop :=
  (∀ (s : State) (f : UpFrame), s.tx.line = some f → s.tx.lineCounts = false →
     (∀ r rs, s.tx.replies = r :: rs →
       exec .upstreamFrameEnd s
         = .next { s with tx := { s.tx with replies := rs, line := some (.reply r), lineCounts := false } })
     ∧ (s.tx.replies = [] → s.tx.report = true →
       exec .upstreamFrameEnd s
         = .next { s with tx := { s.tx with
             report := false, line := some (.report s.events.summary s.timer.ticks), lineCounts := false } })
     ∧ (s.tx.replies = [] → s.tx.report = false → ∀ e es, s.tx.drain = e :: es →
       let x := s.capture[e.set]
       let y := x.half e.half
       exec .upstreamFrameEnd s
         = .next { s with tx := { s.tx with
             line := some (.capture e.set e.half (y.firstSeq + word e.sent)
               (y.firstTick + BitVec.ofNat 32 (x.record.decimation * e.sent)) x.record.channels
               ((y.records.drop e.sent).take (64 / x.record.channels)))
             lineCounts := true } })
     ∧ (s.tx.replies = [] → s.tx.report = false → s.tx.drain = [] →
       exec .upstreamFrameEnd s = .next { s with tx := { s.tx with line := some .idle, lineCounts := false } }))
  ∧ (∀ (s : State) (f : UpFrame) (e : DrainEntry) (es : List DrainEntry), s.tx.line = some f → s.tx.lineCounts = true →
       s.tx.drain = e :: es →
       let x := s.capture[e.set]
       let y := x.half e.half
       let k := e.sent + f.recordCount
       let queue (d : List DrainEntry) : Transmitter := { s.tx with drain := d, lineCounts := false }
       (k < y.records.length →
         exec .upstreamFrameEnd s = exec .upstreamFrameEnd { s with tx := queue ({ e with sent := k } :: es) })
       ∧ (y.records.length ≤ k →
         (x.state = .overrun →
           exec .upstreamFrameEnd s
             = exec .upstreamFrameEnd { s with
                 capture := s.capture.set e.set
                   { x.setHalf e.half { y with state := .filling, records := [] } with state := .recording }
                 tx := queue es })
         ∧ ((x.state = .recording ∨ (x.state = .draining ∧ (x.half e.half.other).state = .full)) →
           exec .upstreamFrameEnd s
             = exec .upstreamFrameEnd { s with
                 capture := s.capture.set e.set (x.setHalf e.half { y with state := .vacant, records := [] })
                 tx := queue es })
         ∧ (x.state = .draining → (x.half e.half.other).state ≠ .full →
           exec .upstreamFrameEnd s
             = exec .upstreamFrameEnd (raise (.captureDone e.set) { s with
                 capture := s.capture.set e.set
                   { x.setHalf e.half { y with state := .vacant, records := [] } with state := .idle }
                 tx := queue es }))))
  ∧ (∀ (s : State) (k : SetNo), s.setup.masks.getLsbD 4 = false →
       (raise (.captureDone k) s).events.flags = s.events.flags ||| BitVec.twoPow 123 (45 + k.val)
       ∧ (s.events.summary = 0 → s.setup.hold = false → (raise (.captureDone k) s).tx.report = true))

/-! ### Sample frames and the tick (chapter 2) -/

/-- A SAMPLE frame whose acceptance makes no tick: out of the window it is discarded whole; else the held samples, the expected
number, the fresh marker and the counters of gaps, short frames and overtakes move, the patch words act in frame order on the
active contexts, and nothing else moves. -/
def Obligations.SampleFrameIsAcceptedByItsNumber : Prop :=
  ∀ (s : State) (f : SampleFrame) (us : Nat) (o : CountOrder), s.taken? = some (.sample f) →
    (∀ e, s.rx.expected = some e → 32767 < (f.seq - e).toNat →
      exec (.sampleFrame us o) s = .next (advance ctrSeqBackward 1 s.toHunt))
    ∧ ((∀ e, s.rx.expected = some e → (f.seq - e).toNat ≤ 32767) → s.MapDistinct →
        (s.setup.source = .lcl ∨ s.ingress.flow ≠ .live) →
      ∃ t, exec (.sampleFrame us o) s = .next t
        ∧ t.rx = { framing := .hunt, buffer := [], expected := some (f.seq + 1) }
        ∧ (∀ (i : Fin 32) (c : Chan), s.ingress.slotMap[i] = some c →
            t.ingress.held[c]
              = if i.val < s.setup.expected then (f.samples[i.val]?).getD s.ingress.held[c] else s.ingress.held[c])
        ∧ (∀ c : Chan, (∀ i : Fin 32, s.ingress.slotMap[i] ≠ some c) → t.ingress.held[c] = s.ingress.held[c])
        ∧ t.ingress = { s.ingress with held := t.ingress.held, fresh := true }
        ∧ (∀ i : CounterNo, t.events.counters[i] = s.events.counters[i]
            + if i = ctrSeqMissing then (match s.rx.expected with | some e => f.seq - e | none => 0)
              else if i = ctrShortFrames then (if f.samples.length < s.setup.expected then 1 else 0)
              else if i = ctrOvertaken then (if s.ingress.fresh = true then 1 else 0)
              else 0)
        ∧ t = { s with rx := t.rx, ingress := t.ingress, own := t.own, events := t.events,
                       tx := { s.tx with report := t.tx.report } }
        ∧ t.own = (applyPatches f.patches s.toHunt).own
        ∧ (f.patches = [] → t.own = s.own))

/-- Patch words act in frame order on the contexts active at acceptance, at their view's base plus their offset; SET VIEWS rounds both
bases down to a multiple of 8 and limits them to 24. -/
def Obligations.PatchWordsAndViews : Prop :=
  (∀ (s : State) (p : PatchWord) (ps : List PatchWord) (c : Chan),
     c.val = (if p.view1 then s.ingress.view1 else s.ingress.view0) + p.offset.val →
     (s.enabled c = false → applyPatches (p :: ps) s = applyPatches ps s)
     ∧ (s.enabled c = true → ∃ t, applyPatches (p :: ps) s = applyPatches ps t
         ∧ t = { s with own := t.own } ∧ (∀ d : Chan, d ≠ c → t.own[d] = s.own[d])
         ∧ t.own[c].stack = s.own[c].stack ∧ t.own[c].waiting = s.own[c].waiting
         ∧ (∀ a, s.own[c].active = some a → t.own[c].base = s.own[c].base)
         ∧ t.own[c].current
           = { s.own[c].current with fields :=
               match p.field with
               | .gain => { s.own[c].current.fields with gain := p.value }
               | .offset => { s.own[c].current.fields with offset := p.value }
               | .hold => { s.own[c].current.fields with hold := p.value }
               | .step => { s.own[c].current.fields with step := p.value } }))
  ∧ (∀ (s : State) (r : Request), s.serves r → r.code = 7 →
       (∀ a b ds, r.data = a :: b :: ds →
         let v0 := min 24 (8 * (a.toNat / 8))
         let v1 := min 24 (8 * (b.toNat / 8))
         exec .setViews s
           = .next (State.answered r .ok [word v0, word v1]
               { s.toHunt with ingress := { s.ingress with view0 := v0, view1 := v1 } }))
       ∧ (r.data.length < 2 → exec .setViews s = .next (s.toHunt.answered r .range [])))

/-- In PACED mode while LIVE an accepted frame restarts the starve timer and asks for a tick: held if one is held already or less
than 5 µs have passed, else made at once, in the state the acceptance leaves: samples held, fresh marker set, gaps, short frames and
overtakes counted, patch words in the contexts. The time since the previous tick is the command's operand by the model's choice (log 4). -/
def Obligations.PacedFramesMakeOrHoldATick : Prop :=
  ∀ (s : State) (f : SampleFrame) (us : Nat) (o : CountOrder), s.taken? = some (.sample f) →
    (∀ e, s.rx.expected = some e → (f.seq - e).toNat ≤ 32767) → s.setup.source = .paced → s.ingress.flow = .live →
    let accepted (u : State) : Prop :=
      u.rx = { framing := .hunt, buffer := [], expected := some (f.seq + 1) }
      ∧ u.ingress = { s.ingress with held := u.ingress.held, fresh := true }
      ∧ (s.MapDistinct → ∀ (i : Fin 32) (c : Chan), s.ingress.slotMap[i] = some c →
          u.ingress.held[c]
            = if i.val < s.setup.expected then (f.samples[i.val]?).getD s.ingress.held[c] else s.ingress.held[c])
      ∧ (∀ c : Chan, (∀ i : Fin 32, s.ingress.slotMap[i] ≠ some c) → u.ingress.held[c] = s.ingress.held[c])
      ∧ u.own = (applyPatches f.patches s.toHunt).own
      ∧ (∀ i : CounterNo, u.events.counters[i] = s.events.counters[i]
          + if i = ctrSeqMissing then (match s.rx.expected with | some e => f.seq - e | none => 0)
            else if i = ctrShortFrames then (if f.samples.length < s.setup.expected then 1 else 0)
            else if i = ctrOvertaken then (if s.ingress.fresh = true then 1 else 0)
            else 0)
      ∧ u = { s with rx := u.rx, ingress := u.ingress, timer := u.timer, own := u.own, events := u.events,
                     tx := { s.tx with report := u.tx.report } }
    ∃ t, exec (.sampleFrame us o) s = .next t ∧ t.timer.starve = some s.setup.starve
      ∧ t.rx.expected = some (f.seq + 1)
      ∧ (s.timer.heldTick = true → t.timer = { s.timer with starve := some s.setup.starve } ∧ accepted t)
      ∧ (s.timer.heldTick = false → us < 5 →
          t.timer = { s.timer with starve := some s.setup.starve, heldTick := true } ∧ accepted t)
      ∧ (s.timer.heldTick = false → 5 ≤ us →
          t.timer = { s.timer with starve := some s.setup.starve, ticks := s.timer.ticks + 1 }
            ∧ t.ingress.fresh = false ∧ t.ingress.flow = .live ∧ (∃ d, t.port.sending = some d ∧ d.safe = false)
            ∧ ∃ s0, s.TickStarts (.sampleFrame us o) o s0 ∧ t = tick o s0 ∧ accepted s0
                ∧ s0.timer = { s.timer with starve := some s.setup.starve })

/-- A tick, by the Frame Timer, by a held arrival or by an arriving frame: the counter advances, the Frame Timer's next interval or the
release of the hold stands, and a delivery of 32 words begins, each within the limits of its channel's record; a disabled
channel's word is its safe value OPEN, and under SAFE_N an enabled channel's word is its safe value with condition NONE. -/
def Obligations.TickDeliversAWordPerChannel : Prop :=
  ∀ (s s0 : State) (o : CountOrder) (c : Instr), s.TickStarts c o s0 →
    ∃ t d, exec c s = .next t ∧ t.timer.ticks = s.timer.ticks + 1
      ∧ (c = .heldTickRelease o → t.timer.heldTick = false)
      ∧ (c = .frameTimerExpiry o → s.setup.source = .lcl → t.timer.interval = some s.setup.period)
      ∧ t.port.sending = some d ∧ d.safe = false
      ∧ (∀ ch : Chan, s.channels.records[ch].Legal →
          s.channels.records[ch].lo.toInt ≤ d.words[ch].value.toInt
            ∧ d.words[ch].value.toInt ≤ s.channels.records[ch].hi.toInt)
      ∧ (∀ ch : Chan, s.enabled ch = false →
          d.words[ch] = { value := s.channels.records[ch].safeValue, cond := .opened })
      ∧ (∀ ch : Chan, s.enabled ch = true → s.safe.asserted = true →
          d.words[ch] = { value := s.channels.records[ch].safeValue, cond := .none })
      ∧ t.channels.records = s.channels.records ∧ t.bank = s.bank ∧ t.setup = s.setup ∧ t.rx = s0.rx ∧ t.safe = s.safe
      ∧ t.replay.mem = s.replay.mem ∧ t.scenario.blocks = s.scenario.blocks ∧ t.scenario.entries = s.scenario.entries
      ∧ t.tx.replies = s.tx.replies ∧ t.tx.line = s.tx.line ∧ t.ingress.held = s0.ingress.held

/-- At a tick with nothing left over from the last one, every enabled channel outside SAFE_N runs its pipeline on its source value:
L takes y, the word is the clamp of y plus trim, a clamp is counted, the condition is the context's on an on-position and NONE
otherwise, TO_PARTNER being NONE while the partner is disabled, and the active context advances. A channel that is disabled, held
by SAFE_N or bypassed by starve policy SAFE keeps its context, its L and its CLIPS. The strobes are the words in channel order,
each TO_PARTNER word followed by its designation. The advance is read where no slot acts at the tick, or its count is open
(log 5). -/
def Obligations.TickRunsEachPipeline : Prop :=
  ∀ (s s0 : State) (o : CountOrder) (c : Instr) (ch : Chan), s.TickStarts c o s0 → s0.Settled →
    let r := s0.channels.records[ch]
    let x := s0.own[ch].current
    let clips := ctrClips ch
    let quiet : Prop := o = .eventsFirst ∨ ∀ n : SlotNo, ¬ s0.endsAtTick n ∧ ¬ s0.claimsAtTick n
    ∃ t d, exec c s = .next t ∧ t.port.sending = some d
      ∧ (s0.enabled ch = true → s0.safe.asserted = false → ∀ v : Word,
          (r.source = .code ∧ v = r.insert)
            ∨ (r.source = .live ∧ t.ingress.flow = .live ∧ v = s0.ingress.held[ch])
            ∨ (r.source = .live ∧ t.ingress.flow ≠ .live ∧ r.starve = .hold ∧ v = s0.ingress.held[ch])
            ∨ (r.source = .live ∧ t.ingress.flow ≠ .live ∧ r.starve = .code ∧ v = r.insert)
            ∨ (∃ u, r.source = .track u ∧ v = (t.track u).presented) →
          let y := transform x s0.channels.last[ch] (t.track x.fields.track).presented v
          t.channels.last[ch] = y
            ∧ d.words[ch].value
              = (if y + r.trim.toInt < r.lo.toInt then r.lo
                 else if r.hi.toInt < y + r.trim.toInt then r.hi else BitVec.ofInt 16 (y + r.trim.toInt))
            ∧ t.events.counters[clips]
              = s0.events.counters[clips]
                + (if y + r.trim.toInt < r.lo.toInt ∨ r.hi.toInt < y + r.trim.toInt then 1 else 0)
            ∧ d.words[ch].cond
              = (if x.fields.duty.getLsbD x.patternIndex = false then .none
                 else if x.fields.pin = .toPartner ∧ s0.enabled x.fields.partner = false then .none else x.fields.pin)
            ∧ (quiet → t.own[ch].current = advanceContext v x))
      ∧ (s0.enabled ch = true → s0.safe.asserted = false → r.source = .live → t.ingress.flow ≠ .live → r.starve = .safe →
          d.words[ch] = { value := r.safeValue, cond := .none })
      ∧ ((s0.enabled ch = false ∨ s0.safe.asserted = true
            ∨ (r.source = .live ∧ t.ingress.flow ≠ .live ∧ r.starve = .safe)) →
          t.channels.last[ch] = s0.channels.last[ch] ∧ t.events.counters[clips] = s0.events.counters[clips]
            ∧ (quiet → t.own[ch] = s0.own[ch]))
      ∧ (quiet → t.own[ch].stack = s0.own[ch].stack ∧ t.own[ch].waiting = s0.own[ch].waiting
          ∧ (s0.own[ch].active.isSome = true → t.own[ch].base = s0.own[ch].base)
          ∧ t.own[ch].active.isSome = s0.own[ch].active.isSome)
      ∧ d.strobes
        = (List.finRange 32).flatMap fun k =>
            { chan := k, data := d.words[k].value
              code := match d.words[k].cond with
                | .none => 0 | .opened => 1 | .toGround => 2 | .toSupply => 3 | .toPartner => 4 }
              :: (if d.words[k].cond = .toPartner then
                    [{ chan := k, code := 7, data := word s0.own[k].current.fields.partner.val }]
                  else [])

/-- At a tick the fresh marker is judged and cleared, and the runs and the flow move: outside LIVE a fresh tick adds to the fresh run
and K of them make LIVE with LINK_LIVE; in LIVE, LOCAL, a stale tick adds to the stale run and S of them make STARVED with
LINK_STARVED; in LIVE, PACED, no tick is stale. No other tick raises the two events, and STALE_TICKS counts the stale ticks in LIVE,
LOCAL, and no others. -/
def Obligations.TickJudgesTheFlow : Prop :=
  ∀ (s s0 : State) (o : CountOrder) (c : Instr), s.TickStarts c o s0 →
    let live : Prop :=
      s0.ingress.flow ≠ .live ∧ s0.ingress.fresh = true ∧ s0.setup.recovery ≤ s0.ingress.freshRun + 1
    let starves : Prop :=
      s0.ingress.flow = .live ∧ s0.ingress.fresh = false ∧ s0.setup.source = .lcl
        ∧ s0.setup.staleLimit ≤ s0.ingress.staleRun + 1
    ∃ t, exec c s = .next t ∧ t.ingress.fresh = false ∧ t.ingress.flowDue = none
      ∧ (s0.ingress.flow = .live → s0.ingress.fresh = true → t.ingress.flow = .live ∧ t.ingress.staleRun = 0)
      ∧ (s0.ingress.flow = .live → s0.ingress.fresh = false → s0.setup.source = .lcl →
          (s0.setup.staleLimit ≤ s0.ingress.staleRun + 1 → t.ingress.flow = .starved ∧ t.ingress.freshRun = 0)
            ∧ (s0.ingress.staleRun + 1 < s0.setup.staleLimit → t.ingress.flow = .live)
            ∧ t.ingress.staleRun = s0.ingress.staleRun + 1
            ∧ t.events.counters[ctrStaleTicks] = s0.events.counters[ctrStaleTicks] + 1)
      ∧ (s0.ingress.flow = .live → s0.setup.source = .paced →
          t.ingress.flow = .live ∧ t.events.counters[ctrStaleTicks] = s0.events.counters[ctrStaleTicks])
      ∧ (s0.ingress.flow ≠ .live → s0.ingress.fresh = true →
          (s0.setup.recovery ≤ s0.ingress.freshRun + 1 → t.ingress.flow = .live ∧ t.ingress.staleRun = 0
              ∧ (s0.setup.source = .paced → t.timer.interval = none ∧ t.timer.starve = some s0.setup.starve))
            ∧ (s0.ingress.freshRun + 1 < s0.setup.recovery →
                t.ingress.flow = .recovering ∧ t.ingress.freshRun = s0.ingress.freshRun + 1))
      ∧ (s0.ingress.flow ≠ .live → s0.ingress.fresh = false →
          t.ingress.flow = s0.ingress.flow ∧ t.ingress.freshRun = 0)
      ∧ t.events.counters[ctrStaleTicks]
        = s0.events.counters[ctrStaleTicks]
          + (if s0.ingress.flow = .live ∧ s0.ingress.fresh = false ∧ s0.setup.source = .lcl then 1 else 0)
      ∧ (t.events.flags.getLsbD 1 = true
          ↔ s0.events.flags.getLsbD 1 = true ∨ (live ∧ s0.setup.masks.getLsbD 1 = false))
      ∧ (t.events.flags.getLsbD 2 = true
          ↔ s0.events.flags.getLsbD 2 = true ∨ (starves ∧ s0.setup.masks.getLsbD 1 = false))

/-- The changes of flow as rows of their own: LIVE and STARVED where the tick being taken has reached them, and the expiry of the
starve timer. That these rows act on what the tick being taken has reached is the model's choice (log 7). -/
def Obligations.FlowChangesAct : Prop :=
  ∀ s : State, s.phase = .running →
    (s.ingress.flowDue = some .toLive → s.setup.source = .lcl →
      exec .flowLive s
        = .next (raise .linkLive { s with ingress := { s.ingress with flow := .live, staleRun := 0, flowDue := none } }))
    ∧ (s.ingress.flowDue = some .toLive → s.setup.source = .paced →
      exec .flowLive s
        = .next (raise .linkLive { s with
            ingress := { s.ingress with flow := .live, staleRun := 0, flowDue := none }
            timer := { s.timer with interval := none, starve := some s.setup.starve } }))
    ∧ (s.ingress.flowDue = some .toStarved →
      exec .flowStarved s
        = .next (raise .linkStarved { s with ingress := { s.ingress with flow := .starved, freshRun := 0, flowDue := none } }))
    ∧ (s.timer.starve.isSome = true → s.ingress.flow = .live →
      exec .starveTimerExpiry s
        = .next (raise .linkStarved { s with
            ingress := { s.ingress with flow := .starved, freshRun := 0, flowDue := none }
            timer := { s.timer with starve := none, interval := some s.setup.period } }))

/-! ### The Output Port, contexts and arithmetic (chapters 3 and 4) -/

/-- The latch strobe of the delivery in progress, a tick's or the safe one: the set and the board take its 32 words, and a safe delivery
that waits follows.
The model's choices: a strobe of the other kind leaves the state as it is (log 1), a safe delivery may wait behind a safe one
(log 17), and the board's set is kept apart from the output word set (log 26). -/
def Obligations.LatchStrobeAppliesTheWords : Prop :=
  ∀ (s : State) (d : Delivery), s.phase = .running → s.port.sending = some d →
    let done : State :=
      { s with port :=
          { set := d.words, latched := d.words, safeNext := none
            sending := s.port.safeNext.map fun ws => { safe := true, words := ws, designations := [], sent := 0 } } }
    (d.safe = false → exec .deliveryComplete s = .next done ∧ exec .safeDeliveryComplete s = .next s)
    ∧ (d.safe = true → exec .safeDeliveryComplete s = .next done ∧ exec .deliveryComplete s = .next s)

/-- SCALE: y is the rounded product plus the offset, within its stated range; 4096 and 0 pass x, a gain of 0 delivers the
offset, and a half rounds up. -/
def Obligations.ScaleTransform : Prop :=
  (∀ p : Int, round12 p * 4096 ≤ p + 2048 ∧ p + 2048 < (round12 p + 1) * 4096)
  ∧ (∀ k : Int, round12 (4096 * k + 2048) = k + 1)
  ∧ ∀ (x : Context) (L : Int) (w v : Word), x.fields.kind = .scale →
    let y := transformOn x L w v
    y = round12 (v.toInt * x.fields.gain.toInt) + x.fields.offset.toInt
    ∧ (-1073709056 ≤ v.toInt * x.fields.gain.toInt ∧ v.toInt * x.fields.gain.toInt ≤ 1073741824)
    ∧ (-262136 ≤ round12 (v.toInt * x.fields.gain.toInt) ∧ round12 (v.toInt * x.fields.gain.toInt) ≤ 262144)
    ∧ (-294904 ≤ y ∧ y ≤ 294911)
    ∧ (x.fields.gain = 4096#16 → x.fields.offset = 0 → y = v.toInt)
    ∧ (x.fields.gain = 0 → y = x.fields.offset.toInt)
    ∧ (x.fields.gain.toInt < 0 →
      (0 < v.toInt → v.toInt * x.fields.gain.toInt < 0) ∧ (v.toInt < 0 → 0 < v.toInt * x.fields.gain.toInt))

/-- COARSE: x rounded down to a multiple of 2^q, its q lowest bits cleared, within its stated range and at most 2^q − 1
below x. -/
def Obligations.CoarseTransform : Prop :=
  ∀ (x : Context) (L : Int) (w v : Word), x.fields.kind = .coarse → 1 ≤ x.fields.coarse → x.fields.coarse ≤ 12 →
    let q : Int := 2 ^ x.fields.coarse
    let y := transformOn x L w v
    y = v.toInt / q * q
    ∧ BitVec.ofInt 16 y = v &&& BitVec.ofInt 16 (-q)
    ∧ (-32768 ≤ y ∧ y ≤ 32767 - (q - 1))
    ∧ (y ≤ v.toInt ∧ v.toInt - y ≤ q - 1)
    ∧ (q ∣ v.toInt → y = v.toInt)

/-- Every kind of transform of a legal context stays within the range of L, reads what the spec gives it, and on an off-position of the
pattern passes x. The advance takes the step into the drift within its limit, x into the gap held value on an on-phase, and
moves phase and index on in their cycles. -/
def Obligations.TransformAndAdvanceByKind : Prop :=
  (∀ (x : Context) (L : Int) (w v : Word), x.Legal → transformRange L →
     transformRange (transform x L w v)
     ∧ (x.fields.duty.getLsbD x.patternIndex = false → transform x L w v = v.toInt)
     ∧ (x.fields.duty.getLsbD x.patternIndex = true →
       (x.fields.kind = .pass → transform x L w v = v.toInt)
       ∧ (x.fields.kind = .fixed → transform x L w v = x.fields.hold.toInt)
       ∧ (∀ F, x.fields.kind = .freeze → x.freeze = some F → transform x L w v = F)
       ∧ (x.fields.kind = .track → transform x L w v = w.toInt)
       ∧ (x.fields.kind = .gap → x.gapPhase < x.fields.gapOn → transform x L w v = v.toInt)
       ∧ (∀ g, x.fields.kind = .gap → x.fields.gapOn ≤ x.gapPhase → x.gapHeld = some g → transform x L w v = g)
       ∧ (x.fields.kind = .ramp →
           transform x L w v = (v.toInt * x.fields.gain.toInt + 2048) / 4096 + x.fields.offset.toInt + (x.drift + 128) / 256
           ∧ -(x.fields.limit : Int) ≤ (x.drift + 128) / 256 ∧ (x.drift + 128) / 256 ≤ x.fields.limit)))
  ∧ (∀ (x : Context) (v : Word), x.Legal →
       let y := advanceContext v x
       let b : Int := x.fields.limit * 256
       y.drift = max (-b) (min b (x.drift + x.fields.step.toInt))
       ∧ y.gapHeld = (if x.gapPhase < x.fields.gapOn then some v.toInt else x.gapHeld)
       ∧ (x.gapPhase + 1 < x.fields.gapOn + x.fields.gapOff → y.gapPhase = x.gapPhase + 1)
       ∧ (x.gapPhase + 1 = x.fields.gapOn + x.fields.gapOff → y.gapPhase = 0)
       ∧ (x.patternIndex + 1 < x.fields.patternLength → y.patternIndex = x.patternIndex + 1)
       ∧ (x.patternIndex + 1 = x.fields.patternLength → y.patternIndex = 0)
       ∧ y.fields = x.fields ∧ y.owner = x.owner ∧ y.priority = x.priority ∧ y.freeze = x.freeze ∧ y.Legal)

/-- SET STANDING and PATCH: their refusals in order; the first leaves a base context copied from the record with fresh run state, the
second one field of the active context changed, the owner and the field's earlier value being answered. -/
def Obligations.SetStandingAndPatchReachContexts : Prop :=
  (∀ (s : State) (r : Request), s.serves r → r.code = 5 →
     ((32 ≤ r.object ∨ 256 ≤ r.index) → exec .setStanding s = .next (s.toHunt.answered r .noIndex []))
     ∧ ∀ (c : Chan) (o : Fin 256), r.object = c.val → r.index = o.val →
       (s.safe.asserted = true → exec .setStanding s = .next (s.toHunt.answered r .safe []))
       ∧ (s.safe.asserted = false → s.bank[o].pin = .toPartner → s.bank[o].partner = c →
         exec .setStanding s = .next (s.toHunt.answered r .badPartner []))
       ∧ (s.safe.asserted = false → ¬ (s.bank[o].pin = .toPartner ∧ s.bank[o].partner = c) →
         let first : Option Int := if s.own[c].active.isSome = true then none else some s.channels.last[c]
         exec .setStanding s
           = .next (State.answered r .ok []
               (s.toHunt.setOwn c
                 { s.own[c] with
                   base :=
                     { fields := s.bank[o], owner := none, priority := -1, drift := 0, gapPhase := 0, gapHeld := first,
                       patternIndex := 0, freeze := first } }))))
  ∧ (∀ (s : State) (r : Request), s.serves r → r.code = 6 →
       (32 ≤ r.object → exec .patch s = .next (s.toHunt.answered r .noIndex []))
       ∧ ∀ c : Chan, r.object = c.val →
         ((r.data = [] ∨ 4 ≤ r.count) → exec .patch s = .next (s.toHunt.answered r .range []))
         ∧ (r.data ≠ [] → r.count < 4 → s.enabled c = false →
           exec .patch s = .next (s.toHunt.answered r .channelOff []))
         ∧ ∀ (v : Word) (ds : List Word), r.data = v :: ds → s.enabled c = true →
           let x := s.own[c].current
           let reply (old : Word) (y : OverlayRecord) : Host.Outcome State Fault Refusal :=
             .next (State.answered r .ok [word (match x.owner with | some n => n.val | none => 255), old]
               (s.toHunt.setOwn c
                 (match s.own[c].active with
                  | some a => { s.own[c] with active := some { a with fields := y } }
                  | none => { s.own[c] with base := { s.own[c].base with fields := y } })))
           (r.count = 0 → exec .patch s = reply x.fields.gain { x.fields with gain := v })
           ∧ (r.count = 1 → exec .patch s = reply x.fields.offset { x.fields with offset := v })
           ∧ (r.count = 2 → exec .patch s = reply x.fields.hold { x.fields with hold := v })
           ∧ (r.count = 3 → exec .patch s = reply x.fields.step { x.fields with step := v }))

/-! ### Ownership and scenario slots (chapters 5 and 6) -/

/-- A claim on a channel owned by BASE, or held by a lower priority with room on the stack: with an entry that passes the fetch check
the slot runs it, its fresh context is the active one, a TRACK record with cue yes starts its track, and a displaced context
stands whole on top of the stack, its slot SUSPENDED. With an entry that fails the check the slot faults with SLOT_FAULT, and the
base or the displaced context is active again. Else the slot waits.
The model's: a slot pushed and resumed with its count of a tick open does not count it (log 5, DESIGN CHOICE, unsafe), and a failed
fetch keeps the other fields of the slot's record (log 13, DEDUCED, unsafe). -/
def Obligations.ClaimTakesPushesOrWaits : Prop :=
  ∀ (s : State) (n : SlotNo),
    let x := s.slot n
    let c := x.latch.target
    let e := s.entry x.entryIndex
    let r := s.bank[e.overlay]
    let fresh : Context :=
      { fields := r, owner := some n, priority := x.latch.priority, drift := 0, gapPhase := 0,
        gapHeld := some s.channels.last[c], patternIndex := 0, freeze := some s.channels.last[c] }
    let running : Slot := { x with state := .running, ticksLeft := e.duration, endWatch := e.endWatch, counts := false }
    let cued : State :=
      if r.kind = .track ∧ r.cue = true then s.setTrack r.track (playTrack (s.track r.track)) else s
    let failed : Slot :=
      { x with state := .faulted, ticksLeft := 0, fault := if e.duration = 0 then .zeroDuration else .badPartner,
               entryAtFault := some x.entryIndex, endWatch := none, counts := false }
    (e.duration ≠ 0 → ¬ (r.pin = .toPartner ∧ r.partner = c) →
      (s.own[c].active = none →
        (claim n s).own[c] = { s.own[c] with active := some fresh } ∧ (claim n s).slot n = running
          ∧ (claim n s).replay = cued.replay ∧ ∀ m, m ≠ n → (claim n s).slot m = s.slot m)
      ∧ (∀ (a : Context) (m : SlotNo), s.own[c].active = some a → a.owner = some m → m ≠ n →
          a.priority < x.latch.priority → s.own[c].stack.length < 4 →
        (claim n s).own[c] = { s.own[c] with active := some fresh, stack := a :: s.own[c].stack }
          ∧ (claim n s).slot n = running
          ∧ (claim n s).slot m = { s.slot m with state := .suspended, counts := false }
          ∧ (claim n s).replay = cued.replay ∧ ∀ k, k ≠ n → k ≠ m → (claim n s).slot k = s.slot k))
    ∧ ((e.duration = 0 ∨ (r.pin = .toPartner ∧ r.partner = c)) → s.own[c].waiting = [] →
      (s.own[c].active = none → s.own[c].stack = [] →
        claim n s
          = raise (.slotFault n)
              ((s.setOwn c
                  { base := { s.own[c].base with
                      freeze := some (s.own[c].base.freeze.getD s.channels.last[c])
                      gapHeld := some (s.own[c].base.gapHeld.getD s.channels.last[c]) }
                    active := none, stack := [], waiting := [] }).setSlot n failed))
      ∧ (∀ (a : Context) (m : SlotNo), s.own[c].active = some a → a.owner = some m → m ≠ n →
          a.priority < x.latch.priority → s.own[c].stack.length < 4 →
        claim n s
          = raise (.slotFault n)
              ((s.setSlot m { s.slot m with state := .running, counts := false }).setSlot n failed)))
    ∧ (∀ a : Context, s.own[c].active = some a → (x.latch.priority ≤ a.priority ∨ 4 ≤ s.own[c].stack.length) →
      ((claim n s).slot n = { x with state := .waiting } ∧ ∀ m, m ≠ n → (claim n s).slot m = s.slot m)
        ∧ (claim n s).own[c].active = some a ∧ (claim n s).own[c].stack = s.own[c].stack
        ∧ (claim n s).replay = s.replay
        ∧ ({ slot := n, priority := x.latch.priority } : Waiter) ∈ (claim n s).own[c].waiting
        ∧ (∀ w ∈ s.own[c].waiting, w.slot ≠ n → w ∈ (claim n s).own[c].waiting)
        ∧ ∀ w ∈ (claim n s).own[c].waiting, w = { slot := n, priority := x.latch.priority } ∨ w ∈ s.own[c].waiting)
    ∧ (((e.duration ≠ 0 ∧ ¬ (r.pin = .toPartner ∧ r.partner = c)) ∨ s.OwnershipLawful) →
      ∀ d : Chan, d ≠ c → (claim n s).own[d] = s.own[d])

/-- A release. Without waiting slots the stack top resumes as it was saved, or with an empty stack the base. With waiting slots the one
of highest priority, the lowest slot among equals, takes over if it ranks above the stack top and its entry passes the fetch
check; if that check fails it faults and the channel is resolved again; else the stack top resumes. A withdrawal takes one saved
context off the stack, and the waiting slot that then qualifies pushes the active context and takes over.
The model's: a slot resumed, or pushed and resumed, with its count of a tick open does not count it (log 5, DESIGN CHOICE, unsafe),
and a failed fetch keeps the other fields of the slot's record (log 13, DEDUCED, unsafe). -/
def Obligations.ReleaseResumesOrTakesOver : Prop :=
  (∀ (s : State) (c : Chan), s.own[c].waiting = [] →
     (∀ (x : Context) (xs : List Context) (m : SlotNo), s.own[c].stack = x :: xs → x.owner = some m →
       release c s
         = (s.setOwn c { s.own[c] with active := some x, stack := xs }).setSlot m
             { s.slot m with state := .running, counts := false })
     ∧ (s.own[c].stack = [] →
       release c s
         = s.setOwn c
             { base := { s.own[c].base with
                 freeze := some (s.own[c].base.freeze.getD s.channels.last[c])
                 gapHeld := some (s.own[c].base.gapHeld.getD s.channels.last[c]) }
               active := none, stack := [], waiting := [] }))
  ∧ (∀ (s : State) (c : Chan) (w : Waiter), w ∈ s.own[c].waiting → s.OwnershipLawful →
       (∀ v ∈ s.own[c].waiting, v ≠ w → v.priority < w.priority ∨ (v.priority = w.priority ∧ w.slot < v.slot)) →
       let x := s.slot w.slot
       let e := s.entry x.entryIndex
       let r := s.bank[e.overlay]
       let left := s.own[c].waiting.filter fun v => v.slot != w.slot
       let failed : Slot :=
         { x with state := .faulted, ticksLeft := 0, fault := if e.duration = 0 then .zeroDuration else .badPartner,
                  entryAtFault := some x.entryIndex, endWatch := none, counts := false }
       ((∀ y ys, s.own[c].stack = y :: ys → y.priority < w.priority) →
         (e.duration ≠ 0 → ¬ (r.pin = .toPartner ∧ r.partner = c) →
           (∃ a, (release c s).own[c].active = some a ∧ a.owner = some w.slot ∧ a.priority = w.priority ∧ a.fields = r)
           ∧ (release c s).own[c].stack = s.own[c].stack
           ∧ (release c s).own[c].waiting = left
           ∧ ((release c s).slot w.slot).state = .running)
         ∧ ((e.duration = 0 ∨ (r.pin = .toPartner ∧ r.partner = c)) →
           release c s
             = release c (raise (.slotFault w.slot)
                 ((s.setOwn c { s.own[c] with waiting := left }).setSlot w.slot failed))))
       ∧ (∀ y ys, s.own[c].stack = y :: ys → (w.priority : Int) ≤ y.priority →
         (release c s).own[c].active = some y ∧ (release c s).own[c].stack = ys
           ∧ (release c s).own[c].waiting = s.own[c].waiting)
       ∧ (∀ (n m : SlotNo) (a : Context), (s.slot n).state = .suspended → (s.slot n).latch.target = c →
         s.own[c].active = some a → a.owner = some m → a.priority < w.priority →
         let kept := s.own[c].stack.filter fun y => y.owner != some n
         (e.duration ≠ 0 → ¬ (r.pin = .toPartner ∧ r.partner = c) →
           (withdraw n c s).own[c]
             = { s.own[c] with
                 active := some { fields := r, owner := some w.slot, priority := w.priority, drift := 0, gapPhase := 0,
                                  gapHeld := some s.channels.last[c], patternIndex := 0,
                                  freeze := some s.channels.last[c] }
                 stack := a :: kept, waiting := left }
           ∧ (withdraw n c s).slot w.slot
             = { x with state := .running, ticksLeft := e.duration, endWatch := e.endWatch, counts := false }
           ∧ (withdraw n c s).slot m = { s.slot m with state := .suspended, counts := false }
           ∧ ∀ k, k ≠ w.slot → k ≠ m → (withdraw n c s).slot k = s.slot k)
         ∧ ((e.duration = 0 ∨ (r.pin = .toPartner ∧ r.partner = c)) → s.own[c].waiting = [w] →
           withdraw n c s
             = raise (.slotFault w.slot)
                 (((s.setOwn c { s.own[c] with stack := kept, waiting := [] }).setSlot m
                     { s.slot m with state := .running, counts := false }).setSlot w.slot failed))))
  ∧ (∀ (s : State) (n : SlotNo) (c : Chan),
       let kept := s.own[c].stack.filter fun y => y.owner != some n
       (∀ w ∈ s.own[c].waiting, (w.priority : Int) ≤ s.own[c].current.priority ∨ 4 ≤ kept.length) →
       withdraw n c s = s.setOwn c { s.own[c] with stack := kept })

/-- ARM SLOT: its refusals in order, and on success the latched block and what its start field does: a delay is loaded, a fire is
awaited, or the slot claims at once; the slot's state is answered. -/
def Obligations.ArmSlotChecksAndLatches : Prop :=
  ∀ (s : State) (r : Request), s.serves r → r.code = 9 →
    ((8 ≤ r.object ∨ 128 ≤ r.index) → exec .armSlot s = .next (s.toHunt.answered r .noIndex []))
    ∧ ∀ n : SlotNo, r.object = n.val → r.index < 128 →
      let b := s.block r.index
      (s.safe.asserted = true → exec .armSlot s = .next (s.toHunt.answered r .safe []))
      ∧ (s.safe.asserted = false →
        ((s.slot n).state.busy = true → exec .armSlot s = .next (s.toHunt.answered r .busy []))
        ∧ ((s.slot n).state = .faulted → exec .armSlot s = .next (s.toHunt.answered r .held []))
        ∧ ((s.slot n).state = .idle →
          (b.listCount = 0 → exec .armSlot s = .next (s.toHunt.answered r .emptyList []))
          ∧ (b.listCount ≠ 0 → 1024 < b.listStart + b.listCount →
              exec .armSlot s = .next (s.toHunt.answered r .listBounds []))
          ∧ (b.listCount ≠ 0 → b.listStart + b.listCount ≤ 1024 → s.enabled b.target = false →
              exec .armSlot s = .next (s.toHunt.answered r .channelOff []))
          ∧ (b.listCount ≠ 0 → b.listStart + b.listCount ≤ 1024 → s.enabled b.target = true →
            let armed : Slot :=
              { state := .armed, block := r.index, latch := b, entryIndex := b.listStart, entriesLeft := b.listCount,
                passesLeft := b.passes, ticksLeft := 0, delayLeft := 0, awaiting := false, fault := .noFault,
                entryAtFault := none, endWatch := none, counts := false }
            (b.start = .delay → b.delay ≠ 0 →
              exec .armSlot s = .next ((s.toHunt.setSlot n { armed with delayLeft := b.delay }).answered r .ok [1]))
            ∧ (b.start = .onFire →
              exec .armSlot s = .next ((s.toHunt.setSlot n { armed with awaiting := true }).answered r .ok [1]))
            ∧ ((b.start = .now ∨ (b.start = .delay ∧ b.delay = 0)) →
              let t := claim n (s.toHunt.setSlot n armed)
              exec .armSlot s = .next (t.answered r .ok [word (t.slot n).state.num])))))

/-- ABORT SLOT takes a slot out of its place and to IDLE from any state: a WAITING slot leaves the waiting set, a RUNNING one releases
its channel, and a SUSPENDED one is withdrawn from the stack; CLEAR SLOT answers the fault record and frees a FAULTED slot; RESET
SCENARIOS leaves every slot IDLE and every channel on its base context, with no event. -/
def Obligations.SlotRequestsEndOrClearSlots : Prop :=
  (∀ (s : State) (r : Request), s.serves r → r.code = 10 →
     (8 ≤ r.object → exec .abortSlot s = .next (s.toHunt.answered r .noIndex []))
     ∧ ∀ n : SlotNo, r.object = n.val →
       let c := (s.slot n).latch.target
       (((s.slot n).state = .idle ∨ (s.slot n).state = .armed ∨ (s.slot n).state = .faulted) →
         exec .abortSlot s
           = .next ((s.toHunt.setSlot n Slot.idle).answered r .ok [word (s.slot n).state.num]))
       ∧ ((s.slot n).state = .waiting →
         exec .abortSlot s
           = .next (((s.toHunt.setOwn c
                 { s.own[c] with waiting := s.own[c].waiting.filter fun w => w.slot != n }).setSlot n
               Slot.idle).answered r .ok [2]))
       ∧ ((s.slot n).state = .running →
         exec .abortSlot s = .next (((release c s.toHunt).setSlot n Slot.idle).answered r .ok [3]))
       ∧ ((s.slot n).state = .suspended → s.own[c].waiting = [] →
         exec .abortSlot s
           = .next (((s.toHunt.setOwn c
                 { s.own[c] with stack := s.own[c].stack.filter fun y => y.owner != some n }).setSlot n
               Slot.idle).answered r .ok [4]))
       ∧ ((s.slot n).state = .suspended →
         exec .abortSlot s = .next (((withdraw n c s.toHunt).setSlot n Slot.idle).answered r .ok [4])))
  ∧ (∀ (s : State) (r : Request), s.serves r → r.code = 11 →
       (8 ≤ r.object → exec .clearSlot s = .next (s.toHunt.answered r .noIndex []))
       ∧ ∀ n : SlotNo, r.object = n.val →
         let words : List Word :=
           [word (s.slot n).fault.num, word (s.slot n).block, (s.slot n).entryAtFault.elim 65535 word]
         ((s.slot n).state.busy = true → exec .clearSlot s = .next (s.toHunt.answered r .busy words))
         ∧ ((s.slot n).state = .idle → exec .clearSlot s = .next (s.toHunt.answered r .ok words))
         ∧ ((s.slot n).state = .faulted →
           exec .clearSlot s = .next ((s.toHunt.setSlot n Slot.idle).answered r .ok words)))
  ∧ (∀ (s : State) (r : Request), s.serves r → r.code = 14 →
       ∃ t : State, exec .resetScenarios s = .next (t.answered r .ok [])
         ∧ t = { s.toHunt with own := t.own, scenario := { s.scenario with slots := Vector.replicate 8 Slot.idle } }
         ∧ ∀ c : Chan, t.own[c].active = none ∧ t.own[c].stack = [] ∧ t.own[c].waiting = []
           ∧ t.own[c].base
             = { s.own[c].base with
                 freeze := some (s.own[c].base.freeze.getD s.channels.last[c])
                 gapHeld := some (s.own[c].base.gapHeld.getD s.channels.last[c]) })

/-- The end of a slot's delay is its claim, and the end of its entry's count is an entry end, every other slot having counted the tick
before it where no other comes to an end; whatever the others have to do, every slot has taken the tick afterwards.
That a slot's count of the latest tick can stand open is the model's choice (log 5). -/
def Obligations.SlotCountsEndInActions : Prop :=
  ∀ (s : State) (n : SlotNo), s.phase = .running → (s.slot n).counts = true →
    let alone : Prop := ∀ m : SlotNo, m ≠ n → (s.slot m).counts = true → ¬ s.endsAtTick m ∧ ¬ s.claimsAtTick m
    let counted (m : SlotNo) (x : Slot) : Prop :=
      (((s.slot m).counts = true → (s.slot m).state = .running →
          x = { s.slot m with counts := false, ticksLeft := (s.slot m).ticksLeft - 1 })
        ∧ ((s.slot m).counts = true → (s.slot m).state = .armed →
          x = { s.slot m with counts := false, delayLeft := (s.slot m).delayLeft - 1 })
        ∧ ((s.slot m).counts = false → x = s.slot m))
    (s.claimsAtTick n →
      (∃ t, exec (.slotDelayExpiry n.val) s = .next t ∧ ∀ m : SlotNo, (t.slot m).counts = false)
      ∧ (alone → ∃ u, exec (.slotDelayExpiry n.val) s = .next (claim n u) ∧ (∀ m, counted m (u.slot m))
          ∧ u = { s with scenario := { s.scenario with slots := u.scenario.slots } })
      ∧ ((∀ m : SlotNo, m ≠ n → (s.slot m).counts = false) →
        exec (.slotDelayExpiry n.val) s
          = .next (claim n (s.setSlot n { s.slot n with delayLeft := 0, counts := false }))))
    ∧ (s.endsAtTick n →
      (∃ t, exec (.entryDurationExpiry n.val) s = .next t ∧ ∀ m : SlotNo, (t.slot m).counts = false)
      ∧ (alone → ∃ u, exec (.entryDurationExpiry n.val) s = .next (endEntry n u) ∧ (∀ m, counted m (u.slot m))
          ∧ u = { s with scenario := { s.scenario with slots := u.scenario.slots } })
      ∧ ((∀ m : SlotNo, m ≠ n → (s.slot m).counts = false) →
        exec (.entryDurationExpiry n.val) s
          = .next (endEntry n (s.setSlot n { s.slot n with ticksLeft := 0, counts := false }))))

/-- An entry end with entries or passes left fetches the entry that follows in place, a fresh context under the same owner; if that
fetch fails the slot faults with SLOT_FAULT and its channel is released. The last entry of the last pass ends the block: the base
stays or is adopted, the channel is released, and then the slot goes to IDLE with SLOT_DONE, or its follow-on block is checked,
latched and acts on its start field, or the slot faults.
The model's: what a failed fetch, and a follow-on that fails its checks, leave in the fields of the slot's record that the rules do
not name, such as the entry index of the entry that ended (log 13, DEDUCED, unsafe). -/
def Obligations.EntryEndFetchesOrEndsTheBlock : Prop :=
  (∀ (s : State) (n : SlotNo) (i left passes : Nat),
     let x := s.slot n
     let c := x.latch.target
     (1 < x.entriesLeft ∧ i = x.entryIndex + 1 ∧ left = x.entriesLeft - 1 ∧ passes = x.passesLeft)
       ∨ (x.entriesLeft ≤ 1 ∧ x.latch.passes = 0 ∧ i = x.latch.listStart ∧ left = x.latch.listCount ∧ passes = x.passesLeft)
       ∨ (x.entriesLeft ≤ 1 ∧ x.latch.passes ≠ 0 ∧ 1 < x.passesLeft ∧ i = x.latch.listStart ∧ left = x.latch.listCount
           ∧ passes = x.passesLeft - 1) →
     let e := s.entry i
     let r := s.bank[e.overlay]
     let cued (u : State) : State :=
       if r.kind = .track ∧ r.cue = true then u.setTrack r.track (playTrack (u.track r.track)) else u
     (e.duration ≠ 0 → ¬ (r.pin = .toPartner ∧ r.partner = c) →
       endEntry n s
         = cued ((s.setOwn c
               { s.own[c] with
                 active :=
                   some { fields := r, owner := some n, priority := x.latch.priority, drift := 0, gapPhase := 0,
                          gapHeld := some s.channels.last[c], patternIndex := 0,
                          freeze := some s.channels.last[c] } }).setSlot n
             { x with
               state := .running, entryIndex := i, entriesLeft := left, passesLeft := passes, ticksLeft := e.duration,
               endWatch := e.endWatch, counts := false }))
     ∧ ((e.duration = 0 ∨ (r.pin = .toPartner ∧ r.partner = c)) →
       endEntry n s
         = release c (raise (.slotFault n)
             (s.setSlot n
               { x with
                 state := .faulted, entryIndex := i, entriesLeft := left, passesLeft := passes, ticksLeft := 0,
                 fault := if e.duration = 0 then .zeroDuration else .badPartner
                 entryAtFault := some i, endWatch := none, counts := false }))))
  ∧ (∀ (s : State) (n : SlotNo),
       let x := s.slot n
       let c := x.latch.target
       x.entriesLeft ≤ 1 → x.latch.passes ≠ 0 → x.passesLeft ≤ 1 →
       let left : State :=
         release c
           (if x.latch.endAction = .adopt then
             s.setOwn c { s.own[c] with base := { s.own[c].current with owner := none, priority := -1 } }
           else s)
       (x.latch.next = none → endEntry n s = raise (.slotDone n) (left.setSlot n Slot.idle))
       ∧ ∀ b : Nat, x.latch.next = some b →
         let y := s.block b
         let armed : Slot :=
           { state := .armed, block := b, latch := y, entryIndex := y.listStart, entriesLeft := y.listCount,
             passesLeft := y.passes, ticksLeft := 0, delayLeft := 0, awaiting := false, fault := .noFault,
             entryAtFault := none, endWatch := none, counts := false }
         ((y.listCount = 0 ∨ 1024 < y.listStart + y.listCount ∨ s.enabled y.target = false) →
           endEntry n s
             = raise (.slotFault n)
                 (left.setSlot n
                   { Slot.idle with
                     state := .faulted, block := b, latch := y, entryIndex := x.entryIndex
                     fault := if y.listCount = 0 then .emptyList
                       else if 1024 < y.listStart + y.listCount then .listBounds else .channelOff }))
         ∧ (y.listCount ≠ 0 → y.listStart + y.listCount ≤ 1024 → s.enabled y.target = true →
           (y.start = .delay → y.delay ≠ 0 → endEntry n s = left.setSlot n { armed with delayLeft := y.delay })
           ∧ (y.start = .onFire → endEntry n s = left.setSlot n { armed with awaiting := true })
           ∧ ((y.start = .now ∨ (y.start = .delay ∧ y.delay = 0)) → endEntry n s = claim n (left.setSlot n armed))))
  ∧ (∀ (s : State) (n : SlotNo) (a : Context),
       let x := s.slot n
       let c := x.latch.target
       x.entriesLeft ≤ 1 → x.latch.passes ≠ 0 → x.passesLeft ≤ 1 → x.latch.next = none → s.own[c].active = some a →
       s.own[c].stack = [] → s.own[c].waiting = [] →
       let base : Context := if x.latch.endAction = .adopt then { a with owner := none, priority := -1 } else s.own[c].base
       endEntry n s
         = raise (.slotDone n)
             ((s.setOwn c
                 { base := { base with
                     freeze := some (base.freeze.getD s.channels.last[c])
                     gapHeld := some (base.gapHeld.getD s.channels.last[c]) }
                   active := none, stack := [], waiting := [] }).setSlot n Slot.idle))

/-! ### Watches (chapter 7) -/

/-- The condition of each mode, compared as signed numbers or position by position, and the settings that make it constant. -/
def Obligations.WatchConditionsByMode : Prop :=
  ∀ (r : WatchRecord) (v : Word),
    (r.mode = .above → (conditionHolds r v = true ↔ r.t1.toInt < v.toInt))
    ∧ (r.mode = .below → (conditionHolds r v = true ↔ v.toInt < r.t1.toInt))
    ∧ (r.mode = .inside → (conditionHolds r v = true ↔ r.t1.toInt ≤ v.toInt ∧ v.toInt ≤ r.t2.toInt))
    ∧ (r.mode = .outside → (conditionHolds r v = true ↔ v.toInt < r.t1.toInt ∨ r.t2.toInt < v.toInt))
    ∧ (r.mode = .pattern →
      (conditionHolds r v = true ↔ ∀ i, i < 16 → r.mask.getLsbD i = true → v.getLsbD i = r.compare.getLsbD i))
    ∧ (r.mode = .miss →
      (conditionHolds r v = true ↔ ∃ i, i < 16 ∧ r.mask.getLsbD i = true ∧ v.getLsbD i ≠ r.compare.getLsbD i))
    ∧ (conditionHolds { r with mode := .pattern } v = !conditionHolds { r with mode := .miss } v)
    ∧ (r.mode = .above → r.t1 = 32767#16 → conditionHolds r v = false)
    ∧ (r.mode = .below → r.t1 = 32768#16 → conditionHolds r v = false)
    ∧ (r.mode = .inside → r.t1 = 32768#16 → r.t2 = 32767#16 → conditionHolds r v = true)
    ∧ (r.mode = .inside → r.t1 = r.t2 → (conditionHolds r v = true ↔ v = r.t1))
    ∧ (r.mode = .outside → r.t1 = 32768#16 → r.t2 = 32767#16 → conditionHolds r v = false)
    ∧ (r.mode = .pattern → r.mask = 0 → conditionHolds r v = true)
    ∧ (r.mode = .miss → r.mask = 0 → conditionHolds r v = false)

/-- The evaluation of a tick by one watch: a false tick, or one with its channel disabled, clears count and latch; a true tick counts
up to the persistence and fires when the count is there and the watch was neither latched nor spent; a watch that is not
enabled does not move. That a fire is held with its tap value until it is taken is the model's choice (log 6). -/
def Obligations.WatchCountsAndFires : Prop :=
  ∀ (s : State) (vs : TickValues) (x : Watch),
    let r := x.record
    let v := tapValue vs r.tap r.channel
    let n := if x.count < r.persistence then x.count + 1 else r.persistence
    (r.enabled = false → x.evaluate s vs = x)
    ∧ (r.enabled = true → (s.enabled r.channel = false ∨ conditionHolds r v = false) →
      x.evaluate s vs = { x with count := 0, latched := false })
    ∧ (r.enabled = true → s.enabled r.channel = true → conditionHolds r v = true →
      ((n < r.persistence ∨ x.latched = true ∨ x.spent = true) → x.evaluate s vs = { x with count := n })
      ∧ (n = r.persistence → x.latched = false → x.spent = false →
        (r.rearm = .every → x.evaluate s vs = { x with count := n, latched := true, fire := some v })
        ∧ (r.rearm = .oneShot → x.evaluate s vs = { x with count := n, spent := true, fire := some v })))

/-- A tick offers every channel's taps to the watches: OUTPUT is the delivered word's value; INPUT is the source value, also under
SAFE_N, or the safe value where the channel is disabled or bypassed by its starve policy. -/
def Obligations.TickFeedsTheTaps : Prop :=
  ∀ (s s0 : State) (o : CountOrder) (k : Instr), s.TickStarts k o s0 → s0.Settled →
    ∃ t d vs, exec k s = .next t ∧ t.port.sending = some d
      ∧ (∀ w : WatchNo, t.watchOf w = (s.watchOf w).evaluate s vs)
      ∧ t.watch.hits = s.watch.hits
      ∧ (∀ c : Chan, tapValue vs .output c = d.words[c].value)
      ∧ (∀ c : Chan, s.enabled c = false → tapValue vs .input c = s.channels.records[c].safeValue)
      ∧ (∀ c : Chan, s.enabled c = true →
        let r := s.channels.records[c]
        (r.source = .code → tapValue vs .input c = r.insert)
        ∧ (∀ u, r.source = .track u → tapValue vs .input c = (t.track u).presented)
        ∧ (r.source = .live → (t.ingress.flow = .live ∨ r.starve = .hold) → tapValue vs .input c = s0.ingress.held[c])
        ∧ (r.source = .live → t.ingress.flow ≠ .live → r.starve = .code → tapValue vs .input c = r.insert)
        ∧ (r.source = .live → t.ingress.flow ≠ .live → r.starve = .safe → tapValue vs .input c = r.safeValue))

/-- A fire: value and tick stored under COMPARE_STORE, the hit set, FIRES and, with report yes, WATCH_FIRE; then an ARMED slot awaiting the
watch loads its delay, or claims at once with delay 0, a RUNNING slot's entry with that end watch ends, an ARMED set with that start watch records, and a
recording set with that stop watch stops.
That a fire waits for its command, and the order in which it reaches the slots, are the model's choice (log 6,
log 14). -/
def Obligations.WatchFireReachesItsConsumers : Prop :=
  ∀ (s : State) (w : WatchNo) (v : Word), s.phase = .running → (s.watchOf w).fire = some v →
    let x := s.watchOf w
    ∃ t, exec (.watchFire w.val) s = .next t
      ∧ t.watchOf w
        = (if x.record.store = .compareStore then { x with lastValue := v, lastTick := s.timer.ticks, fire := none }
           else { x with fire := none })
      ∧ (∀ u : WatchNo, u ≠ w → t.watchOf u = s.watchOf u)
      ∧ t.watch.hits = s.watch.hits ||| BitVec.twoPow 8 w.val
      ∧ t.events.counters[ctrFires w] = s.events.counters[ctrFires w] + 1
      ∧ (x.record.report = true → s.setup.masks.getLsbD 5 = false → t.events.flags.getLsbD (47 + w.val) = true)
      ∧ (s.OwnershipLawful → ∀ n : SlotNo, (s.slot n).state = .armed → (s.slot n).awaiting = true →
          (s.slot n).latch.watch = w → (s.slot n).latch.delay ≠ 0 →
          t.slot n = { s.slot n with awaiting := false, delayLeft := (s.slot n).latch.delay, counts := false })
      ∧ (s.OwnershipLawful → ∀ n : SlotNo, (s.slot n).state = .armed →
          ((s.slot n).awaiting = false ∨ (s.slot n).latch.watch ≠ w) → t.slot n = s.slot n)
      ∧ (s.OwnershipLawful → ∀ n : SlotNo, ((s.slot n).state = .idle ∨ (s.slot n).state = .faulted) →
          t.slot n = s.slot n)
      ∧ (∀ k : SetNo, s.capture[k].state = .armed → s.capture[k].record.start = some w →
          t.capture[k].state = .recording ∧ t.capture[k].ticksToNext = 0
            ∧ t.capture[k].halfA = { s.capture[k].halfA with state := .filling, records := [] })
      ∧ (∀ k : SetNo, (s.capture[k].state = .recording ∨ s.capture[k].state = .overrun) →
          s.capture[k].record.stop = some w → t.capture[k].state = .draining ∨ t.capture[k].state = .idle)
      ∧ (∀ k : SetNo, s.capture[k].record.start ≠ some w → s.capture[k].record.stop ≠ some w →
          t.capture[k] = s.capture[k])
      ∧ (∀ n : SlotNo, (s.slot n).state = .running → (s.slot n).endWatch = some w →
          (∀ m : SlotNo, m ≠ n → (s.slot m).hears w = false) → t = fireCaptures w (endEntry n (noteFire w v s)))
      ∧ (∀ n : SlotNo, (s.slot n).state = .armed → (s.slot n).awaiting = true → (s.slot n).latch.watch = w →
          (s.slot n).latch.delay = 0 → (∀ m : SlotNo, m ≠ n → (s.slot m).hears w = false) →
          t = fireCaptures w (claim n ((noteFire w v s).setSlot n { s.slot n with awaiting := false })))

/-- REARM WATCH, READ HITS, LOAD COUNTER and READ EVENTS: what each answers, and what it clears or replaces.
That the spent flag is answered as the word 1 for yes and 0 for no is the model's choice (log 33). -/
def Obligations.WatchCounterAndEventRequests : Prop :=
  (∀ (s : State) (r : Request), s.serves r →
     (r.code = 22 → 8 ≤ r.object → exec .rearmWatch s = .next (s.toHunt.answered r .noIndex []))
     ∧ (r.code = 22 → ∀ w : WatchNo, r.object = w.val →
       exec .rearmWatch s
         = .next ((s.toHunt.setWatch w { s.watchOf w with count := 0, spent := false, latched := false }).answered r .ok
             [if (s.watchOf w).spent = true then 1 else 0]))
     ∧ (r.code = 23 →
       exec .readHits s
         = .next (State.answered r .ok [word s.watch.hits.toNat] { s.toHunt with watch := { s.watch with hits := 0 } })))
  ∧ (∀ (s : State) (r : Request), s.serves r →
       (r.code = 25 → 66 ≤ r.index → exec .loadCounter s = .next (s.toHunt.answered r .noIndex []))
       ∧ (r.code = 25 → ∀ i : CounterNo, r.index = i.val →
         (r.data = [] → exec .loadCounter s = .next (s.toHunt.answered r .range []))
         ∧ ∀ v vs, r.data = v :: vs →
           exec .loadCounter s
             = .next (State.answered r .ok [s.events.counters[i]]
                 { s.toHunt with events := { s.events with counters := s.events.counters.set i v } }))
       ∧ (r.code = 26 → ∃ ws : List Word, ws.length = 9
         ∧ (∀ c, c < 8 → (ws.getD 0 0).getLsbD c = s.events.summary.getLsbD c)
         ∧ (∀ f, f < 128 → (ws.getD (1 + f / 16) 0).getLsbD (f % 16) = s.events.flags.getLsbD f)
         ∧ exec .readEvents s
           = .next (State.answered r .ok ws
               { s.toHunt with events := { s.events with flags := 0, summary := 0 }, tx := { s.tx with report := false } })))

/-! ### Replay (chapter 8) -/

/-- Interpolation: a plus the rounded part of the step, half away from zero, exact at phase 0, between its two samples, and falling
steps the mirror of rising ones. -/
def Obligations.InterpolationRoundsHalfAway : Prop :=
  ∀ (a b : Word) (j k : Nat), j < k → k ≤ 256 →
    let d : Int := b.toInt - a.toInt
    let q : Nat := d.natAbs * j
    let r : Nat := (2 * q + k) / (2 * k)
    (0 < d → roundHaz d j k = r) ∧ (d < 0 → roundHaz d j k = -r) ∧ (d = 0 → roundHaz d j k = 0)
    ∧ (-65535 ≤ d ∧ d ≤ 65535) ∧ q < 65535 * 256 ∧ r ≤ d.natAbs
    ∧ (interpolate a b j k).toInt = a.toInt + roundHaz d j k
    ∧ (min a.toInt b.toInt ≤ (interpolate a b j k).toInt ∧ (interpolate a b j k).toInt ≤ max a.toInt b.toInt)
    ∧ interpolate a b 0 k = a
    ∧ roundHaz (-d) j k = -roundHaz d j k
    ∧ roundHaz 3 1 2 = 2 ∧ roundHaz (-3) 1 2 = -2

/-- What each track presents at a tick, in each mode and state, how its phase moves on, and the end of its span: a STORED playhead moves
on, returns to 0 under LOOP and ends with TRACK_END under ONCE; a FED ring gives up one sample, or the track goes to UNDERRUN with
TRACK_UNDERRUN. UNDERRUN counts a tick and keeps its phase. The tick's order is the one that leaves the slots' counts open
(log 5). -/
def Obligations.TickSettlesEachTrack : Prop :=
  ∀ (s s0 : State) (c : Instr) (u : TrackNo), s.TickStarts c .eventsFirst s0 → s0.Settled → (s.track u).desc.Legal →
    let x := s.track u
    let m := s.replay.mem
    let at_ (i : Nat) : Word := Mem.read m (x.desc.base + i)
    let ring (i : Nat) : Word := Mem.read m (x.desc.base + (x.readPoint - x.desc.base + i) % x.desc.size)
    ∃ t, exec c s = .next t
      ∧ (x.desc.mode = .stored →
        ((x.state ≠ .playing ∨ x.desc.interpolate = false) → (t.track u).presented = at_ x.playhead)
        ∧ (x.state = .playing → x.desc.interpolate = true →
          (x.playhead + 1 < x.desc.size →
            (t.track u).presented = interpolate (at_ x.playhead) (at_ (x.playhead + 1)) x.phase x.desc.divider)
          ∧ (x.desc.size ≤ x.playhead + 1 → x.desc.loop = true →
            (t.track u).presented = interpolate (at_ x.playhead) (at_ 0) x.phase x.desc.divider)
          ∧ (x.desc.size ≤ x.playhead + 1 → x.desc.loop = false → (t.track u).presented = at_ x.playhead)))
      ∧ (x.desc.mode = .fed →
        (x.fill = 0 → (t.track u).presented = x.presented)
        ∧ (x.fill ≠ 0 → (x.state ≠ .playing ∨ x.desc.interpolate = false ∨ x.fill = 1) →
          (t.track u).presented = ring 0)
        ∧ (x.state = .playing → x.desc.interpolate = true → 2 ≤ x.fill →
          (t.track u).presented = interpolate (ring 0) (ring 1) x.phase x.desc.divider))
      ∧ (x.state ≠ .playing → t.track u = { x with presented := (t.track u).presented })
      ∧ (x.state = .playing → x.phase + 1 < x.desc.divider →
        t.track u = { x with presented := (t.track u).presented, phase := x.phase + 1 })
      ∧ (x.state = .playing → x.phase + 1 = x.desc.divider → x.desc.mode = .stored →
        (x.playhead + 1 < x.desc.size →
          t.track u = { x with presented := (t.track u).presented, phase := 0, playhead := x.playhead + 1 })
        ∧ (x.desc.size ≤ x.playhead + 1 → x.desc.loop = true →
          t.track u = { x with presented := (t.track u).presented, phase := 0, playhead := 0 })
        ∧ (x.desc.size ≤ x.playhead + 1 → x.desc.loop = false →
          t.track u = { x with presented := (t.track u).presented, phase := 0, playhead := x.desc.size - 1, state := .ended }
            ∧ (s.setup.masks.getLsbD 3 = false → t.events.flags.getLsbD (27 + u.val) = true)))
      ∧ (x.state = .playing → x.phase + 1 = x.desc.divider → x.desc.mode = .fed →
        (2 ≤ x.fill →
          t.track u
            = { x with
                presented := (t.track u).presented, phase := 0, fill := x.fill - 1
                readPoint := x.desc.base + (x.readPoint - x.desc.base + 1) % x.desc.size })
        ∧ (x.fill < 2 →
          t.track u = { x with presented := (t.track u).presented, phase := x.desc.divider - 1, state := .underrun }
            ∧ (s.setup.masks.getLsbD 3 = false → t.events.flags.getLsbD (35 + u.val) = true)))
      ∧ (x.state = .underrun →
        t.events.counters[ctrUnderrunTicks u] = s.events.counters[ctrUnderrunTicks u] + 1)

/-- The end of a span of a PLAYING track by its mode and LOOP, with TRACK_END or TRACK_UNDERRUN, and nothing before the divider; PLAY
TRACK and STOP TRACK with their refusals, their effect by mode and state, and the earlier state answered.
The model's choices: a span end as a row of its own acts on a phase at its divider (log 7), before the divider it does not occur
(log 1), and a FED track in ENDED plays as a STOPPED one (log 19). -/
def Obligations.TracksPlayStopAndEndSpans : Prop :=
  (∀ (s : State) (u : TrackNo), s.phase = .running → (s.track u).state = .playing →
     let x := s.track u
     let p := x.desc.base + (x.readPoint - x.desc.base + 1) % x.desc.size
     (x.phase < x.desc.divider → exec (.trackSpanEnd u.val) s = .next s)
     ∧ (x.desc.divider ≤ x.phase →
       (x.desc.mode = .stored → x.playhead + 1 < x.desc.size →
         exec (.trackSpanEnd u.val) s = .next (s.setTrack u { x with phase := 0, playhead := x.playhead + 1 }))
       ∧ (x.desc.mode = .stored → x.desc.size ≤ x.playhead + 1 → x.desc.loop = true →
         exec (.trackSpanEnd u.val) s = .next (s.setTrack u { x with phase := 0, playhead := 0 }))
       ∧ (x.desc.mode = .stored → x.desc.size ≤ x.playhead + 1 → x.desc.loop = false →
         exec (.trackSpanEnd u.val) s
           = .next (raise (.trackEnd u)
               (s.setTrack u { x with phase := 0, playhead := x.desc.size - 1, state := .ended })))
       ∧ (x.desc.mode = .fed → 2 ≤ x.fill →
         exec (.trackSpanEnd u.val) s = .next (s.setTrack u { x with phase := 0, readPoint := p, fill := x.fill - 1 }))
       ∧ (x.desc.mode = .fed → x.fill < 2 →
         exec (.trackSpanEnd u.val) s
           = .next (raise (.trackUnderrun u)
               (s.setTrack u { x with phase := x.desc.divider - 1, state := .underrun })))))
  ∧ (∀ (s : State) (r : Request), s.serves r →
       (r.code = 15 → 8 ≤ r.object → exec .playTrack s = .next (s.toHunt.answered r .noIndex []))
       ∧ (r.code = 16 → 8 ≤ r.object → exec .stopTrack s = .next (s.toHunt.answered r .noIndex []))
       ∧ ∀ u : TrackNo, r.object = u.val →
         let x := s.track u
         (r.code = 15 → s.safe.asserted = true → exec .playTrack s = .next (s.toHunt.answered r .safe []))
         ∧ (r.code = 15 → s.safe.asserted = false → x.desc.mode = .stored →
           exec .playTrack s
             = .next ((s.toHunt.setTrack u { x with state := .playing, playhead := 0, phase := 0 }).answered r .ok
                 [word x.state.num]))
         ∧ (r.code = 15 → s.safe.asserted = false → x.desc.mode = .fed → x.state ≠ .playing →
           exec .playTrack s
             = .next ((s.toHunt.setTrack u { x with state := .playing, phase := 0 }).answered r .ok [word x.state.num]))
         ∧ (r.code = 15 → s.safe.asserted = false → x.desc.mode = .fed → x.state = .playing →
           exec .playTrack s = .next (s.toHunt.answered r .ok [1]))
         ∧ (r.code = 16 →
           exec .stopTrack s
             = .next ((s.toHunt.setTrack u { x with state := .stopped }).answered r .ok [word x.state.num])))

/-- APPEND TRACK: as many words as the ring has room for join it in order, each at the next place, over no unconsumed word; the rest are
dropped and counted, and an UNDERRUN track with two samples plays again. Replay Memory is in its canonical form, the model's choice
(log 23). -/
def Obligations.AppendFillsTheRing : Prop :=
  ∀ (s : State) (r : Request), s.serves r → r.code = 17 →
    (8 ≤ r.object → exec .appendTrack s = .next (s.toHunt.answered r .noIndex []))
    ∧ ∀ u : TrackNo, r.object = u.val →
      let x := s.track u
      let n := min r.data.length (x.desc.size - x.fill)
      (x.desc.mode = .stored → exec .appendTrack s = .next (s.toHunt.answered r .range []))
      ∧ (x.desc.mode = .fed → x.Legal → Mem.Wf s.replay.mem →
        ∃ t : State, exec .appendTrack s
            = .next (t.answered r (if n = r.data.length then .ok else .part) [word n])
          ∧ (∀ j, j < n → Mem.read t.replay.mem (x.desc.forward x.readPoint (x.fill + j)) = r.data.getD j 0)
          ∧ (∀ a, (∀ j, j < n → a ≠ x.desc.forward x.readPoint (x.fill + j)) →
              Mem.read t.replay.mem a = Mem.read s.replay.mem a)
          ∧ t.track u
            = { x with
                writePoint := x.desc.forward x.readPoint (x.fill + n), fill := x.fill + n
                state := if x.state = .underrun ∧ 2 ≤ x.fill + n then .playing else x.state }
          ∧ (∀ v : TrackNo, v ≠ u → t.track v = s.track v)
          ∧ t.events.counters[ctrAppendDropped u]
            = s.events.counters[ctrAppendDropped u] + word (r.data.length - n)
          ∧ t = { s.toHunt with replay := t.replay, events := t.events, tx := { s.tx with report := t.tx.report } }
          ∧ (n = r.data.length → t.events = s.events ∧ t.tx = s.tx))

/-- READ MEMORY and WRITE MEMORY: a run past the end of Replay Memory is refused; a read answers up to 32 words as they stand, PARTIAL
beyond that; a write stores its words at their addresses and no other. That any value of the object field is served is the model's
choice (log 32). -/
def Obligations.ReplayMemoryReadsAndWrites : Prop :=
  ∀ (s : State) (r : Request), s.serves r →
    (r.code = 3 →
      (65536 < r.index + r.count → exec .readMemory s = .next (s.toHunt.answered r .noIndex []))
      ∧ (r.index + r.count ≤ 65536 →
        exec .readMemory s
          = .next (s.toHunt.answered r (if r.count ≤ 32 then .ok else .part)
              ((List.range (min 32 r.count)).map fun j => Mem.read s.replay.mem (r.index + j)))))
    ∧ (r.code = 4 →
      (65536 < r.index + r.data.length → exec .writeMemory s = .next (s.toHunt.answered r .noIndex []))
      ∧ (r.index + r.data.length ≤ 65536 → Mem.Wf s.replay.mem →
        ∃ m, exec .writeMemory s = .next (State.answered r .ok [] { s.toHunt with replay := { s.replay with mem := m } })
          ∧ Mem.Wf m
          ∧ (∀ j, j < r.data.length → Mem.read m (r.index + j) = r.data.getD j 0)
          ∧ ∀ a, (a < r.index ∨ r.index + r.data.length ≤ a) → Mem.read m a = Mem.read s.replay.mem a))

/-! ### Capture (chapter 9) -/

/-- ARM CAPTURE arms an IDLE set from its record, or starts it at once without a start watch; STOP CAPTURE ends an ARMED set, closes the
FILLING half of a recording one, and leaves the others. -/
def Obligations.CaptureRequestsArmAndStop : Prop :=
  ∀ (s : State) (r : Request), s.serves r →
    (r.code = 19 → 2 ≤ r.object → exec .armCapture s = .next (s.toHunt.answered r .noIndex []))
    ∧ (r.code = 20 → 2 ≤ r.object → exec .stopCapture s = .next (s.toHunt.answered r .noIndex []))
    ∧ ∀ k : SetNo, r.object = k.val →
      let x := s.capture[k]
      let cleared (y : Half) : Half := { y with state := .vacant, records := [] }
      (r.code = 19 → x.state ≠ .idle → exec .armCapture s = .next (s.toHunt.answered r .busy []))
      ∧ (r.code = 19 → x.state = .idle → ∀ w, x.record.start = some w →
        exec .armCapture s
          = .next ((s.toHunt.setCapture k
              { x with state := .armed, halfA := cleared x.halfA, halfB := cleared x.halfB, nextSeq := 0,
                       recordsDue := 0, due := none }).answered r .ok [1]))
      ∧ (r.code = 19 → x.state = .idle → x.record.start = none →
        exec .armCapture s
          = .next ((s.toHunt.setCapture k
              { x with state := .recording, halfA := { x.halfA with state := .filling, records := [] },
                       halfB := cleared x.halfB, nextSeq := 0, recordsDue := 0, ticksToNext := 0,
                       due := none }).answered r .ok [2]))
      ∧ (r.code = 20 → (x.state = .idle ∨ x.state = .draining) →
        exec .stopCapture s = .next (s.toHunt.answered r .ok [word x.state.num]))
      ∧ (r.code = 20 → x.state = .armed →
        exec .stopCapture s
          = .next ((raise (.captureDone k) (s.toHunt.setCapture k { x with state := .idle })).answered r .ok [1]))
      ∧ (∀ h : HalfName, r.code = 20 → x.state = .recording → (x.half h).state = .filling →
          (x.half h.other).state ≠ .filling →
        ((x.half h).records ≠ [] →
          exec .stopCapture s
            = .next (State.answered r .ok [2]
                { s.toHunt.setCapture k
                    { x.setHalf h { x.half h with state := .full } with state := .draining, due := none } with
                  tx := { s.tx with drain := s.tx.drain ++ [{ set := k, half := h, sent := 0 }] } }))
        ∧ ((x.half h).records = [] → (x.half h.other).state = .full →
          exec .stopCapture s
            = .next ((s.toHunt.setCapture k
                { x.setHalf h (cleared (x.half h)) with state := .draining, due := none }).answered r .ok [2]))
        ∧ ((x.half h).records = [] → (x.half h.other).state = .vacant →
          exec .stopCapture s
            = .next ((raise (.captureDone k)
                (s.toHunt.setCapture k
                  { x.setHalf h (cleared (x.half h)) with state := .idle, due := none })).answered r .ok [2])))
      ∧ (r.code = 20 → x.state = .overrun → x.halfA.state = .full → x.halfB.state = .full →
        exec .stopCapture s
          = .next ((s.toHunt.setCapture k { x with state := .draining, due := none }).answered r .ok [3]))

/-- A record due is taken into the FILLING half with the next sequence number, or dropped and counted in OVERRUN; a full half gives way
to the other or to OVERRUN. A set whose records due have reached its length stops and drains. Where neither stands nothing
happens. That these rows act on what the tick being taken has left due is the model's choice (log 7). -/
def Obligations.RecordDueAndLengthReached : Prop :=
  (∀ (s : State) (k : SetNo), s.phase = .running →
     let x := s.capture[k]
     (x.due = none → exec (.captureRecordDue k.val) s = .next s)
     ∧ ∀ sample : List Word, x.due = some sample →
       let n := if x.record.length = 0 then x.recordsDue else x.recordsDue + 1
       let counted (z : CaptureSet) : CaptureSet :=
         { z with ticksToNext := x.record.decimation - 1, nextSeq := x.nextSeq + 1, recordsDue := n, due := none }
       (x.state = .overrun →
         exec (.captureRecordDue k.val) s = .next (advance (ctrRecordsDropped k) 1 (s.setCapture k (counted x))))
       ∧ (∀ h : HalfName, x.state = .recording → (x.half h).state = .filling → (x.half h.other).state ≠ .filling →
         let y : Half :=
           { x.half h with
             records := (x.half h).records ++ [sample]
             firstTick := if (x.half h).records = [] then s.timer.ticks else (x.half h).firstTick
             firstSeq := if (x.half h).records = [] then x.nextSeq else (x.half h).firstSeq }
         let queued : Transmitter := { s.tx with drain := s.tx.drain ++ [{ set := k, half := h, sent := 0 }] }
         ((y.records.length < 1024 / x.record.channels ∨ (x.record.length ≠ 0 ∧ n = x.record.length)) →
           exec (.captureRecordDue k.val) s = .next (s.setCapture k (counted (x.setHalf h y))))
         ∧ (1024 / x.record.channels ≤ y.records.length → ¬ (x.record.length ≠ 0 ∧ n = x.record.length) →
           ((x.half h.other).state = .vacant →
             exec (.captureRecordDue k.val) s
               = .next { s.setCapture k (counted ((x.setHalf h { y with state := .full }).setHalf h.other
                   { x.half h.other with state := .filling, records := [] })) with tx := queued })
           ∧ ((x.half h.other).state = .full →
             exec (.captureRecordDue k.val) s
               = .next (raise (.captureOverrun k)
                   { s.setCapture k { counted (x.setHalf h { y with state := .full }) with state := .overrun } with
                     tx := queued })))))
  ∧ (∀ (s : State) (k : SetNo), s.phase = .running →
       let x := s.capture[k]
       ((x.record.length = 0 ∨ x.recordsDue ≠ x.record.length ∨ (x.state ≠ .recording ∧ x.state ≠ .overrun)) →
         exec (.captureLengthReached k.val) s = .next s)
       ∧ (x.record.length ≠ 0 → x.recordsDue = x.record.length →
         (∀ h : HalfName, x.state = .recording → (x.half h).state = .filling → (x.half h).records ≠ [] →
             (x.half h.other).state ≠ .filling →
           exec (.captureLengthReached k.val) s
             = .next { s.setCapture k
                   { x.setHalf h { x.half h with state := .full } with state := .draining, due := none } with
                 tx := { s.tx with drain := s.tx.drain ++ [{ set := k, half := h, sent := 0 }] } })
         ∧ (x.state = .overrun → x.halfA.state = .full → x.halfB.state = .full →
           exec (.captureLengthReached k.val) s = .next (s.setCapture k { x with state := .draining, due := none }))))

/-- A tick's event of a recording set, its halves and its length: before its record is due it counts down; a record due holds the tap
values of the listed channels in list order, numbered, and stamped with the tick when it opens its half; the record that fills
the half turns to the other half or to OVERRUN; in OVERRUN the record is dropped and counted; and a set whose records due reach
its length stops and drains. -/
def Obligations.TickTakesACaptureRecord : Prop :=
  ∀ (s s0 : State) (o : CountOrder) (c : Instr) (k : SetNo), s.TickStarts c o s0 → s0.Settled →
    let x := s.capture[k]
    x.due = none → ¬ (x.record.length ≠ 0 ∧ x.recordsDue = x.record.length) →
    ∃ t d, exec c s = .next t ∧ t.port.sending = some d
      ∧ (let input (ch : Chan) : Word :=
           let r := s.channels.records[ch]
           if s.enabled ch = false then r.safeValue
           else match r.source with
             | .code => r.insert
             | .track u => (t.track u).presented
             | .live =>
               if t.ingress.flow = .live then s0.ingress.held[ch]
               else match r.starve with | .hold => s0.ingress.held[ch] | .code => r.insert | .safe => r.safeValue
         let sample : List Word :=
           x.record.chans.map fun ch => match x.record.tap with | .input => input ch | .output => d.words[ch].value
         let n := if x.record.length = 0 then x.recordsDue else x.recordsDue + 1
         let last : Prop := x.record.length ≠ 0 ∧ n = x.record.length
         let counted (z : CaptureSet) : CaptureSet :=
           { z with ticksToNext := x.record.decimation - 1, nextSeq := x.nextSeq + 1, recordsDue := n }
         ((x.state = .recording ∨ x.state = .overrun) → 0 < x.ticksToNext →
           t.capture[k] = { x with ticksToNext := x.ticksToNext - 1 })
         ∧ ((x.state = .idle ∨ x.state = .armed ∨ x.state = .draining) → t.capture[k] = x)
         ∧ (x.state = .overrun → x.ticksToNext = 0 → x.halfA.state = .full → x.halfB.state = .full →
           t.events.counters[ctrRecordsDropped k] = s0.events.counters[ctrRecordsDropped k] + 1
           ∧ (¬ last → t.capture[k] = counted x)
           ∧ (last → t.capture[k] = { counted x with state := .draining }))
         ∧ (∀ h : HalfName, x.state = .recording → x.ticksToNext = 0 → (x.half h).state = .filling →
             (x.half h.other).state ≠ .filling →
           let y : Half :=
             { x.half h with
               records := (x.half h).records ++ [sample]
               firstTick := if (x.half h).records = [] then s.timer.ticks + 1 else (x.half h).firstTick
               firstSeq := if (x.half h).records = [] then x.nextSeq else (x.half h).firstSeq }
           let queued : DrainEntry := { set := k, half := h, sent := 0 }
           (¬ last → y.records.length < 1024 / x.record.channels → t.capture[k] = counted (x.setHalf h y))
           ∧ (¬ last → 1024 / x.record.channels ≤ y.records.length →
             queued ∈ t.tx.drain
             ∧ ((x.half h.other).state = .vacant →
               t.capture[k]
                 = counted ((x.setHalf h { y with state := .full }).setHalf h.other
                     { x.half h.other with state := .filling, records := [] }))
             ∧ ((x.half h.other).state = .full →
               t.capture[k] = { counted (x.setHalf h { y with state := .full }) with state := .overrun }
                 ∧ (s.setup.masks.getLsbD 4 = false → t.events.flags.getLsbD (43 + k.val) = true)))
           ∧ (last → queued ∈ t.tx.drain
             ∧ t.capture[k] = { counted (x.setHalf h { y with state := .full }) with state := .draining })))

/-! ### Management, counters and events (chapters 10 to 12) -/

/-- The requests that read: each answers its unit as it stands, or its refusal, and changes nothing, but that CHANNEL STATUS settles how
many words of the delivery in progress are out (log 8). -/
def Obligations.StatusRequestsAnswerAsThingsStand : Prop :=
  (∀ (s : State) (r : Request), s.serves r →
     (r.code = 12 → ∀ n : SlotNo, r.object = n.val →
       let x := s.slot n
       exec .slotStatus s
         = .next (s.toHunt.answered r .ok
             [word x.state.num, word x.block, word x.latch.target.val, word x.latch.priority, word x.entryIndex,
              word x.entriesLeft, word x.passesLeft, word x.ticksLeft, word x.delayLeft,
              if x.awaiting = true then 1 else 0, word x.fault.num, x.entryAtFault.elim 65535 word]))
     ∧ (r.code = 12 → 8 ≤ r.object → exec .slotStatus s = .next (s.toHunt.answered r .noIndex []))
     ∧ (r.code = 13 → ∃ busy faulted : Word, exec .slotSummary s = .next (s.toHunt.answered r .ok [busy, faulted])
       ∧ (∀ i : SlotNo, busy.getLsbD i.val = (s.slot i).state.busy)
       ∧ (∀ i : SlotNo, faulted.getLsbD i.val = decide ((s.slot i).state = .faulted))
       ∧ ∀ i, 8 ≤ i → busy.getLsbD i = false ∧ faulted.getLsbD i = false)
     ∧ (r.code = 18 → ∀ u : TrackNo, r.object = u.val →
       let x := s.track u
       (x.desc.mode = .stored →
         exec .trackStatus s
           = .next (s.toHunt.answered r .ok
               [word x.state.num, 0, word x.playhead, word x.phase, word x.desc.base, word x.desc.base, 0, 0, x.presented]))
       ∧ (x.desc.mode = .fed →
         exec .trackStatus s
           = .next (s.toHunt.answered r .ok
               [word x.state.num, 1, 0, word x.phase, word x.readPoint, word x.writePoint, word (x.fill / 65536),
                word x.fill, x.presented])))
     ∧ (r.code = 18 → 8 ≤ r.object → exec .trackStatus s = .next (s.toHunt.answered r .noIndex []))
     ∧ (r.code = 24 → (65 < r.index ∨ 66 < r.index + r.count) →
       exec .readCounters s = .next (s.toHunt.answered r .noIndex []))
     ∧ (r.code = 24 → r.index ≤ 65 → r.index + r.count ≤ 66 →
       exec .readCounters s
         = .next (s.toHunt.answered r (if r.count ≤ 32 then .ok else .part)
             ((s.events.counters.toList.drop r.index).take (min 32 r.count)))))
  ∧ (∀ (s : State) (r : Request), s.serves r →
       (r.code = 21 → 2 ≤ r.object → exec .captureStatus s = .next (s.toHunt.answered r .noIndex []))
       ∧ (r.code = 8 → 32 ≤ r.object → exec .channelStatus s = .next (s.toHunt.answered r .noIndex []))
       ∧ (r.code = 21 → ∀ k : SetNo, r.object = k.val →
         let x := s.capture[k]
         ∃ a b left : Word,
           exec .captureStatus s
             = .next (s.toHunt.answered r .ok
                 [word x.state.num, word x.halfA.state.num, a, word x.halfB.state.num, b, x.nextSeq, left])
           ∧ (x.record.length = 0 → left = 0)
           ∧ (x.recordsDue ≤ x.record.length → left = word (x.record.length - x.recordsDue))
           ∧ (x.halfA.state = .vacant → a = 0) ∧ (x.halfB.state = .vacant → b = 0)
           ∧ (x.halfA.state = .filling → a = word x.halfA.records.length)
           ∧ (x.halfB.state = .filling → b = word x.halfB.records.length)
           ∧ (s.DrainLegal → ∀ e ∈ s.tx.drain, e.set = k →
               (e.half = .a → a = word (x.halfA.records.length - e.sent))
               ∧ (e.half = .b → b = word (x.halfB.records.length - e.sent))))
       ∧ (r.code = 8 → ∀ c : Chan, r.object = c.val →
         let o := s.own[c]
         let code (x : Context) : Word := word (match x.owner with | some n => n.val | none => 255)
         ∃ (t : State) (w : OutWord),
           exec .channelStatus s
             = .next (t.answered r .ok
                 ([code o.current, BitVec.ofInt 16 o.current.priority, word o.stack.length]
                   ++ o.stack.reverse.flatMap (fun x => [code x, BitVec.ofInt 16 x.priority])
                   ++ [word o.waiting.length] ++ o.waiting.flatMap (fun x => [word x.slot.val, word x.priority])
                   ++ [w.value, word w.cond.num]))
           ∧ (s.port.sending = none → w = s.port.set[c] ∧ t = s.toHunt)
           ∧ (∀ d, s.port.sending = some d → d.sent ≤ 32 → ∃ k, (d.sent ≤ k ∧ k ≤ 32)
               ∧ w = (if c.val < k then d.words[c] else s.port.set[c])
               ∧ t.port = { s.port with sending := some { d with sent := k } }
               ∧ t = { s.toHunt with port := t.port, freeIx := t.freeIx })))

/-- The checks of WRITE RECORD that every table shares, the RANGE refusal of the seven tables that check their records, and which written
records RANGE refuses, table by table; a refused write changes nothing.
That an object that names no table belongs to each of the nine rows, and is answered NO_TABLE by each, is deduced (log 3). -/
def Obligations.RecordWritesAreCheckedWhole : Prop :=
  (∀ (c : Instr) (obj size words : Nat) (s : State) (r : Request), writtenTable? c = some (obj, size, words) →
     s.serves r → r.code = 2 →
     ((r.object = 0 ∨ 9 < r.object) → exec c s = .next (s.toHunt.answered r .noTable []))
     ∧ (r.object = obj → (size ≤ r.index ∨ size < r.index + r.count) → exec c s = .next (s.toHunt.answered r .noIndex []))
     ∧ (r.object = obj → r.index < size → r.index + r.count ≤ size →
       (r.data.length ≠ r.count * words → exec c s = .next (s.toHunt.answered r .range []))
       ∧ (r.data.length = r.count * words → (∃ g ∈ groups words r.count r.data,
             (c = .writeRecordChannel ∧ channelOf? g = none) ∨ (c = .writeRecordSlotmap ∧ mapEntryOf? g = none)
             ∨ (c = .writeRecordOverlay ∧ overlayOf? g = none) ∨ (c = .writeRecordWatch ∧ watchRecordOf? g = none)
             ∨ (c = .writeRecordTrack ∧ trackOf? g = none) ∨ (c = .writeRecordCapture ∧ captureOf? g = none)
             ∨ (c = .writeRecordSetup ∧ setupOf? g = none)) →
           exec c s = .next (s.toHunt.answered r .range []))))
  ∧ ((∀ w1 ins lo hi trim safe : Word,
       channelOf? [w1, ins, lo, hi, trim, safe] = none
         ↔ (1 < bits w1 14 2 ∨ bits w1 12 2 = 3 ∨ bits w1 10 2 = 3 ∨ (bits w1 10 2 = 2 ∧ 7 < bits w1 6 4)
             ∨ hi.toInt < lo.toInt ∨ trim.toInt < -4096 ∨ 4095 < trim.toInt))
     ∧ (∀ w1 g o h st lm tc a b qp du len : Word,
       overlayOf? [w1, g, o, h, st, lm, tc, a, b, qp, du, len] = none
         ↔ (7 < bits w1 8 8 ∨ 4 < bits w1 0 8 ∨ 32767 < lm.toNat ∨ 7 < bits tc 8 8 ∨ 1 < bits tc 0 8 ∨ a = 0 ∨ b = 0
             ∨ bits qp 8 8 = 0 ∨ 12 < bits qp 8 8 ∨ 31 < bits qp 0 8 ∨ len = 0 ∨ 16 < len.toNat))
     ∧ (∀ w1 cp t1 t2 m c : Word,
       watchRecordOf? [w1, cp, t1, t2, m, c] = none
         ↔ (1 < bits w1 14 2 ∨ 1 < bits w1 12 2 ∨ 5 < bits w1 9 3 ∨ 1 < bits w1 7 2 ∨ 1 < bits w1 5 2 ∨ 1 < bits w1 3 2
             ∨ 31 < bits cp 8 8 ∨ bits cp 0 8 = 0
             ∨ ((bits w1 9 3 = 2 ∨ bits w1 9 3 = 3) ∧ t2.toInt < t1.toInt)))
     ∧ (∀ w1 base size k : Word,
       trackOf? [w1, base, size, k] = none
         ↔ (1 < bits w1 14 2 ∨ 1 < bits w1 12 2 ∨ 1 < bits w1 10 2 ∨ k = 0 ∨ 256 < k.toNat
             ∨ 65536 < base.toNat + (if size = 0 then 65536 else size.toNat)))
     ∧ (∀ w1 p st sk e m : Word,
       setupOf? [w1, p, st, sk, e, m] = none
         ↔ (1 < bits w1 14 2 ∨ 1 < bits w1 12 2 ∨ bits sk 8 8 = 0 ∨ bits sk 0 8 = 0 ∨ e = 0 ∨ 32 < e.toNat))
     ∧ (∀ w1 m len : Word, ∀ list : List Word, list.length = 8 →
       (captureOf? (w1 :: m :: len :: list) = none
         ↔ (bits w1 12 4 = 0 ∨ 8 < bits w1 12 4 ∨ 1 < bits w1 10 2 ∨ 8 < bits w1 6 4 ∨ 8 < bits w1 2 4 ∨ m = 0
             ∨ 256 < m.toNat ∨ ∃ v ∈ list.take (bits w1 12 4), 31 < v.toNat)))
     ∧ ∀ w : Word, mapEntryOf? [w] = none ↔ (31 < w.toNat ∧ w ≠ 255))

/-- A record's words are read back as the record, every field at every value the table admits. A Scenario Block and an Episode Entry
are read from the words at their places in the stores, whatever their ignored bits hold.
That the track bits of a Channel Record not sourced from a track are kept and read back is the model's choice (log 12). -/
def Obligations.RecordWordsRoundTrip : Prop :=
  (∀ r : ChannelRecord, r.Legal → ((∃ t, r.source = .track t) → r.spare = 0) → channelOf? r.words = some r)
  ∧ (∀ e : Option Chan, mapEntryOf? (mapEntryWords e) = some e)
  ∧ (∀ r : OverlayRecord, r.Legal → overlayOf? r.words = some r)
  ∧ (∀ r : WatchRecord, 1 ≤ r.persistence → r.persistence ≤ 255 →
      ((r.mode = .inside ∨ r.mode = .outside) → r.t1.toInt ≤ r.t2.toInt) → watchRecordOf? r.words = some r)
  ∧ (∀ d : TrackDescriptor, d.Legal → trackOf? d.words = some d)
  ∧ (∀ r : CaptureRecord, 1 ≤ r.channels → r.channels ≤ 8 → 1 ≤ r.decimation → r.decimation ≤ 256 → r.length < 65536 →
      (∀ v ∈ r.list.toList.take r.channels, v.toNat ≤ 31) → captureOf? r.words = some r)
  ∧ (∀ x : Setup, x.Legal → setupOf? x.words = some x)
  ∧ (∀ (s : State) (b : Nat) (x : Block) (start spare1 spare3 spare4 spare5 : Nat),
      x.priority < 8 → x.delay < 65536 → x.listStart < 1024 → x.listCount < 2048 → x.passes < 256 → (∀ m ∈ x.next, m < 128) →
      start < 4 → x.start = (if start = 1 then .delay else if start = 2 then .onFire else .now) →
      spare1 < 4 → spare3 < 64 → spare4 < 32 → spare5 < 128 →
      Mem.read s.scenario.blocks (5 * b)
        = word (x.target.val * 2048 + x.priority * 256 + start * 64 + x.watch.val * 8
            + (match x.endAction with | .restore => 0 | .adopt => 4) + spare1) →
      Mem.read s.scenario.blocks (5 * b + 1) = word x.delay →
      Mem.read s.scenario.blocks (5 * b + 2) = word (spare3 * 1024 + x.listStart) →
      Mem.read s.scenario.blocks (5 * b + 3) = word (spare4 * 2048 + x.listCount) →
      Mem.read s.scenario.blocks (5 * b + 4)
        = word (x.passes * 256 + (match x.next with | some m => 128 + m | none => spare5)) →
      s.block b = x)
  ∧ (∀ (s : State) (e : Nat) (x : Entry) (spare code : Nat), x.duration < 65536 → spare < 16 → code < 16 →
      x.endWatch = (if h : code < 8 then some ⟨code, h⟩ else none) →
      Mem.read s.scenario.entries (2 * e) = word (x.overlay.val * 256 + spare * 16 + code) →
      Mem.read s.scenario.entries (2 * e + 1) = word x.duration →
      s.entry e = x)

/-- READ RECORD: an object that names no table and a run past its end are refused; else whole records in index order are answered, as
many as fit in 32 words, PARTIAL where more were asked for. -/
def Obligations.ReadRecordAnswersWholeRecords : Prop :=
  ∀ (s : State) (r : Request), s.serves r → r.code = 1 →
    ((r.object = 0 ∨ 9 < r.object) → exec .readRecord s = .next (s.toHunt.answered r .noTable []))
    ∧ ∀ (size words room : Nat) (record : Nat → List Word),
      ((r.object = 1 ∧ size = 32 ∧ words = 6 ∧ room = 5 ∧ ∀ i : Fin 32, record i.val = s.channels.records[i].words)
        ∨ (r.object = 2 ∧ size = 32 ∧ words = 1 ∧ room = 32 ∧ ∀ i : Fin 32, record i.val = mapEntryWords s.ingress.slotMap[i])
        ∨ (r.object = 3 ∧ size = 256 ∧ words = 12 ∧ room = 2 ∧ ∀ i : Fin 256, record i.val = s.bank[i].words)
        ∨ (r.object = 4 ∧ size = 128 ∧ words = 5 ∧ room = 6 ∧ ∀ i, record i = Mem.readAll s.scenario.blocks (5 * i) 5)
        ∨ (r.object = 5 ∧ size = 1024 ∧ words = 2 ∧ room = 16 ∧ ∀ i, record i = Mem.readAll s.scenario.entries (2 * i) 2)
        ∨ (r.object = 6 ∧ size = 8 ∧ words = 11 ∧ room = 2 ∧ ∀ i : Fin 8, record i.val
            = (s.watchOf i).record.words
              ++ [word (s.watchOf i).count, word (flagCode (s.watchOf i).latched * 2 + flagCode (s.watchOf i).spent),
                  (s.watchOf i).lastValue] ++ words32 (s.watchOf i).lastTick)
        ∨ (r.object = 7 ∧ size = 8 ∧ words = 4 ∧ room = 8 ∧ ∀ i : Fin 8, record i.val = (s.track i).desc.words)
        ∨ (r.object = 8 ∧ size = 2 ∧ words = 11 ∧ room = 2 ∧ ∀ i : Fin 2, record i.val = s.capture[i].record.words)
        ∨ (r.object = 9 ∧ size = 1 ∧ words = 6 ∧ room = 1 ∧ ∀ i, record i = s.setup.words)) →
      ((size ≤ r.index ∨ size < r.index + r.count) → exec .readRecord s = .next (s.toHunt.answered r .noIndex []))
      ∧ (r.index < size → r.index + r.count ≤ size →
        exec .readRecord s
          = .next (s.toHunt.answered r (if r.count ≤ room then .ok else .part)
              ((List.range (min room r.count)).flatMap fun j => record (r.index + j)))
        ∧ ∀ j, j < size → (record j).length = words)

/-- A WRITE RECORD of legal Channel Records stands from the index on; one that turns a channel off faults every slot busy on it with
CHANNEL_OFF and leaves the channel on its base context; nothing else moves. -/
def Obligations.ChannelWriteStoresAndTurnsOff : Prop :=
  (∀ (s : State) (r : Request) (rs : List ChannelRecord), s.serves r → r.code = 2 → r.object = 1 → r.count = rs.length →
     r.index < 32 → r.index + rs.length ≤ 32 →
     decodeAll channelOf? (groups 6 rs.length r.data) = some rs → r.data.length = 6 * rs.length →
     ∃ t : State, exec .writeRecordChannel s = .next (t.answered r .ok [])
       ∧ (∀ c : Chan, t.channels.records[c]
           = if r.index ≤ c.val ∧ c.val < r.index + rs.length then rs.getD (c.val - r.index) s.channels.records[c]
             else s.channels.records[c])
       ∧ t.channels.last = s.channels.last
       ∧ t = { s.toHunt with
                 channels := t.channels, own := t.own
                 scenario := { s.scenario with slots := t.scenario.slots }
                 events := { s.events with flags := t.events.flags, summary := t.events.summary }
                 tx := { s.tx with report := t.tx.report } }
       ∧ (∀ c : Chan, (s.enabled c = false ∨ t.enabled c = true) → t.own[c] = s.own[c])
       ∧ ((∀ c : Chan, s.enabled c = true → t.enabled c = true) → t = { s.toHunt with channels := t.channels }))
  ∧ (∀ (s : State) (r : Request) (c : Chan) (x : ChannelRecord), s.serves r → r.code = 2 → r.object = 1 → r.count = 1 →
       r.index = c.val → r.data.length = 6 → channelOf? r.data = some x → s.enabled c = true → x.enabled = false →
       ∃ t : State, exec .writeRecordChannel s = .next (t.answered r .ok [])
         ∧ t.channels.records[c] = x ∧ t.channels.last = s.channels.last
         ∧ t = { s.toHunt with
                   channels := t.channels, own := t.own
                   scenario := { s.scenario with slots := t.scenario.slots }
                   events := { s.events with flags := t.events.flags, summary := t.events.summary }
                   tx := { s.tx with report := t.tx.report } }
         ∧ t.own[c].active = none ∧ t.own[c].stack = [] ∧ t.own[c].waiting = []
         ∧ t.own[c].base
           = { s.own[c].base with
               freeze := some (s.own[c].base.freeze.getD s.channels.last[c])
               gapHeld := some (s.own[c].base.gapHeld.getD s.channels.last[c]) }
         ∧ (∀ d : Chan, d ≠ c → t.own[d] = s.own[d] ∧ t.channels.records[d] = s.channels.records[d])
         ∧ (∀ n : SlotNo, (s.slot n).state.busy = true → (s.slot n).latch.target = c →
           (t.slot n).state = .faulted ∧ (t.slot n).fault = .channelOff ∧ (t.slot n).block = (s.slot n).block
           ∧ ((s.slot n).state = .running ∨ (s.slot n).state = .suspended →
               (t.slot n).entryAtFault = some (s.slot n).entryIndex)
           ∧ ((s.slot n).state = .armed ∨ (s.slot n).state = .waiting → (t.slot n).entryAtFault = none)
           ∧ (s.setup.masks.getLsbD 2 = false → t.events.flags.getLsbD (11 + n.val) = true))
         ∧ (∀ n : SlotNo, ((s.slot n).state.busy = false ∨ (s.slot n).latch.target ≠ c) → t.slot n = s.slot n))

/-- A Slot Map write: entries from the index on, refused with DUPLICATE where two positions would name one channel. -/
def Obligations.SlotMapWriteKeepsChannelsDistinct : Prop :=
  ∀ (s : State) (r : Request) (es : List (Option Chan)) (m : Vector (Option Chan) 32), s.serves r → r.code = 2 →
    r.object = 2 → r.index < 32 → r.count = es.length → r.index + es.length ≤ 32 →
    r.data = es.map (fun e => match e with | some c => word c.val | none => 255) →
    (∀ i : Fin 32, m[i] = if r.index ≤ i.val ∧ i.val < r.index + es.length then es.getD (i.val - r.index) none
      else s.ingress.slotMap[i]) →
    ((∀ (i j : Fin 32) (c : Chan), m[i] = some c → m[j] = some c → i = j) →
      exec .writeRecordSlotmap s
        = .next (State.answered r .ok [] { s.toHunt with ingress := { s.ingress with slotMap := m } }))
    ∧ (∀ (i j : Fin 32) (c : Chan), m[i] = some c → m[j] = some c → i ≠ j →
      exec .writeRecordSlotmap s = .next (s.toHunt.answered r .duplicate []))

/-- Writes of Overlay Records, blocks and entries stand from the index on; writes of Watch Records clear the run state of each watch
written; a Capture Set record is stored with the run state as it stands, but DUPLICATE and BUSY refuse it.
That a write of a watch takes its waiting fire first is the model's choice (log 15), ruled out here. Scenario Memory and the Episode
Store are in their canonical form, the model's choice (log 23). -/
def Obligations.OverlayScenarioWatchAndCaptureWrites : Prop :=
  (∀ (s : State) (r : Request), s.serves r → r.code = 2 →
     (∀ rs : List OverlayRecord, (∀ x ∈ rs, x.Legal) → r.object = 3 → r.index < 256 → r.count = rs.length →
         r.index + rs.length ≤ 256 → r.data = rs.flatMap OverlayRecord.words →
       ∃ bank, exec .writeRecordOverlay s = .next (State.answered r .ok [] { s.toHunt with bank := bank })
         ∧ ∀ i : Fin 256, bank[i] = if r.index ≤ i.val ∧ i.val < r.index + rs.length
             then rs.getD (i.val - r.index) s.bank[i] else s.bank[i])
     ∧ (r.object = 4 → r.index < 128 → r.index + r.count ≤ 128 → r.data.length = r.count * 5 → Mem.Wf s.scenario.blocks →
       ∃ m, exec .writeRecordBlock s
           = .next (State.answered r .ok [] { s.toHunt with scenario := { s.scenario with blocks := m } })
         ∧ Mem.Wf m
         ∧ (∀ j, j < r.data.length → Mem.read m (5 * r.index + j) = r.data.getD j 0)
         ∧ ∀ a, (a < 5 * r.index ∨ 5 * r.index + r.data.length ≤ a) → Mem.read m a = Mem.read s.scenario.blocks a)
     ∧ (r.object = 5 → r.index < 1024 → r.index + r.count ≤ 1024 → r.data.length = r.count * 2 → Mem.Wf s.scenario.entries →
       ∃ m, exec .writeRecordEpisode s
           = .next (State.answered r .ok [] { s.toHunt with scenario := { s.scenario with entries := m } })
         ∧ Mem.Wf m
         ∧ (∀ j, j < r.data.length → Mem.read m (2 * r.index + j) = r.data.getD j 0)
         ∧ ∀ a, (a < 2 * r.index ∨ 2 * r.index + r.data.length ≤ a) → Mem.read m a = Mem.read s.scenario.entries a))
  ∧ (∀ (s : State) (r : Request) (rs : List WatchRecord), s.serves r → r.code = 2 → r.object = 6 → r.index < 8 →
       r.count = rs.length → r.index + rs.length ≤ 8 → r.data = rs.flatMap WatchRecord.words →
       (∀ x ∈ rs, (1 ≤ x.persistence ∧ x.persistence ≤ 255)
         ∧ ((x.mode = .inside ∨ x.mode = .outside) → x.t1.toInt ≤ x.t2.toInt)) →
       (∀ w : WatchNo, (s.watchOf w).fire = none) →
       ∃ ws, exec .writeRecordWatch s
           = .next (State.answered r .ok [] { s.toHunt with watch := { s.watch with watches := ws } })
         ∧ ∀ w : WatchNo, ws[w] = if r.index ≤ w.val ∧ w.val < r.index + rs.length
             then { record := rs.getD (w.val - r.index) (s.watchOf w).record, count := 0, latched := false, spent := false,
                    lastValue := 0, lastTick := 0, fire := none }
             else s.watchOf w)
  ∧ (∀ (s : State) (r : Request) (k : SetNo) (x : CaptureRecord), s.serves r → r.code = 2 → r.object = 8 → r.index = k.val →
       r.count = 1 → r.data = x.words → captureOf? x.words = some x →
       (¬ (x.list.toList.take x.channels).Nodup → exec .writeRecordCapture s = .next (s.toHunt.answered r .duplicate []))
       ∧ ((x.list.toList.take x.channels).Nodup → s.capture[k].state ≠ .idle →
         exec .writeRecordCapture s = .next (s.toHunt.answered r .busy []))
       ∧ ((x.list.toList.take x.channels).Nodup → s.capture[k].state = .idle →
         exec .writeRecordCapture s = .next ((s.toHunt.setCapture k { s.capture[k] with record := x }).answered r .ok [])))

/-- A write of legal Track Descriptors: BUSY while a written track plays or underruns, OVERLAP where a FED region written meets another
FED region, else stored with the run state of each written track reset. -/
def Obligations.TrackWriteResetsTheRunState : Prop :=
  ∀ (s : State) (r : Request) (ds : List TrackDescriptor) (xs : Vector Track 8), s.serves r → r.code = 2 → r.object = 7 →
    r.index < 8 → r.count = ds.length → r.index + ds.length ≤ 8 → r.data = ds.flatMap TrackDescriptor.words →
    (∀ d ∈ ds, d.Legal) → s.TracksLegal →
    (∀ u : TrackNo, xs[u] = if r.index ≤ u.val ∧ u.val < r.index + ds.length
        then (let d := ds.getD (u.val - r.index) (s.track u).desc
              { desc := d, state := .stopped, playhead := 0, phase := 0, readPoint := d.base, writePoint := d.base, fill := 0,
                presented := 0 })
        else s.track u) →
    let written (u : TrackNo) : Prop := r.index ≤ u.val ∧ u.val < r.index + ds.length
    let moves (u : TrackNo) : Prop := (s.track u).state = .playing ∨ (s.track u).state = .underrun
    let meets (u v : TrackNo) : Prop :=
      u ≠ v ∧ xs[u].desc.mode = .fed ∧ xs[v].desc.mode = .fed
        ∧ ∃ a, (xs[u].desc.base ≤ a ∧ a < xs[u].desc.base + xs[u].desc.size)
          ∧ (xs[v].desc.base ≤ a ∧ a < xs[v].desc.base + xs[v].desc.size)
    ((∃ u, written u ∧ moves u) → exec .writeRecordTrack s = .next (s.toHunt.answered r .busy []))
    ∧ ((∀ u, written u → ¬ moves u) → (∃ u v, meets u v) →
      exec .writeRecordTrack s = .next (s.toHunt.answered r .overlap []))
    ∧ ((∀ u, written u → ¬ moves u) → (∀ u v, ¬ meets u v) →
      exec .writeRecordTrack s
        = .next (State.answered r .ok [] { s.toHunt with replay := { s.replay with tracks := xs } }))

/-- A Setup write stores every field, the period and the starve time clamped; a changed tick source moves the flow to RECOVERING and starts
timer ticks with the new period, and a report hold taken away requests a report while the summary is not empty. -/
def Obligations.SetupWriteActsOnChangedFields : Prop :=
  ∀ (s : State) (r : Request) (w1 p st sk e m : Word) (x : Setup), s.serves r → r.code = 2 → r.object = 9 → r.index = 0 →
    r.count = 1 → r.data = [w1, p, st, sk, e, m] → setupOf? r.data = some x →
    (x.period = max 5 (min 10000 p.toNat) ∧ x.starve = max 10 (min 65535 st.toNat) ∧ x.staleLimit = sk.toNat / 256
      ∧ x.recovery = sk.toNat % 256 ∧ x.expected = e.toNat ∧ x.masks = m.setWidth 8)
    ∧ let report : Bool := s.tx.report || (s.setup.hold && !x.hold && s.events.summary != 0)
      (x.source = s.setup.source →
        exec .writeRecordSetup s
          = .next (State.answered r .ok [] { s.toHunt with setup := x, tx := { s.tx with report := report } }))
      ∧ (x.source ≠ s.setup.source →
        exec .writeRecordSetup s
          = .next (State.answered r .ok [] { s.toHunt with
              setup := x
              ingress := { s.ingress with flow := .recovering, freshRun := 0, flowDue := none }
              timer := { s.timer with
                interval := some (s.timer.interval.getD x.period), heldTick := false, starve := none }
              tx := { s.tx with report := report } }))

/-- An advance of a counter is one addition modulo 65536, with COUNTER_WRAP where it passes 65535. Raising an event of a masked category
does nothing; else its flag is set, its category pending, and a report requested when the summary was empty and report hold
is off. -/
def Obligations.CountersWrapAndEventsSetTheirFlag : Prop :=
  (∀ (i : CounterNo) (n : Nat) (s : State), 1 ≤ n → n ≤ 32767 →
     ((advance i n s).events.counters[i]).toNat = (s.events.counters[i].toNat + n) % 65536
     ∧ (∀ j : CounterNo, j ≠ i → (advance i n s).events.counters[j] = s.events.counters[j])
     ∧ (s.events.counters[i].toNat + n ≤ 65535 →
       (advance i n s).events.flags = s.events.flags ∧ (advance i n s).events.summary = s.events.summary
         ∧ (advance i n s).tx = s.tx)
     ∧ (65535 < s.events.counters[i].toNat + n → s.setup.masks.getLsbD 6 = false →
       (advance i n s).events.flags = s.events.flags ||| BitVec.twoPow 123 (55 + i.val)
         ∧ (advance i n s).events.summary = s.events.summary ||| 64#8)
     ∧ (65535 < s.events.counters[i].toNat + n → s.setup.masks.getLsbD 6 = true →
       (advance i n s).events.flags = s.events.flags ∧ (advance i n s).tx = s.tx))
  ∧ (∀ (e : Event) (s : State), e.flag < 123 ∧ e.category < 8
       ∧ (s.setup.masks.getLsbD e.category = true → raise e s = s)
       ∧ (s.setup.masks.getLsbD e.category = false →
         (∀ f, f < 123 → ((raise e s).events.flags.getLsbD f = true ↔ f = e.flag ∨ s.events.flags.getLsbD f = true))
         ∧ (∀ c, c < 8 → ((raise e s).events.summary.getLsbD c = true ↔ c = e.category ∨ s.events.summary.getLsbD c = true))
         ∧ ((raise e s).tx.report = true ↔ s.tx.report = true ∨ (s.events.summary = 0 ∧ s.setup.hold = false))
         ∧ raise e s
           = { s with events := { s.events with flags := (raise e s).events.flags, summary := (raise e s).events.summary },
                      tx := { s.tx with report := (raise e s).tx.report } }))

/-! ### Resets and the safe line (chapters 3 and 10) -/

/-- RESET DEVICE: what each unit starts again with, and what it keeps; the reply follows the effects, and under SAFE_N the one event
SAFE_ON is raised.
That waiting fires, open slot counts and a flow change due are dropped is the model's choice (log 16, unsafe). -/
def Obligations.ResetDeviceStartsAgain : Prop :=
  ∀ (s : State) (r : Request), s.serves r → r.code = 27 →
    ∃ t : State, exec .resetDevice s = .next (t.answered r .ok [])
      ∧ t.rx = { framing := .hunt, buffer := [], expected := none }
      ∧ t.tx.replies = s.tx.replies ∧ t.tx.drain = [] ∧ t.tx.line = s.tx.line ∧ t.tx.lineCounts = false
      ∧ t.ingress = { s.ingress with held := Vector.replicate 32 0, flow := .waiting, staleRun := 0, freshRun := 0,
                                     fresh := false, flowDue := none }
      ∧ t.timer = { interval := some s.setup.period, heldTick := false, starve := none, ticks := 0 }
      ∧ t.channels = { s.channels with last := Vector.replicate 32 0 }
      ∧ (∀ c : Chan, t.own[c].active = none ∧ t.own[c].stack = [] ∧ t.own[c].waiting = []
          ∧ t.own[c].base = { fields := OverlayRecord.initial, owner := none, priority := -1, drift := 0, gapPhase := 0,
                              gapHeld := some 0, patternIndex := 0, freeze := some 0 })
      ∧ (∀ n : SlotNo, t.slot n = Slot.idle)
      ∧ t.scenario.blocks = s.scenario.blocks ∧ t.scenario.entries = s.scenario.entries
      ∧ t.bank = s.bank ∧ t.setup = s.setup ∧ t.port = s.port ∧ t.safe = s.safe ∧ t.replay.mem = s.replay.mem
      ∧ (∀ w : WatchNo, t.watchOf w = Watch.cleared (s.watchOf w).record) ∧ t.watch.hits = 0
      ∧ (∀ u : TrackNo, t.track u
          = { desc := (s.track u).desc, state := .stopped, playhead := 0, phase := 0, readPoint := (s.track u).desc.base,
              writePoint := (s.track u).desc.base, fill := 0, presented := 0 })
      ∧ (∀ k : SetNo, t.capture[k].record = s.capture[k].record ∧ t.capture[k].state = .idle
          ∧ (∀ h : HalfName, (t.capture[k].half h).state = .vacant ∧ (t.capture[k].half h).records = [])
          ∧ t.capture[k].nextSeq = 0 ∧ t.capture[k].recordsDue = 0 ∧ t.capture[k].ticksToNext = 0)
      ∧ t.events.counters = Vector.replicate 66 0
      ∧ (s.safe.asserted = false → t.events.flags = 0 ∧ t.events.summary = 0 ∧ t.tx.report = false)
      ∧ (s.safe.asserted = true → s.setup.masks.getLsbD 7 = false →
          t.events.flags = BitVec.twoPow 123 121 ∧ t.events.summary = 128#8 ∧ t.tx.report = !s.setup.hold)
      ∧ (s.safe.asserted = true → s.setup.masks.getLsbD 7 = true →
          t.events.flags = 0 ∧ t.events.summary = 0 ∧ t.tx.report = false)

/-- RESET_N, INIT and its end, from any state: the line goes quiet and the queues empty, IDLE frames and the default
records come with INIT, the link delimits no frame, and the end of INIT leaves the state after reset, with SAFE_ON beside
READY where the safe line stands low. The queue of commands and the number of free values read stay.
That RESET_N drops a delivery in progress and keeps the set of before it is the model's choice (log 31).
What stands at the end of INIT is the state after reset by the model's choice (log 9, log 10). -/
def Obligations.PowerOnGivesTheResetState : Prop :=
  ∀ s : State, ∃ t u v : State,
    exec .resetNAssert s = .next t ∧ exec .initStart t = .next u ∧ exec .initEnd u = .next v
    ∧ t.phase = .held ∧ t.tx.line = none ∧ t.tx.replies = [] ∧ t.port.sending = none ∧ t.timer.interval = none
    ∧ t.port.set = s.port.set ∧ t.port.latched = s.port.latched
    ∧ u.phase = .init ∧ u.tx.line = some .idle ∧ u.timer.interval = none
    ∧ (∀ c : Chan, u.channels.records[c] = ChannelRecord.initial ∧ u.port.latched[c] = { value := 0, cond := .opened })
    ∧ (∀ w : Word, exec (.wordReceived w) u = .next u ∧ exec .startMark u = .next u)
    ∧ (s.safe.low = false → v = { State.reset with freeIx := s.freeIx, pending := s.pending })
    ∧ (s.safe.low = true → v.safe.asserted = true ∧ v.events.flags.getLsbD 0 = true ∧ v.events.flags.getLsbD 121 = true
        ∧ v.tx.report = true ∧ v.own = State.reset.own ∧ v.scenario = State.reset.scenario)

/-- The assertion of SAFE_N ends every slot's activity, makes every context PASS, stops the tracks, delivers the safe set and raises
SAFE_ON; its release takes the fires not yet taken, so that they start no slot armed after it, raises SAFE_OFF and does nothing
else.
The model's choices: the safe set waits behind a safe delivery too, in the place of one that waits already (log 17, unsafe), a fire can wait to be taken (log 6), and
outside its phase each line event only notes the level (log 18). -/
def Obligations.SafeLineEdges : Prop :=
  (∀ s : State, s.phase = .running → s.safe.asserted = false →
     ∃ t, exec .safeNAssert s = .next t
       ∧ t.safe = { asserted := true, low := true }
       ∧ (∀ n : SlotNo, (s.slot n).state.busy = true →
           t.slot n = Slot.idle ∧ (s.setup.masks.getLsbD 2 = false → t.events.flags.getLsbD (19 + n.val) = true))
       ∧ (∀ n : SlotNo, (s.slot n).state.busy = false → t.slot n = s.slot n)
       ∧ (∀ c : Chan, t.own[c].active = none ∧ t.own[c].stack = [] ∧ t.own[c].waiting = []
           ∧ t.own[c].base = { fields := OverlayRecord.initial, owner := none, priority := -1, drift := 0, gapPhase := 0,
                               gapHeld := some s.channels.last[c], patternIndex := 0, freeze := some s.channels.last[c] })
       ∧ (∀ u : TrackNo, t.track u = { s.track u with state := .stopped })
       ∧ (∃ ws : Vector OutWord 32,
           (∀ c : Chan, ws[c] = { value := s.channels.records[c].safeValue, cond := if s.enabled c then .none else .opened })
           ∧ (s.port.sending = none → t.port.sending = some { safe := true, words := ws, designations := [], sent := 0 })
           ∧ (∀ d, s.port.sending = some d → t.port = { s.port with safeNext := some ws }))
       ∧ (s.setup.masks.getLsbD 7 = false → t.events.flags.getLsbD 121 = true)
       ∧ t.rx = s.rx ∧ t.ingress = s.ingress ∧ t.timer = s.timer ∧ t.watch = s.watch ∧ t.capture = s.capture
       ∧ t.channels = s.channels ∧ t.bank = s.bank ∧ t.setup = s.setup ∧ t.events.counters = s.events.counters)
  ∧ (∀ s : State,
       (s.phase = .running → s.safe.asserted = true →
         exec .safeNRelease s = .next (raise .safeOff { takeFires s with safe := { asserted := false, low := false } })
         ∧ ((∀ w : WatchNo, (s.watchOf w).fire = none) →
           exec .safeNRelease s = .next (raise .safeOff { s with safe := { asserted := false, low := false } })))
       ∧ ((s.phase ≠ .running ∨ s.safe.asserted = false) →
         exec .safeNRelease s = .next { s with safe := { s.safe with low := false } })
       ∧ ((s.phase ≠ .running ∨ s.safe.asserted = true) →
         exec .safeNAssert s = .next { s with safe := { s.safe with low := true } }))

/-! ### Laws that every step keeps -/

/-- A category is pending exactly when one of its flags is set, and a report or its request has a summary to show. -/
def Obligations.StepKeepsEventsConsistent : Prop :=
  ∀ s t : State, s.EventsConsistent → step s = .next t → t.EventsConsistent

/-- The tables, the Setup record and the views stay as the checks of their writes keep them, and the reply queue and the frame buffer
within their bounds; the addressed stores keep their canonical form, which is the model's choice (log 23). -/
def Obligations.StepKeepsTablesLegal : Prop :=
  ∀ s t : State, s.TablesLegal → step s = .next t → t.TablesLegal

/-- Playheads, phases, fills and ring points stay within their regions, and no two FED regions overlap. -/
def Obligations.StepKeepsTracksLegal : Prop :=
  ∀ s t : State, s.TracksLegal → step s = .next t → t.TracksLegal

/-- Drifts, gap phases, pattern indices and kept values of every context stay within their bounds, and L within its range. -/
def Obligations.StepKeepsContextsLegal : Prop :=
  ∀ s t : State, s.ContextsLegal → step s = .next t → t.ContextsLegal

/-- While SAFE_N is asserted every slot is IDLE or FAULTED, whatever commands come. -/
def Obligations.StepKeepsSlotsQuietUnderSafe : Prop :=
  ∀ s t : State, s.OwnershipLawful → s.SafeLineHolds → step s = .next t → t.SafeLineHolds

/-- The halves of each capture set agree with its state, and the drain queue holds the FULL halves, each once. -/
def Obligations.StepKeepsCapturesLegal : Prop :=
  ∀ s t : State, s.TablesLegal → s.CapturesLegal → step s = .next t → t.CapturesLegal

/-- Stack priorities fall strictly from the active context down, waiting slots rank no higher than the active context or wait for room,
and each slot holds exactly the place its state names. -/
def Obligations.StepKeepsOwnershipLawful : Prop :=
  ∀ s t : State, s.OwnershipLawful → step s = .next t → t.OwnershipLawful

/-- The state after reset meets every law that the steps keep. -/
def Obligations.ResetMeetsEveryLaw : Prop :=
  State.reset.EventsConsistent ∧ State.reset.TablesLegal ∧ State.reset.TracksLegal ∧ State.reset.ContextsLegal
    ∧ State.reset.SafeLineHolds ∧ State.reset.CapturesLegal ∧ State.reset.OwnershipLawful

/-! ### The slots' count of a tick (chapter 6) -/

/-- A tick taken with its count first: every slot counts before any acts. A RUNNING slot's ticks left and an ARMED slot's delay left go
down by 1, and WAITING, SUSPENDED, awaiting, FAULTED and IDLE slots stand; then the entries at 0 end and the slots with a delay
at 0 claim, and where there are none the slots stand as counted. With its events first the count stands open.
The order of the actions, and that a slot pushed before its turn ends its entry on the stack, are the model's choices (log 5). -/
def Obligations.TickCountsEverySlot : Prop :=
  (∀ (s s0 : State) (c : Instr), s.TickStarts c .countFirst s0 → s0.Settled →
     ∃ t u ends claims, exec c s = .next t ∧ t = actSlots ends claims u
       ∧ (∀ n : SlotNo, n ∈ ends ↔ s0.endsAtTick n) ∧ (∀ n : SlotNo, n ∈ claims ↔ s0.claimsAtTick n)
       ∧ (ends = [] → claims = [] → t = u)
       ∧ ∀ n : SlotNo,
         let x := s0.slot n
         (x.state = .running → u.slot n = { x with ticksLeft := x.ticksLeft - 1 })
         ∧ (x.state = .armed → x.awaiting = false → 0 < x.delayLeft → u.slot n = { x with delayLeft := x.delayLeft - 1 })
         ∧ ((x.state = .idle ∨ x.state = .waiting ∨ x.state = .suspended ∨ x.state = .faulted
               ∨ (x.state = .armed ∧ x.awaiting = true)) → u.slot n = x))
  ∧ (∀ (s s0 : State) (c : Instr), s.TickStarts c .eventsFirst s0 → s0.Settled →
     ∃ t, exec c s = .next t
       ∧ ∀ n : SlotNo,
         let x := s0.slot n
         ((x.state = .running ∨ (x.state = .armed ∧ x.awaiting = false ∧ 0 < x.delayLeft)) →
           t.slot n = { x with counts := true })
         ∧ (¬ (x.state = .running ∨ (x.state = .armed ∧ x.awaiting = false ∧ 0 < x.delayLeft)) → t.slot n = x))
  ∧ (∀ (s : State) (n : SlotNo) (ends claims : List SlotNo),
     let x := s.slot n
     let c := x.latch.target
     actSlots (n :: ends) claims s = actSlots ends claims (entryRunsOut n s)
     ∧ actSlots [] (n :: claims) s = actSlots [] claims (claim n s)
     ∧ (x.state = .running → entryRunsOut n s = endEntry n s)
     ∧ (x.state = .suspended → 1 < x.entriesLeft →
       let e := s.entry (x.entryIndex + 1)
       let r := s.bank[e.overlay]
       e.duration ≠ 0 → ¬ (r.pin = .toPartner ∧ r.partner = c) →
       (entryRunsOut n s).own[c].active = s.own[c].active
       ∧ (entryRunsOut n s).own[c].stack
         = s.own[c].stack.map (fun y =>
             if y.owner = some n then
               { fields := r, owner := some n, priority := x.latch.priority, drift := 0, gapPhase := 0,
                 gapHeld := some s.channels.last[c], patternIndex := 0, freeze := some s.channels.last[c] }
             else y)
       ∧ (entryRunsOut n s).slot n
         = { x with entryIndex := x.entryIndex + 1, entriesLeft := x.entriesLeft - 1, ticksLeft := e.duration,
                    endWatch := e.endWatch, counts := false })
     ∧ (x.state = .suspended → x.entriesLeft ≤ 1 → x.latch.passes ≠ 0 → x.passesLeft ≤ 1 → x.latch.endAction = .restore →
       x.latch.next = none → entryRunsOut n s = raise (.slotDone n) ((withdraw n c s).setSlot n Slot.idle)))
end

