-- ==== Sys2Proof/Laws/State.lean ====
section
/-! SUPPORT. One lemma per field per named update of State: what each update leaves, and what it sets. -/

namespace Sys2Proof.Machine

variable (s : State)

/-! ### setSlot -/

@[simp] theorem State.setSlot_phase (n : SlotNo) (x : Slot) : (s.setSlot n x).phase = s.phase := rfl
@[simp] theorem State.setSlot_rx (n : SlotNo) (x : Slot) : (s.setSlot n x).rx = s.rx := rfl
@[simp] theorem State.setSlot_tx (n : SlotNo) (x : Slot) : (s.setSlot n x).tx = s.tx := rfl
@[simp] theorem State.setSlot_ingress (n : SlotNo) (x : Slot) : (s.setSlot n x).ingress = s.ingress := rfl
@[simp] theorem State.setSlot_timer (n : SlotNo) (x : Slot) : (s.setSlot n x).timer = s.timer := rfl
@[simp] theorem State.setSlot_channels (n : SlotNo) (x : Slot) : (s.setSlot n x).channels = s.channels := rfl
@[simp] theorem State.setSlot_bank (n : SlotNo) (x : Slot) : (s.setSlot n x).bank = s.bank := rfl
@[simp] theorem State.setSlot_own (n : SlotNo) (x : Slot) : (s.setSlot n x).own = s.own := rfl
@[simp] theorem State.setSlot_watch (n : SlotNo) (x : Slot) : (s.setSlot n x).watch = s.watch := rfl
@[simp] theorem State.setSlot_replay (n : SlotNo) (x : Slot) : (s.setSlot n x).replay = s.replay := rfl
@[simp] theorem State.setSlot_capture (n : SlotNo) (x : Slot) : (s.setSlot n x).capture = s.capture := rfl
@[simp] theorem State.setSlot_setup (n : SlotNo) (x : Slot) : (s.setSlot n x).setup = s.setup := rfl
@[simp] theorem State.setSlot_events (n : SlotNo) (x : Slot) : (s.setSlot n x).events = s.events := rfl
@[simp] theorem State.setSlot_port (n : SlotNo) (x : Slot) : (s.setSlot n x).port = s.port := rfl
@[simp] theorem State.setSlot_safe (n : SlotNo) (x : Slot) : (s.setSlot n x).safe = s.safe := rfl
@[simp] theorem State.setSlot_freeIx (n : SlotNo) (x : Slot) : (s.setSlot n x).freeIx = s.freeIx := rfl
@[simp] theorem State.setSlot_pending (n : SlotNo) (x : Slot) : (s.setSlot n x).pending = s.pending := rfl

/-! ### setOwn -/

@[simp] theorem State.setOwn_phase (c : Chan) (x : Ownership) : (s.setOwn c x).phase = s.phase := rfl
@[simp] theorem State.setOwn_rx (c : Chan) (x : Ownership) : (s.setOwn c x).rx = s.rx := rfl
@[simp] theorem State.setOwn_tx (c : Chan) (x : Ownership) : (s.setOwn c x).tx = s.tx := rfl
@[simp] theorem State.setOwn_ingress (c : Chan) (x : Ownership) : (s.setOwn c x).ingress = s.ingress := rfl
@[simp] theorem State.setOwn_timer (c : Chan) (x : Ownership) : (s.setOwn c x).timer = s.timer := rfl
@[simp] theorem State.setOwn_channels (c : Chan) (x : Ownership) : (s.setOwn c x).channels = s.channels := rfl
@[simp] theorem State.setOwn_bank (c : Chan) (x : Ownership) : (s.setOwn c x).bank = s.bank := rfl
@[simp] theorem State.setOwn_scenario (c : Chan) (x : Ownership) : (s.setOwn c x).scenario = s.scenario := rfl
@[simp] theorem State.setOwn_watch (c : Chan) (x : Ownership) : (s.setOwn c x).watch = s.watch := rfl
@[simp] theorem State.setOwn_replay (c : Chan) (x : Ownership) : (s.setOwn c x).replay = s.replay := rfl
@[simp] theorem State.setOwn_capture (c : Chan) (x : Ownership) : (s.setOwn c x).capture = s.capture := rfl
@[simp] theorem State.setOwn_setup (c : Chan) (x : Ownership) : (s.setOwn c x).setup = s.setup := rfl
@[simp] theorem State.setOwn_events (c : Chan) (x : Ownership) : (s.setOwn c x).events = s.events := rfl
@[simp] theorem State.setOwn_port (c : Chan) (x : Ownership) : (s.setOwn c x).port = s.port := rfl
@[simp] theorem State.setOwn_safe (c : Chan) (x : Ownership) : (s.setOwn c x).safe = s.safe := rfl
@[simp] theorem State.setOwn_freeIx (c : Chan) (x : Ownership) : (s.setOwn c x).freeIx = s.freeIx := rfl
@[simp] theorem State.setOwn_pending (c : Chan) (x : Ownership) : (s.setOwn c x).pending = s.pending := rfl

/-! ### setTrack -/

@[simp] theorem State.setTrack_phase (t : TrackNo) (x : Track) : (s.setTrack t x).phase = s.phase := rfl
@[simp] theorem State.setTrack_rx (t : TrackNo) (x : Track) : (s.setTrack t x).rx = s.rx := rfl
@[simp] theorem State.setTrack_tx (t : TrackNo) (x : Track) : (s.setTrack t x).tx = s.tx := rfl
@[simp] theorem State.setTrack_ingress (t : TrackNo) (x : Track) : (s.setTrack t x).ingress = s.ingress := rfl
@[simp] theorem State.setTrack_timer (t : TrackNo) (x : Track) : (s.setTrack t x).timer = s.timer := rfl
@[simp] theorem State.setTrack_channels (t : TrackNo) (x : Track) : (s.setTrack t x).channels = s.channels := rfl
@[simp] theorem State.setTrack_bank (t : TrackNo) (x : Track) : (s.setTrack t x).bank = s.bank := rfl
@[simp] theorem State.setTrack_own (t : TrackNo) (x : Track) : (s.setTrack t x).own = s.own := rfl
@[simp] theorem State.setTrack_scenario (t : TrackNo) (x : Track) : (s.setTrack t x).scenario = s.scenario := rfl
@[simp] theorem State.setTrack_watch (t : TrackNo) (x : Track) : (s.setTrack t x).watch = s.watch := rfl
@[simp] theorem State.setTrack_capture (t : TrackNo) (x : Track) : (s.setTrack t x).capture = s.capture := rfl
@[simp] theorem State.setTrack_setup (t : TrackNo) (x : Track) : (s.setTrack t x).setup = s.setup := rfl
@[simp] theorem State.setTrack_events (t : TrackNo) (x : Track) : (s.setTrack t x).events = s.events := rfl
@[simp] theorem State.setTrack_port (t : TrackNo) (x : Track) : (s.setTrack t x).port = s.port := rfl
@[simp] theorem State.setTrack_safe (t : TrackNo) (x : Track) : (s.setTrack t x).safe = s.safe := rfl
@[simp] theorem State.setTrack_freeIx (t : TrackNo) (x : Track) : (s.setTrack t x).freeIx = s.freeIx := rfl
@[simp] theorem State.setTrack_pending (t : TrackNo) (x : Track) : (s.setTrack t x).pending = s.pending := rfl

/-! ### setWatch -/

@[simp] theorem State.setWatch_phase (w : WatchNo) (x : Watch) : (s.setWatch w x).phase = s.phase := rfl
@[simp] theorem State.setWatch_rx (w : WatchNo) (x : Watch) : (s.setWatch w x).rx = s.rx := rfl
@[simp] theorem State.setWatch_tx (w : WatchNo) (x : Watch) : (s.setWatch w x).tx = s.tx := rfl
@[simp] theorem State.setWatch_ingress (w : WatchNo) (x : Watch) : (s.setWatch w x).ingress = s.ingress := rfl
@[simp] theorem State.setWatch_timer (w : WatchNo) (x : Watch) : (s.setWatch w x).timer = s.timer := rfl
@[simp] theorem State.setWatch_channels (w : WatchNo) (x : Watch) : (s.setWatch w x).channels = s.channels := rfl
@[simp] theorem State.setWatch_bank (w : WatchNo) (x : Watch) : (s.setWatch w x).bank = s.bank := rfl
@[simp] theorem State.setWatch_own (w : WatchNo) (x : Watch) : (s.setWatch w x).own = s.own := rfl
@[simp] theorem State.setWatch_scenario (w : WatchNo) (x : Watch) : (s.setWatch w x).scenario = s.scenario := rfl
@[simp] theorem State.setWatch_replay (w : WatchNo) (x : Watch) : (s.setWatch w x).replay = s.replay := rfl
@[simp] theorem State.setWatch_capture (w : WatchNo) (x : Watch) : (s.setWatch w x).capture = s.capture := rfl
@[simp] theorem State.setWatch_setup (w : WatchNo) (x : Watch) : (s.setWatch w x).setup = s.setup := rfl
@[simp] theorem State.setWatch_events (w : WatchNo) (x : Watch) : (s.setWatch w x).events = s.events := rfl
@[simp] theorem State.setWatch_port (w : WatchNo) (x : Watch) : (s.setWatch w x).port = s.port := rfl
@[simp] theorem State.setWatch_safe (w : WatchNo) (x : Watch) : (s.setWatch w x).safe = s.safe := rfl
@[simp] theorem State.setWatch_freeIx (w : WatchNo) (x : Watch) : (s.setWatch w x).freeIx = s.freeIx := rfl
@[simp] theorem State.setWatch_pending (w : WatchNo) (x : Watch) : (s.setWatch w x).pending = s.pending := rfl

/-! ### setCapture -/

@[simp] theorem State.setCapture_phase (k : SetNo) (x : CaptureSet) : (s.setCapture k x).phase = s.phase := rfl
@[simp] theorem State.setCapture_rx (k : SetNo) (x : CaptureSet) : (s.setCapture k x).rx = s.rx := rfl
@[simp] theorem State.setCapture_tx (k : SetNo) (x : CaptureSet) : (s.setCapture k x).tx = s.tx := rfl
@[simp] theorem State.setCapture_ingress (k : SetNo) (x : CaptureSet) : (s.setCapture k x).ingress = s.ingress := rfl
@[simp] theorem State.setCapture_timer (k : SetNo) (x : CaptureSet) : (s.setCapture k x).timer = s.timer := rfl
@[simp] theorem State.setCapture_channels (k : SetNo) (x : CaptureSet) : (s.setCapture k x).channels = s.channels := rfl
@[simp] theorem State.setCapture_bank (k : SetNo) (x : CaptureSet) : (s.setCapture k x).bank = s.bank := rfl
@[simp] theorem State.setCapture_own (k : SetNo) (x : CaptureSet) : (s.setCapture k x).own = s.own := rfl
@[simp] theorem State.setCapture_scenario (k : SetNo) (x : CaptureSet) : (s.setCapture k x).scenario = s.scenario := rfl
@[simp] theorem State.setCapture_watch (k : SetNo) (x : CaptureSet) : (s.setCapture k x).watch = s.watch := rfl
@[simp] theorem State.setCapture_replay (k : SetNo) (x : CaptureSet) : (s.setCapture k x).replay = s.replay := rfl
@[simp] theorem State.setCapture_setup (k : SetNo) (x : CaptureSet) : (s.setCapture k x).setup = s.setup := rfl
@[simp] theorem State.setCapture_events (k : SetNo) (x : CaptureSet) : (s.setCapture k x).events = s.events := rfl
@[simp] theorem State.setCapture_port (k : SetNo) (x : CaptureSet) : (s.setCapture k x).port = s.port := rfl
@[simp] theorem State.setCapture_safe (k : SetNo) (x : CaptureSet) : (s.setCapture k x).safe = s.safe := rfl
@[simp] theorem State.setCapture_freeIx (k : SetNo) (x : CaptureSet) : (s.setCapture k x).freeIx = s.freeIx := rfl
@[simp] theorem State.setCapture_pending (k : SetNo) (x : CaptureSet) : (s.setCapture k x).pending = s.pending := rfl

/-! ### mapSlots -/

@[simp] theorem State.mapSlots_phase (f : Slot → Slot) : (s.mapSlots f).phase = s.phase := rfl
@[simp] theorem State.mapSlots_rx (f : Slot → Slot) : (s.mapSlots f).rx = s.rx := rfl
@[simp] theorem State.mapSlots_tx (f : Slot → Slot) : (s.mapSlots f).tx = s.tx := rfl
@[simp] theorem State.mapSlots_ingress (f : Slot → Slot) : (s.mapSlots f).ingress = s.ingress := rfl
@[simp] theorem State.mapSlots_timer (f : Slot → Slot) : (s.mapSlots f).timer = s.timer := rfl
@[simp] theorem State.mapSlots_channels (f : Slot → Slot) : (s.mapSlots f).channels = s.channels := rfl
@[simp] theorem State.mapSlots_bank (f : Slot → Slot) : (s.mapSlots f).bank = s.bank := rfl
@[simp] theorem State.mapSlots_own (f : Slot → Slot) : (s.mapSlots f).own = s.own := rfl
@[simp] theorem State.mapSlots_watch (f : Slot → Slot) : (s.mapSlots f).watch = s.watch := rfl
@[simp] theorem State.mapSlots_replay (f : Slot → Slot) : (s.mapSlots f).replay = s.replay := rfl
@[simp] theorem State.mapSlots_capture (f : Slot → Slot) : (s.mapSlots f).capture = s.capture := rfl
@[simp] theorem State.mapSlots_setup (f : Slot → Slot) : (s.mapSlots f).setup = s.setup := rfl
@[simp] theorem State.mapSlots_events (f : Slot → Slot) : (s.mapSlots f).events = s.events := rfl
@[simp] theorem State.mapSlots_port (f : Slot → Slot) : (s.mapSlots f).port = s.port := rfl
@[simp] theorem State.mapSlots_safe (f : Slot → Slot) : (s.mapSlots f).safe = s.safe := rfl
@[simp] theorem State.mapSlots_freeIx (f : Slot → Slot) : (s.mapSlots f).freeIx = s.freeIx := rfl
@[simp] theorem State.mapSlots_pending (f : Slot → Slot) : (s.mapSlots f).pending = s.pending := rfl

/-! ### toHunt -/

@[simp] theorem State.toHunt_phase : s.toHunt.phase = s.phase := rfl
@[simp] theorem State.toHunt_tx : s.toHunt.tx = s.tx := rfl
@[simp] theorem State.toHunt_ingress : s.toHunt.ingress = s.ingress := rfl
@[simp] theorem State.toHunt_timer : s.toHunt.timer = s.timer := rfl
@[simp] theorem State.toHunt_channels : s.toHunt.channels = s.channels := rfl
@[simp] theorem State.toHunt_bank : s.toHunt.bank = s.bank := rfl
@[simp] theorem State.toHunt_own : s.toHunt.own = s.own := rfl
@[simp] theorem State.toHunt_scenario : s.toHunt.scenario = s.scenario := rfl
@[simp] theorem State.toHunt_watch : s.toHunt.watch = s.watch := rfl
@[simp] theorem State.toHunt_replay : s.toHunt.replay = s.replay := rfl
@[simp] theorem State.toHunt_capture : s.toHunt.capture = s.capture := rfl
@[simp] theorem State.toHunt_setup : s.toHunt.setup = s.setup := rfl
@[simp] theorem State.toHunt_events : s.toHunt.events = s.events := rfl
@[simp] theorem State.toHunt_port : s.toHunt.port = s.port := rfl
@[simp] theorem State.toHunt_safe : s.toHunt.safe = s.safe := rfl
@[simp] theorem State.toHunt_freeIx : s.toHunt.freeIx = s.freeIx := rfl
@[simp] theorem State.toHunt_pending : s.toHunt.pending = s.pending := rfl

/-! ### setLow -/

@[simp] theorem State.setLow_phase (b : Bool) : (s.setLow b).phase = s.phase := rfl
@[simp] theorem State.setLow_rx (b : Bool) : (s.setLow b).rx = s.rx := rfl
@[simp] theorem State.setLow_tx (b : Bool) : (s.setLow b).tx = s.tx := rfl
@[simp] theorem State.setLow_ingress (b : Bool) : (s.setLow b).ingress = s.ingress := rfl
@[simp] theorem State.setLow_timer (b : Bool) : (s.setLow b).timer = s.timer := rfl
@[simp] theorem State.setLow_channels (b : Bool) : (s.setLow b).channels = s.channels := rfl
@[simp] theorem State.setLow_bank (b : Bool) : (s.setLow b).bank = s.bank := rfl
@[simp] theorem State.setLow_own (b : Bool) : (s.setLow b).own = s.own := rfl
@[simp] theorem State.setLow_scenario (b : Bool) : (s.setLow b).scenario = s.scenario := rfl
@[simp] theorem State.setLow_watch (b : Bool) : (s.setLow b).watch = s.watch := rfl
@[simp] theorem State.setLow_replay (b : Bool) : (s.setLow b).replay = s.replay := rfl
@[simp] theorem State.setLow_capture (b : Bool) : (s.setLow b).capture = s.capture := rfl
@[simp] theorem State.setLow_setup (b : Bool) : (s.setLow b).setup = s.setup := rfl
@[simp] theorem State.setLow_events (b : Bool) : (s.setLow b).events = s.events := rfl
@[simp] theorem State.setLow_port (b : Bool) : (s.setLow b).port = s.port := rfl
@[simp] theorem State.setLow_freeIx (b : Bool) : (s.setLow b).freeIx = s.freeIx := rfl
@[simp] theorem State.setLow_pending (b : Bool) : (s.setLow b).pending = s.pending := rfl

/-! ### withPending -/

@[simp] theorem State.withPending_phase (q : List Instr) : (s.withPending q).phase = s.phase := rfl
@[simp] theorem State.withPending_rx (q : List Instr) : (s.withPending q).rx = s.rx := rfl
@[simp] theorem State.withPending_tx (q : List Instr) : (s.withPending q).tx = s.tx := rfl
@[simp] theorem State.withPending_ingress (q : List Instr) : (s.withPending q).ingress = s.ingress := rfl
@[simp] theorem State.withPending_timer (q : List Instr) : (s.withPending q).timer = s.timer := rfl
@[simp] theorem State.withPending_channels (q : List Instr) : (s.withPending q).channels = s.channels := rfl
@[simp] theorem State.withPending_bank (q : List Instr) : (s.withPending q).bank = s.bank := rfl
@[simp] theorem State.withPending_own (q : List Instr) : (s.withPending q).own = s.own := rfl
@[simp] theorem State.withPending_scenario (q : List Instr) : (s.withPending q).scenario = s.scenario := rfl
@[simp] theorem State.withPending_watch (q : List Instr) : (s.withPending q).watch = s.watch := rfl
@[simp] theorem State.withPending_replay (q : List Instr) : (s.withPending q).replay = s.replay := rfl
@[simp] theorem State.withPending_capture (q : List Instr) : (s.withPending q).capture = s.capture := rfl
@[simp] theorem State.withPending_setup (q : List Instr) : (s.withPending q).setup = s.setup := rfl
@[simp] theorem State.withPending_events (q : List Instr) : (s.withPending q).events = s.events := rfl
@[simp] theorem State.withPending_port (q : List Instr) : (s.withPending q).port = s.port := rfl
@[simp] theorem State.withPending_safe (q : List Instr) : (s.withPending q).safe = s.safe := rfl
@[simp] theorem State.withPending_freeIx (q : List Instr) : (s.withPending q).freeIx = s.freeIx := rfl

/-! ### Reading back what was set -/

@[simp] theorem State.slot_setSlot_self (n : SlotNo) (x : Slot) : (s.setSlot n x).slot n = x := by
  simp [State.slot, State.setSlot]

theorem State.slot_setSlot_ne (n m : SlotNo) (x : Slot) (h : n ≠ m) : (s.setSlot n x).slot m = s.slot m := by
  simp [State.slot, State.setSlot, Fin.val_inj, h]

theorem State.slot_setSlot (n m : SlotNo) (x : Slot) :
    (s.setSlot n x).slot m = if n = m then x else s.slot m := by
  split
  · subst m; simp
  · rename_i h; exact s.slot_setSlot_ne n m x h

@[simp] theorem State.own_setOwn_self (c : Chan) (x : Ownership) : (s.setOwn c x).own[c.val] = x := by
  simp [State.setOwn]

theorem State.own_setOwn_ne (c d : Chan) (x : Ownership) (h : c ≠ d) : (s.setOwn c x).own[d.val] = s.own[d.val] := by
  simp [State.setOwn, Fin.val_inj, h]

theorem State.own_setOwn (c d : Chan) (x : Ownership) :
    (s.setOwn c x).own[d.val] = if c = d then x else s.own[d.val] := by
  split
  · subst d; simp
  · rename_i h; exact s.own_setOwn_ne c d x h

@[simp] theorem State.track_setTrack_self (t : TrackNo) (x : Track) : (s.setTrack t x).track t = x := by
  simp [State.track, State.setTrack]

theorem State.track_setTrack_ne (t u : TrackNo) (x : Track) (h : t ≠ u) : (s.setTrack t x).track u = s.track u := by
  simp [State.track, State.setTrack, Fin.val_inj, h]

@[simp] theorem State.watchOf_setWatch_self (w : WatchNo) (x : Watch) : (s.setWatch w x).watchOf w = x := by
  simp [State.watchOf, State.setWatch]

theorem State.watchOf_setWatch_ne (w v : WatchNo) (x : Watch) (h : w ≠ v) :
    (s.setWatch w x).watchOf v = s.watchOf v := by
  simp [State.watchOf, State.setWatch, Fin.val_inj, h]

@[simp] theorem State.capture_setCapture_self (k : SetNo) (x : CaptureSet) : (s.setCapture k x).capture[k.val] = x := by
  simp [State.setCapture]

theorem State.capture_setCapture_ne (k l : SetNo) (x : CaptureSet) (h : k ≠ l) :
    (s.setCapture k x).capture[l.val] = s.capture[l.val] := by
  simp [State.setCapture, Fin.val_inj, h]

@[simp] theorem State.slot_mapSlots (f : Slot → Slot) (n : SlotNo) : (s.mapSlots f).slot n = f (s.slot n) := by
  simp [State.slot, State.mapSlots]

/-! ### Slots, tracks and watches seen through updates of other units -/

@[simp] theorem State.slot_setOwn (c : Chan) (x : Ownership) (n : SlotNo) : (s.setOwn c x).slot n = s.slot n := rfl
@[simp] theorem State.slot_setTrack (t : TrackNo) (x : Track) (n : SlotNo) : (s.setTrack t x).slot n = s.slot n := rfl
@[simp] theorem State.slot_setWatch (w : WatchNo) (x : Watch) (n : SlotNo) : (s.setWatch w x).slot n = s.slot n := rfl
@[simp] theorem State.slot_setCapture (k : SetNo) (x : CaptureSet) (n : SlotNo) :
    (s.setCapture k x).slot n = s.slot n := rfl
@[simp] theorem State.slot_toHunt (n : SlotNo) : s.toHunt.slot n = s.slot n := rfl
@[simp] theorem State.track_setSlot (n : SlotNo) (x : Slot) (t : TrackNo) : (s.setSlot n x).track t = s.track t := rfl
@[simp] theorem State.track_setOwn (c : Chan) (x : Ownership) (t : TrackNo) : (s.setOwn c x).track t = s.track t := rfl
@[simp] theorem State.track_toHunt (t : TrackNo) : s.toHunt.track t = s.track t := rfl
@[simp] theorem State.watchOf_toHunt (w : WatchNo) : s.toHunt.watchOf w = s.watchOf w := rfl
@[simp] theorem State.enabled_setOwn (c d : Chan) (x : Ownership) : (s.setOwn c x).enabled d = s.enabled d := rfl
@[simp] theorem State.enabled_setSlot (n : SlotNo) (x : Slot) (d : Chan) :
    (s.setSlot n x).enabled d = s.enabled d := rfl
@[simp] theorem State.enabled_toHunt (d : Chan) : s.toHunt.enabled d = s.enabled d := rfl
@[simp] theorem State.toHunt_rx : s.toHunt.rx = { s.rx with framing := .hunt, buffer := [] } := rfl
@[simp] theorem State.withPending_pending (q : List Instr) : (s.withPending q).pending = q := rfl

end Sys2Proof.Machine
end

