-- ==== Sys2Proof/Laws/Events.lean ====
section
/-! SUPPORT. Detail flags and categories of events, and what raising an event and advancing a counter leave. -/

namespace Sys2Proof.Machine

/-! ### Categories -/

@[simp] theorem Event.category_ready : Event.ready.category = 0 := rfl
@[simp] theorem Event.category_linkLive : Event.linkLive.category = 1 := rfl
@[simp] theorem Event.category_linkStarved : Event.linkStarved.category = 1 := rfl
@[simp] theorem Event.category_slotDone (n : SlotNo) : (Event.slotDone n).category = 2 := by revert n; decide
@[simp] theorem Event.category_slotFault (n : SlotNo) : (Event.slotFault n).category = 2 := by revert n; decide
@[simp] theorem Event.category_slotAborted (n : SlotNo) : (Event.slotAborted n).category = 2 := by revert n; decide
@[simp] theorem Event.category_trackEnd (t : TrackNo) : (Event.trackEnd t).category = 3 := by revert t; decide
@[simp] theorem Event.category_trackUnderrun (t : TrackNo) : (Event.trackUnderrun t).category = 3 := by revert t; decide
@[simp] theorem Event.category_captureOverrun (k : SetNo) : (Event.captureOverrun k).category = 4 := by revert k; decide
@[simp] theorem Event.category_captureDone (k : SetNo) : (Event.captureDone k).category = 4 := by revert k; decide
@[simp] theorem Event.category_watchFire (w : WatchNo) : (Event.watchFire w).category = 5 := by revert w; decide
@[simp] theorem Event.category_counterWrap (i : CounterNo) : (Event.counterWrap i).category = 6 := by revert i; decide
@[simp] theorem Event.category_safeOn : Event.safeOn.category = 7 := rfl
@[simp] theorem Event.category_safeOff : Event.safeOff.category = 7 := rfl

theorem flagCategory_lt (f : Nat) : flagCategory f < 8 := by
  unfold flagCategory; repeat' split
  all_goals omega

theorem Event.category_lt (e : Event) : e.category < 8 := flagCategory_lt _

theorem Event.flag_lt (e : Event) : e.flag < 123 := by
  cases e <;> simp only [Event.flag] <;> omega

/-! ### Raising an event and advancing a counter -/

/-- A masked event is discarded whole. -/
theorem raise_masked {e : Event} {s : State} (h : masked e s = true) : raise e s = s := by
  simp [raise, h]

/-- An unmasked event sets its flag and its category, and requests a report if the summary was empty and hold is off. -/
theorem raise_unmasked {e : Event} {s : State} (h : masked e s = false) :
    raise e s
      = { s with
          events := { s.events with
            flags := s.events.flags ||| BitVec.twoPow 123 e.flag
            summary := s.events.summary ||| BitVec.twoPow 8 e.category }
          tx := { s.tx with report := s.tx.report || (s.events.summary == 0 && !s.setup.hold) } } := by
  simp [raise, h]

@[simp] theorem raise_counters (e : Event) (s : State) : (raise e s).events.counters = s.events.counters := rfl

/-- Raising an event never clears a flag. -/
theorem raise_flag_of_flag (e : Event) (s : State) {f : Nat} (h : s.events.flags.getLsbD f = true) :
    (raise e s).events.flags.getLsbD f = true := by
  unfold raise; simp only; split
  · exact h
  · simp [h]

/-- An unmasked event has its flag set once raised. -/
theorem raise_flag_self {e : Event} {s : State} (h : masked e s = false) :
    (raise e s).events.flags.getLsbD e.flag = true := by
  rw [raise_unmasked h]; simp [e.flag_lt]

/-- An advance adds modulo 65536 to its own counter and leaves the others. -/
theorem advance_counter (i j : CounterNo) (n : Nat) (s : State) :
    (advance i n s).events.counters[j.val]
      = if i = j then word (s.events.counters[i].toNat + n) else s.events.counters[j.val] := by
  have h : (advance i n s).events.counters = (bumpCounter i n s).events.counters := by
    unfold advance; split <;> rfl
  rw [h]; simp only [bumpCounter]
  by_cases hij : i = j
  · subst hij; simp
  · rw [if_neg hij, Vector.getElem_set_ne]; exact fun h => hij (Fin.ext h)

/-- `word` of a sum is the sum of words. -/
theorem word_add (v : Word) (n : Nat) : word (v.toNat + n) = v + word n := by
  apply BitVec.eq_of_toNat_eq; simp [word]

theorem advance_counter_self (i : CounterNo) (n : Nat) (s : State) :
    (advance i n s).events.counters[i.val] = s.events.counters[i.val] + word n := by
  rw [advance_counter, if_pos rfl, word_add]; rfl

theorem advance_counter_ne {i j : CounterNo} (h : i ≠ j) (n : Nat) (s : State) :
    (advance i n s).events.counters[j.val] = s.events.counters[j.val] := by
  rw [advance_counter, if_neg h]

theorem advance_flag_of_flag (i : CounterNo) (n : Nat) (s : State) {f : Nat} (h : s.events.flags.getLsbD f = true) :
    (advance i n s).events.flags.getLsbD f = true := by
  unfold advance; split
  · exact raise_flag_of_flag _ _ h
  · exact h

end Sys2Proof.Machine
end

