-- ==== Sys2Proof/Laws/Footprint.lean ====
section
/-! SUPPORT. What the shared operations can move: one relation per group of units, and one lemma per operation. -/

namespace Sys2Proof.Machine

/-! ### Events and counters -/

/-- Only counters, flags, summary and the report request have moved. -/
def EventsMoved (s t : State) : Prop := t = { s with events := t.events, tx := { s.tx with report := t.tx.report } }

theorem EventsMoved.refl (s : State) : EventsMoved s s := rfl

theorem EventsMoved.trans {s t u : State} (h : EventsMoved s t) (k : EventsMoved t u) : EventsMoved s u := by
  unfold EventsMoved at *; rw [k]; simp only; rw [h]

theorem raise_moves (e : Event) (s : State) : EventsMoved s (raise e s) := rfl

theorem bumpCounter_moves (i : CounterNo) (n : Nat) (s : State) : EventsMoved s (bumpCounter i n s) := rfl

theorem advance_moves (i : CounterNo) (n : Nat) (s : State) : EventsMoved s (advance i n s) := by
  unfold advance; split
  · exact (bumpCounter_moves i n s).trans (raise_moves _ _)
  · exact bumpCounter_moves i n s

/-! ### The scenario side: slots, channel ownership, track run states, events -/

/-- Only slots, ownership, tracks, counters, flags, summary and the report request have moved. -/
def ScenarioMoved (s t : State) : Prop :=
  t = { s with
    own := t.own
    scenario := { s.scenario with slots := t.scenario.slots }
    replay := { s.replay with tracks := t.replay.tracks }
    events := t.events
    tx := { s.tx with report := t.tx.report } }

theorem ScenarioMoved.refl (s : State) : ScenarioMoved s s := rfl

theorem ScenarioMoved.trans {s t u : State} (h : ScenarioMoved s t) (k : ScenarioMoved t u) : ScenarioMoved s u := by
  unfold ScenarioMoved at *; rw [k]; simp only; rw [h]

theorem EventsMoved.asScenario {s t : State} (h : EventsMoved s t) : ScenarioMoved s t := by
  unfold EventsMoved at h; unfold ScenarioMoved; rw [h]

theorem foldl_moves {α β : Type} (R : α → α → Prop) (hr : ∀ s, R s s) (ht : ∀ s t u, R s t → R t u → R s u)
    (f : α → β → α) (h : ∀ s a, R s (f s a)) (l : List β) (s : α) : R s (l.foldl f s) := by
  induction l generalizing s with
  | nil => exact hr s
  | cons a l ih => exact ht _ _ _ (h s a) (ih _)

theorem ScenarioMoved.foldl {β : Type} (f : State → β → State) (h : ∀ s a, ScenarioMoved s (f s a)) (l : List β)
    (s : State) : ScenarioMoved s (l.foldl f s) :=
  foldl_moves ScenarioMoved .refl (fun _ _ _ => .trans) f h l s

theorem raise_scenario (e : Event) (s : State) : ScenarioMoved s (raise e s) := (raise_moves e s).asScenario
theorem setOwn_scenario (c : Chan) (x : Ownership) (s : State) : ScenarioMoved s (s.setOwn c x) := rfl
theorem setSlot_scenario (n : SlotNo) (x : Slot) (s : State) : ScenarioMoved s (s.setSlot n x) := rfl
theorem setTrack_scenario (t : TrackNo) (x : Track) (s : State) : ScenarioMoved s (s.setTrack t x) := rfl
theorem mapSlots_scenario (f : Slot → Slot) (s : State) : ScenarioMoved s (s.mapSlots f) := rfl
theorem activateBase_scenario (c : Chan) (s : State) : ScenarioMoved s (activateBase c s) := rfl
theorem clearChannel_scenario (c : Chan) (s : State) : ScenarioMoved s (clearChannel c s) := rfl
theorem removeWaiter_scenario (n : SlotNo) (c : Chan) (s : State) : ScenarioMoved s (removeWaiter n c s) := rfl
theorem dropActive_scenario (c : Chan) (s : State) : ScenarioMoved s (dropActive c s) := rfl
theorem adopt_scenario (c : Chan) (s : State) : ScenarioMoved s (adopt c s) := rfl

theorem installEntry_scenario (n : SlotNo) (e : Entry) (r : OverlayRecord) (s : State) :
    ScenarioMoved s (installEntry n e r s) := rfl

theorem cueOf_scenario (r : OverlayRecord) (s : State) : ScenarioMoved s (cueOf r s) := by
  unfold cueOf; split
  · exact setTrack_scenario _ _ _
  · rfl

theorem faultFetch_scenario (n : SlotNo) (f : FaultCode) (s : State) : ScenarioMoved s (faultFetch n f s) := by
  unfold faultFetch; exact (setSlot_scenario _ _ _).trans (raise_scenario _ _)

theorem fetch_scenario (n : SlotNo) (s : State) : ScenarioMoved s (fetch n s).1 := by
  unfold fetch; simp only; split
  · exact faultFetch_scenario _ _ _
  · exact (installEntry_scenario _ _ _ _).trans (cueOf_scenario _ _)

theorem setOwnerState_scenario (x : Context) (st : SlotState) (s : State) : ScenarioMoved s (setOwnerState x st s) := by
  unfold setOwnerState; split <;> rfl

theorem pushActive_scenario (c : Chan) (s : State) : ScenarioMoved s (pushActive c s) := by
  unfold pushActive; split
  · exact (setOwn_scenario _ _ _).trans (setOwnerState_scenario _ _ _)
  · rfl

theorem popOrBase_scenario (c : Chan) (s : State) : ScenarioMoved s (popOrBase c s) := by
  unfold popOrBase; split
  · exact (setOwn_scenario _ _ _).trans (setOwnerState_scenario _ _ _)
  · rfl

theorem resolve_scenario (k : Nat) (c : Chan) (s : State) : ScenarioMoved s (resolve k c s) := by
  induction k generalizing s with
  | zero => exact popOrBase_scenario _ _
  | succ k ih =>
    unfold resolve; split
    · rename_i w _
      split
      · have h := (removeWaiter_scenario w.slot c s).trans (fetch_scenario w.slot (removeWaiter w.slot c s))
        split
        · rename_i hf; rw [hf] at h; exact h
        · rename_i hf; rw [hf] at h; exact h.trans (ih _)
      · exact popOrBase_scenario _ _
    · exact popOrBase_scenario _ _

theorem resolveAll_scenario (c : Chan) (s : State) : ScenarioMoved s (resolveAll c s) := resolve_scenario _ _ _

theorem reexamine_scenario (k : Nat) (c : Chan) (s : State) : ScenarioMoved s (reexamine k c s) := by
  induction k generalizing s with
  | zero => rfl
  | succ k ih =>
    unfold reexamine; split
    · rename_i w _
      split
      · have h := ((pushActive_scenario c s).trans (removeWaiter_scenario w.slot c _)).trans
          (fetch_scenario w.slot (removeWaiter w.slot c (pushActive c s)))
        split
        · rename_i hf; rw [hf] at h; exact h.trans (ih _)
        · rename_i hf; rw [hf] at h; exact (h.trans (resolveAll_scenario _ _)).trans (ih _)
      · rfl
    · rfl

theorem reexamineAll_scenario (c : Chan) (s : State) : ScenarioMoved s (reexamineAll c s) := reexamine_scenario _ _ _

theorem vacate_scenario (c : Chan) (s : State) : ScenarioMoved s (vacate c s) :=
  (resolveAll_scenario c s).trans (reexamineAll_scenario c _)

theorem release_scenario (c : Chan) (s : State) : ScenarioMoved s (release c s) :=
  (dropActive_scenario c s).trans (vacate_scenario c _)

theorem takeOver_scenario (n : SlotNo) (s : State) : ScenarioMoved s (takeOver n s) := by
  have h := fetch_scenario n s
  unfold takeOver; split
  · rename_i hf; rw [hf] at h; exact h
  · rename_i hf; rw [hf] at h; exact h.trans (vacate_scenario _ _)

theorem waitFor_scenario (n : SlotNo) (s : State) : ScenarioMoved s (waitFor n s) := rfl

theorem claim_scenario (n : SlotNo) (s : State) : ScenarioMoved s (claim n s) := by
  unfold claim; simp only; split
  · exact takeOver_scenario _ _
  · split
    · exact (pushActive_scenario _ _).trans (takeOver_scenario _ _)
    · exact waitFor_scenario _ _

theorem withdraw_scenario (n : SlotNo) (c : Chan) (s : State) : ScenarioMoved s (withdraw n c s) :=
  (setOwn_scenario _ _ _).trans (reexamineAll_scenario _ _)

theorem startSlot_scenario (n : SlotNo) (s : State) : ScenarioMoved s (startSlot n s) := by
  unfold startSlot; simp only; split
  · exact claim_scenario _ _
  · split
    · exact claim_scenario _ _
    · rfl
  · rfl

theorem armSlot_scenario (n : SlotNo) (b : Nat) (x : Block) (s : State) : ScenarioMoved s (armSlot n b x s) :=
  (setSlot_scenario _ _ _).trans (startSlot_scenario _ _)

theorem followOn_scenario (n : SlotNo) (b : Nat) (s : State) : ScenarioMoved s (followOn n b s) := by
  unfold followOn; split
  · exact (setSlot_scenario _ _ _).trans (raise_scenario _ _)
  · exact armSlot_scenario _ _ _ _

theorem leaveBlock_scenario (n : SlotNo) (s : State) : ScenarioMoved s (leaveBlock n s) := by
  unfold leaveBlock; simp only; split
  · exact (adopt_scenario _ _).trans (release_scenario _ _)
  · exact release_scenario _ _

theorem finishBlock_scenario (n : SlotNo) (next : Option Nat) (s : State) : ScenarioMoved s (finishBlock n next s) := by
  unfold finishBlock; split
  · exact (setSlot_scenario _ _ _).trans (raise_scenario _ _)
  · exact followOn_scenario _ _ _

theorem blockEnd_scenario (n : SlotNo) (s : State) : ScenarioMoved s (blockEnd n s) :=
  (leaveBlock_scenario n s).trans (finishBlock_scenario _ _ _)

theorem fetchInPlace_scenario (n : SlotNo) (s : State) : ScenarioMoved s (fetchInPlace n s) := by
  have h := fetch_scenario n s
  unfold fetchInPlace; split
  · rename_i hf; rw [hf] at h; exact h
  · rename_i hf; rw [hf] at h; exact h.trans (release_scenario _ _)

theorem endEntry_scenario (n : SlotNo) (s : State) : ScenarioMoved s (endEntry n s) := by
  unfold endEntry; split
  · exact (setSlot_scenario _ _ _).trans (fetchInPlace_scenario _ _)
  · exact blockEnd_scenario _ _

theorem meetTick_scenario (s : State) : ScenarioMoved s (meetTick s) := rfl
theorem countSlots_scenario (s : State) : ScenarioMoved s (countSlots s) := rfl

theorem mapSaved_scenario (n : SlotNo) (c : Chan) (f : Context → Context) (s : State) :
    ScenarioMoved s (mapSaved n c f s) := rfl

theorem fetchSaved_scenario (n : SlotNo) (s : State) : ScenarioMoved s (fetchSaved n s) := by
  unfold fetchSaved; simp only; split
  · exact (faultFetch_scenario _ _ _).trans (withdraw_scenario _ _ _)
  · exact ((mapSaved_scenario _ _ _ _).trans (setSlot_scenario _ _ _)).trans (cueOf_scenario _ _)

theorem adoptSaved_scenario (n : SlotNo) (c : Chan) (s : State) : ScenarioMoved s (adoptSaved n c s) := by
  unfold adoptSaved; split <;> rfl

theorem leaveSaved_scenario (n : SlotNo) (s : State) : ScenarioMoved s (leaveSaved n s) := by
  unfold leaveSaved; simp only; split
  · exact (adoptSaved_scenario _ _ _).trans (withdraw_scenario _ _ _)
  · exact withdraw_scenario _ _ _

theorem endSaved_scenario (n : SlotNo) (s : State) : ScenarioMoved s (endSaved n s) := by
  unfold endSaved; split
  · exact (setSlot_scenario _ _ _).trans (fetchSaved_scenario _ _)
  · exact (leaveSaved_scenario _ _).trans (finishBlock_scenario _ _ _)

theorem entryRunsOut_scenario (n : SlotNo) (s : State) : ScenarioMoved s (entryRunsOut n s) := by
  unfold entryRunsOut; split
  · exact endEntry_scenario _ _
  · exact endSaved_scenario _ _
  all_goals rfl

theorem actSlots_scenario (ends claims : List SlotNo) (s : State) : ScenarioMoved s (actSlots ends claims s) :=
  (ScenarioMoved.foldl _ (fun s n => entryRunsOut_scenario n s) ends s).trans
    (ScenarioMoved.foldl _ (fun s n => claim_scenario n s) claims _)

theorem scenarioTick_scenario (s : State) : ScenarioMoved s (scenarioTick s) :=
  (countSlots_scenario s).trans (actSlots_scenario _ _ _)

theorem fireStart_scenario (n : SlotNo) (s : State) : ScenarioMoved s (fireStart n s) := by
  unfold fireStart; simp only; split
  · exact (setSlot_scenario _ _ _).trans (claim_scenario _ _)
  · rfl

theorem fireSlot_scenario (n : SlotNo) (s : State) : ScenarioMoved s (fireSlot n s) := by
  unfold fireSlot; split
  · exact fireStart_scenario _ _
  · exact endEntry_scenario _ _

theorem fireSlots_scenario (w : WatchNo) (s : State) : ScenarioMoved s (fireSlots w s) := by
  unfold fireSlots
  refine ScenarioMoved.foldl _ (fun t n => ?_) _ _
  split
  · exact fireSlot_scenario _ _
  · rfl

theorem leaveChannel_scenario (n : SlotNo) (s : State) : ScenarioMoved s (leaveChannel n s) := by
  unfold leaveChannel; simp only; split
  · exact removeWaiter_scenario _ _ _
  · exact release_scenario _ _
  · exact withdraw_scenario _ _ _
  all_goals rfl

theorem clearChannels_scenario (s : State) : ScenarioMoved s (clearChannels s) :=
  ScenarioMoved.foldl _ (fun s c => clearChannel_scenario c s) _ _

theorem faultOn_scenario (c : Chan) (n : SlotNo) (s : State) : ScenarioMoved s (faultOn c n s) := by
  unfold faultOn; split
  · exact (setSlot_scenario _ _ _).trans (raise_scenario _ _)
  · rfl

theorem disableChannel_scenario (c : Chan) (s : State) : ScenarioMoved s (disableChannel c s) :=
  (ScenarioMoved.foldl _ (fun s n => faultOn_scenario c n s) _ _).trans (clearChannel_scenario _ _)

theorem disableWritten_scenario (old : Vector ChannelRecord 32) (s : State) :
    ScenarioMoved s (disableWritten old s) := by
  unfold disableWritten
  refine ScenarioMoved.foldl _ (fun t c => ?_) _ _
  split
  · exact disableChannel_scenario _ _
  · rfl

theorem abortSafe_scenario (n : SlotNo) (s : State) : ScenarioMoved s (abortSafe n s) := by
  unfold abortSafe; split
  · exact (setSlot_scenario _ _ _).trans (raise_scenario _ _)
  · rfl

/-! ### The Capture Unit: sets, the drain queue, events -/

/-- Only capture sets, the drain queue, counters, flags, summary and the report request have moved. -/
def CaptureMoved (s t : State) : Prop :=
  t = { s with
    capture := t.capture
    events := t.events
    tx := { s.tx with report := t.tx.report, drain := t.tx.drain } }

theorem CaptureMoved.refl (s : State) : CaptureMoved s s := rfl

theorem CaptureMoved.trans {s t u : State} (h : CaptureMoved s t) (k : CaptureMoved t u) : CaptureMoved s u := by
  unfold CaptureMoved at *; rw [k]; simp only; rw [h]

theorem EventsMoved.asCapture {s t : State} (h : EventsMoved s t) : CaptureMoved s t := by
  unfold EventsMoved at h; unfold CaptureMoved; rw [h]

theorem setCapture_moves (k : SetNo) (x : CaptureSet) (s : State) : CaptureMoved s (s.setCapture k x) := rfl
theorem fillHalf_moves (k : SetNo) (h : HalfName) (s : State) : CaptureMoved s (fillHalf k h s) := rfl
theorem startCapture_moves (k : SetNo) (s : State) : CaptureMoved s (startCapture k s) := rfl

theorem settleDrain_moves (k : SetNo) (s : State) : CaptureMoved s (settleDrain k s) := by
  unfold settleDrain; split
  · exact (setCapture_moves _ _ _).trans (raise_moves _ _).asCapture
  · rfl

theorem closeFilling_moves (k : SetNo) (s : State) : CaptureMoved s (closeFilling k s) := by
  unfold closeFilling; simp only; split
  · split <;> rfl
  · rfl

theorem stopCapture_moves (k : SetNo) (s : State) : CaptureMoved s (stopCapture k s) := by
  unfold stopCapture; split
  · exact ((closeFilling_moves k s).trans (setCapture_moves _ _ _)).trans (settleDrain_moves _ _)
  · rfl

theorem turnHalf_moves (k : SetNo) (h : HalfName) (s : State) : CaptureMoved s (turnHalf k h s) := by
  unfold turnHalf; simp only; split
  · exact (fillHalf_moves k h s).trans (setCapture_moves _ _ _)
  · exact ((fillHalf_moves k h s).trans (setCapture_moves _ _ _)).trans (raise_moves _ _).asCapture

theorem takeRecord_moves (k : SetNo) (r : List Word) (s : State) : CaptureMoved s (takeRecord k r s) := by
  unfold takeRecord; simp only; split
  · rfl
  · split
    · exact (setCapture_moves _ _ _).trans (turnHalf_moves _ _ _)
    · rfl

theorem recordDue_moves (k : SetNo) (s : State) : CaptureMoved s (recordDue k s) := by
  unfold recordDue; simp only; split
  · rfl
  · split
    · exact takeRecord_moves _ _ _
    · split
      · exact (setCapture_moves _ _ _).trans (advance_moves _ _ _).asCapture
      · rfl

theorem lengthReached_moves (k : SetNo) (s : State) : CaptureMoved s (lengthReached k s) := by
  unfold lengthReached; split
  · exact stopCapture_moves _ _
  · rfl

theorem captureTick_moves (vs : TickValues) (k : SetNo) (s : State) : CaptureMoved s (captureTick vs k s) :=
  ((setCapture_moves _ _ _).trans (recordDue_moves _ _)).trans (lengthReached_moves _ _)

theorem capturesTick_moves (vs : TickValues) (s : State) : CaptureMoved s (capturesTick vs s) :=
  (captureTick_moves _ _ _).trans (captureTick_moves _ _ _)

theorem fireCapture_moves (w : WatchNo) (k : SetNo) (s : State) : CaptureMoved s (fireCapture w k s) := by
  unfold fireCapture; simp only; split
  · exact startCapture_moves _ _
  · split
    · exact stopCapture_moves _ _
    · rfl

theorem fireCaptures_moves (w : WatchNo) (s : State) : CaptureMoved s (fireCaptures w s) :=
  (fireCapture_moves _ _ _).trans (fireCapture_moves _ _ _)

theorem halfDrained_moves (k : SetNo) (h : HalfName) (s : State) : CaptureMoved s (halfDrained k h s) := by
  unfold halfDrained; simp only; split
  · rfl
  · exact (setCapture_moves _ _ _).trans (settleDrain_moves _ _)
  all_goals rfl

theorem armCapture_moves (k : SetNo) (s : State) : CaptureMoved s (armCapture k s) := by
  unfold armCapture; simp only; split <;> rfl

theorem stopRequested_moves (k : SetNo) (s : State) : CaptureMoved s (stopRequested k s) := by
  unfold stopRequested; split
  · exact (setCapture_moves _ _ _).trans (raise_moves _ _).asCapture
  · exact stopCapture_moves _ _

/-! ### Fires: what a fire reaches -/

/-- Only what the scenario side, the Capture Unit and the Watch Unit hold has moved. -/
def FireMoved (s t : State) : Prop :=
  t = { s with
    own := t.own
    scenario := { s.scenario with slots := t.scenario.slots }
    replay := { s.replay with tracks := t.replay.tracks }
    watch := t.watch
    capture := t.capture
    events := t.events
    tx := { s.tx with report := t.tx.report, drain := t.tx.drain } }

theorem FireMoved.refl (s : State) : FireMoved s s := rfl

theorem FireMoved.trans {s t u : State} (h : FireMoved s t) (k : FireMoved t u) : FireMoved s u := by
  unfold FireMoved at *; rw [k]; simp only; rw [h]

theorem ScenarioMoved.asFire {s t : State} (h : ScenarioMoved s t) : FireMoved s t := by
  unfold ScenarioMoved at h; unfold FireMoved; rw [h]

theorem CaptureMoved.asFire {s t : State} (h : CaptureMoved s t) : FireMoved s t := by
  unfold CaptureMoved at h; unfold FireMoved; rw [h]

theorem noteFire_fire (w : WatchNo) (v : Word) (s : State) : FireMoved s (noteFire w v s) := by
  have h : FireMoved s (advance (ctrFires w) 1
      (joinHits w (s.setWatch w ((s.watchOf w).stored v s.timer.ticks)))) :=
    FireMoved.trans (t := joinHits w (s.setWatch w ((s.watchOf w).stored v s.timer.ticks))) rfl
      (advance_moves _ _ _).asScenario.asFire
  unfold noteFire; simp only; split
  · exact h.trans (raise_scenario _ _).asFire
  · exact h

theorem takeFire_fire (w : WatchNo) (s : State) : FireMoved s (takeFire w s) := by
  unfold takeFire; split
  · exact ((noteFire_fire _ _ _).trans (fireSlots_scenario _ _).asFire).trans (fireCaptures_moves _ _).asFire
  · rfl

theorem takeFires_fire (s : State) : FireMoved s (takeFires s) :=
  foldl_moves FireMoved .refl (fun _ _ _ => .trans) _ (fun s w => takeFire_fire w s) _ _

theorem closeTick_fire (s : State) : FireMoved s (closeTick s) :=
  (scenarioTick_scenario s).asFire.trans (takeFires_fire _)

theorem takeFiresOf_fire (i n : Nat) (s : State) : FireMoved s (takeFiresOf i n s) := by
  unfold takeFiresOf
  refine foldl_moves FireMoved .refl (fun _ _ _ => .trans) _ (fun s w => ?_) _ _
  split
  · exact takeFire_fire _ _
  · rfl

/-! ### Tracks -/

/-- Only tracks, counters, flags, summary and the report request have moved. -/
theorem spanEnd_scenario (t : TrackNo) (s : State) : ScenarioMoved s (spanEnd t s) := by
  unfold spanEnd; simp only; split
  · unfold raise?; split
    · exact (setTrack_scenario _ _ _).trans (raise_scenario _ _)
    · exact setTrack_scenario _ _ _
  · rfl

theorem trackTick_scenario (t : TrackNo) (s : State) : ScenarioMoved s (trackTick t s) := by
  unfold trackTick; simp only; split
  · exact ((setTrack_scenario _ _ _).trans (advance_moves _ _ _).asScenario).trans (spanEnd_scenario _ _)
  · exact (setTrack_scenario _ _ _).trans (spanEnd_scenario _ _)

theorem tracksTick_scenario (s : State) : ScenarioMoved s (tracksTick s) :=
  ScenarioMoved.foldl _ (fun s t => trackTick_scenario t s) _ _

/-! ### What each relation leaves -/

theorem EventsMoved.phase {s t : State} (h : EventsMoved s t) : t.phase = s.phase := by unfold EventsMoved at h; rw [h]
theorem EventsMoved.rx {s t : State} (h : EventsMoved s t) : t.rx = s.rx := by unfold EventsMoved at h; rw [h]
theorem EventsMoved.tx_replies {s t : State} (h : EventsMoved s t) : t.tx.replies = s.tx.replies := by
  unfold EventsMoved at h; rw [h]
theorem EventsMoved.tx_drain {s t : State} (h : EventsMoved s t) : t.tx.drain = s.tx.drain := by
  unfold EventsMoved at h; rw [h]
theorem EventsMoved.tx_line {s t : State} (h : EventsMoved s t) : t.tx.line = s.tx.line := by
  unfold EventsMoved at h; rw [h]
theorem EventsMoved.tx_lineCounts {s t : State} (h : EventsMoved s t) : t.tx.lineCounts = s.tx.lineCounts := by
  unfold EventsMoved at h; rw [h]
theorem EventsMoved.ingress {s t : State} (h : EventsMoved s t) : t.ingress = s.ingress := by unfold EventsMoved at h; rw [h]
theorem EventsMoved.timer {s t : State} (h : EventsMoved s t) : t.timer = s.timer := by unfold EventsMoved at h; rw [h]
theorem EventsMoved.channels {s t : State} (h : EventsMoved s t) : t.channels = s.channels := by unfold EventsMoved at h; rw [h]
theorem EventsMoved.bank {s t : State} (h : EventsMoved s t) : t.bank = s.bank := by unfold EventsMoved at h; rw [h]
theorem EventsMoved.own {s t : State} (h : EventsMoved s t) : t.own = s.own := by unfold EventsMoved at h; rw [h]
theorem EventsMoved.scenario {s t : State} (h : EventsMoved s t) : t.scenario = s.scenario := by unfold EventsMoved at h; rw [h]
theorem EventsMoved.watch {s t : State} (h : EventsMoved s t) : t.watch = s.watch := by unfold EventsMoved at h; rw [h]
theorem EventsMoved.replay {s t : State} (h : EventsMoved s t) : t.replay = s.replay := by unfold EventsMoved at h; rw [h]
theorem EventsMoved.capture {s t : State} (h : EventsMoved s t) : t.capture = s.capture := by unfold EventsMoved at h; rw [h]
theorem EventsMoved.setup {s t : State} (h : EventsMoved s t) : t.setup = s.setup := by unfold EventsMoved at h; rw [h]
theorem EventsMoved.port {s t : State} (h : EventsMoved s t) : t.port = s.port := by unfold EventsMoved at h; rw [h]
theorem EventsMoved.safe {s t : State} (h : EventsMoved s t) : t.safe = s.safe := by unfold EventsMoved at h; rw [h]
theorem EventsMoved.freeIx {s t : State} (h : EventsMoved s t) : t.freeIx = s.freeIx := by unfold EventsMoved at h; rw [h]
theorem EventsMoved.pending {s t : State} (h : EventsMoved s t) : t.pending = s.pending := by unfold EventsMoved at h; rw [h]

theorem ScenarioMoved.phase {s t : State} (h : ScenarioMoved s t) : t.phase = s.phase := by unfold ScenarioMoved at h; rw [h]
theorem ScenarioMoved.rx {s t : State} (h : ScenarioMoved s t) : t.rx = s.rx := by unfold ScenarioMoved at h; rw [h]
theorem ScenarioMoved.tx_replies {s t : State} (h : ScenarioMoved s t) : t.tx.replies = s.tx.replies := by
  unfold ScenarioMoved at h; rw [h]
theorem ScenarioMoved.tx_drain {s t : State} (h : ScenarioMoved s t) : t.tx.drain = s.tx.drain := by
  unfold ScenarioMoved at h; rw [h]
theorem ScenarioMoved.tx_line {s t : State} (h : ScenarioMoved s t) : t.tx.line = s.tx.line := by
  unfold ScenarioMoved at h; rw [h]
theorem ScenarioMoved.tx_lineCounts {s t : State} (h : ScenarioMoved s t) : t.tx.lineCounts = s.tx.lineCounts := by
  unfold ScenarioMoved at h; rw [h]
theorem ScenarioMoved.ingress {s t : State} (h : ScenarioMoved s t) : t.ingress = s.ingress := by unfold ScenarioMoved at h; rw [h]
theorem ScenarioMoved.timer {s t : State} (h : ScenarioMoved s t) : t.timer = s.timer := by unfold ScenarioMoved at h; rw [h]
theorem ScenarioMoved.channels {s t : State} (h : ScenarioMoved s t) : t.channels = s.channels := by unfold ScenarioMoved at h; rw [h]
theorem ScenarioMoved.bank {s t : State} (h : ScenarioMoved s t) : t.bank = s.bank := by unfold ScenarioMoved at h; rw [h]
theorem ScenarioMoved.scenario_blocks {s t : State} (h : ScenarioMoved s t) : t.scenario.blocks = s.scenario.blocks := by
  unfold ScenarioMoved at h; rw [h]
theorem ScenarioMoved.scenario_entries {s t : State} (h : ScenarioMoved s t) : t.scenario.entries = s.scenario.entries := by
  unfold ScenarioMoved at h; rw [h]
theorem ScenarioMoved.watch {s t : State} (h : ScenarioMoved s t) : t.watch = s.watch := by unfold ScenarioMoved at h; rw [h]
theorem ScenarioMoved.replay_mem {s t : State} (h : ScenarioMoved s t) : t.replay.mem = s.replay.mem := by
  unfold ScenarioMoved at h; rw [h]
theorem ScenarioMoved.capture {s t : State} (h : ScenarioMoved s t) : t.capture = s.capture := by unfold ScenarioMoved at h; rw [h]
theorem ScenarioMoved.setup {s t : State} (h : ScenarioMoved s t) : t.setup = s.setup := by unfold ScenarioMoved at h; rw [h]
theorem ScenarioMoved.port {s t : State} (h : ScenarioMoved s t) : t.port = s.port := by unfold ScenarioMoved at h; rw [h]
theorem ScenarioMoved.safe {s t : State} (h : ScenarioMoved s t) : t.safe = s.safe := by unfold ScenarioMoved at h; rw [h]
theorem ScenarioMoved.freeIx {s t : State} (h : ScenarioMoved s t) : t.freeIx = s.freeIx := by unfold ScenarioMoved at h; rw [h]
theorem ScenarioMoved.pending {s t : State} (h : ScenarioMoved s t) : t.pending = s.pending := by unfold ScenarioMoved at h; rw [h]

theorem CaptureMoved.phase {s t : State} (h : CaptureMoved s t) : t.phase = s.phase := by unfold CaptureMoved at h; rw [h]
theorem CaptureMoved.rx {s t : State} (h : CaptureMoved s t) : t.rx = s.rx := by unfold CaptureMoved at h; rw [h]
theorem CaptureMoved.tx_replies {s t : State} (h : CaptureMoved s t) : t.tx.replies = s.tx.replies := by
  unfold CaptureMoved at h; rw [h]
theorem CaptureMoved.tx_line {s t : State} (h : CaptureMoved s t) : t.tx.line = s.tx.line := by
  unfold CaptureMoved at h; rw [h]
theorem CaptureMoved.tx_lineCounts {s t : State} (h : CaptureMoved s t) : t.tx.lineCounts = s.tx.lineCounts := by
  unfold CaptureMoved at h; rw [h]
theorem CaptureMoved.ingress {s t : State} (h : CaptureMoved s t) : t.ingress = s.ingress := by unfold CaptureMoved at h; rw [h]
theorem CaptureMoved.timer {s t : State} (h : CaptureMoved s t) : t.timer = s.timer := by unfold CaptureMoved at h; rw [h]
theorem CaptureMoved.channels {s t : State} (h : CaptureMoved s t) : t.channels = s.channels := by unfold CaptureMoved at h; rw [h]
theorem CaptureMoved.bank {s t : State} (h : CaptureMoved s t) : t.bank = s.bank := by unfold CaptureMoved at h; rw [h]
theorem CaptureMoved.own {s t : State} (h : CaptureMoved s t) : t.own = s.own := by unfold CaptureMoved at h; rw [h]
theorem CaptureMoved.scenario {s t : State} (h : CaptureMoved s t) : t.scenario = s.scenario := by unfold CaptureMoved at h; rw [h]
theorem CaptureMoved.watch {s t : State} (h : CaptureMoved s t) : t.watch = s.watch := by unfold CaptureMoved at h; rw [h]
theorem CaptureMoved.replay {s t : State} (h : CaptureMoved s t) : t.replay = s.replay := by unfold CaptureMoved at h; rw [h]
theorem CaptureMoved.setup {s t : State} (h : CaptureMoved s t) : t.setup = s.setup := by unfold CaptureMoved at h; rw [h]
theorem CaptureMoved.port {s t : State} (h : CaptureMoved s t) : t.port = s.port := by unfold CaptureMoved at h; rw [h]
theorem CaptureMoved.safe {s t : State} (h : CaptureMoved s t) : t.safe = s.safe := by unfold CaptureMoved at h; rw [h]
theorem CaptureMoved.freeIx {s t : State} (h : CaptureMoved s t) : t.freeIx = s.freeIx := by unfold CaptureMoved at h; rw [h]
theorem CaptureMoved.pending {s t : State} (h : CaptureMoved s t) : t.pending = s.pending := by unfold CaptureMoved at h; rw [h]

theorem FireMoved.phase {s t : State} (h : FireMoved s t) : t.phase = s.phase := by unfold FireMoved at h; rw [h]
theorem FireMoved.rx {s t : State} (h : FireMoved s t) : t.rx = s.rx := by unfold FireMoved at h; rw [h]
theorem FireMoved.tx_replies {s t : State} (h : FireMoved s t) : t.tx.replies = s.tx.replies := by
  unfold FireMoved at h; rw [h]
theorem FireMoved.tx_line {s t : State} (h : FireMoved s t) : t.tx.line = s.tx.line := by
  unfold FireMoved at h; rw [h]
theorem FireMoved.tx_lineCounts {s t : State} (h : FireMoved s t) : t.tx.lineCounts = s.tx.lineCounts := by
  unfold FireMoved at h; rw [h]
theorem FireMoved.ingress {s t : State} (h : FireMoved s t) : t.ingress = s.ingress := by unfold FireMoved at h; rw [h]
theorem FireMoved.timer {s t : State} (h : FireMoved s t) : t.timer = s.timer := by unfold FireMoved at h; rw [h]
theorem FireMoved.channels {s t : State} (h : FireMoved s t) : t.channels = s.channels := by unfold FireMoved at h; rw [h]
theorem FireMoved.bank {s t : State} (h : FireMoved s t) : t.bank = s.bank := by unfold FireMoved at h; rw [h]
theorem FireMoved.scenario_blocks {s t : State} (h : FireMoved s t) : t.scenario.blocks = s.scenario.blocks := by
  unfold FireMoved at h; rw [h]
theorem FireMoved.scenario_entries {s t : State} (h : FireMoved s t) : t.scenario.entries = s.scenario.entries := by
  unfold FireMoved at h; rw [h]
theorem FireMoved.replay_mem {s t : State} (h : FireMoved s t) : t.replay.mem = s.replay.mem := by
  unfold FireMoved at h; rw [h]
theorem FireMoved.setup {s t : State} (h : FireMoved s t) : t.setup = s.setup := by unfold FireMoved at h; rw [h]
theorem FireMoved.port {s t : State} (h : FireMoved s t) : t.port = s.port := by unfold FireMoved at h; rw [h]
theorem FireMoved.safe {s t : State} (h : FireMoved s t) : t.safe = s.safe := by unfold FireMoved at h; rw [h]
theorem FireMoved.freeIx {s t : State} (h : FireMoved s t) : t.freeIx = s.freeIx := by unfold FireMoved at h; rw [h]
theorem FireMoved.pending {s t : State} (h : FireMoved s t) : t.pending = s.pending := by unfold FireMoved at h; rw [h]

end Sys2Proof.Machine
end

