-- ==== Sys2Proof/Laws/Memory.lean ====
section
/-! SUPPORT. The addressed stores: what a write leaves to be read, and the canonical form every store operation keeps. -/

namespace Sys2Proof.Machine

/-- Below its lowest listed address a store reads 0. -/
theorem Mem.read_below {m : Mem} {a : Nat} (h : ∀ p ∈ m, a < p.1) : Mem.read m a = 0 := by
  induction m with
  | nil => rfl
  | cons q m ih =>
    have hq : ¬ q.1 = a := by have := h q (by simp); omega
    simp only [Mem.read, hq, if_false]
    exact ih fun p hp => h p (by simp [hp])

/-- Every listed address of a written store is the address written or was listed before. -/
theorem Mem.mem_write {m : Mem} {a : Nat} {v : Word} {p : Nat × Word} (h : p ∈ Mem.write m a v) :
    p = (a, v) ∧ v ≠ 0 ∨ p ∈ m := by
  induction m with
  | nil =>
    unfold Mem.write at h; split at h
    · simp at h
    · exact .inl ⟨by simpa using h, by assumption⟩
  | cons q m ih =>
    unfold Mem.write at h
    split at h
    · split at h
      · exact .inr h
      · simp only [List.mem_cons] at h
        rcases h with h | h
        · exact .inl ⟨h, by assumption⟩
        · exact .inr (by simpa using h)
    · split at h
      · split at h
        · exact .inr (by simp [h])
        · simp only [List.mem_cons] at h
          rcases h with h | h
          · exact .inl ⟨h, by assumption⟩
          · exact .inr (by simp [h])
      · simp only [List.mem_cons] at h
        rcases h with h | h
        · exact .inr (by simp [h])
        · rcases ih h with k | k
          · exact .inl k
          · exact .inr (by simp [k])

/-- Writing keeps the canonical form. -/
theorem Mem.write_wf {m : Mem} (h : Mem.Wf m) (a : Nat) (v : Word) : Mem.Wf (Mem.write m a v) := by
  refine ⟨?_, fun p hp => ?_⟩
  · induction m with
    | nil => unfold Mem.write; split <;> simp
    | cons q m ih =>
      obtain ⟨h1, h2⟩ := h
      rw [List.pairwise_cons] at h1
      have hm : Mem.Wf m := ⟨h1.2, fun p hp => h2 p (by simp [hp])⟩
      unfold Mem.write; split
      · split
        · exact List.pairwise_cons.2 h1
        · refine List.pairwise_cons.2 ⟨fun p hp => ?_, List.pairwise_cons.2 h1⟩
          simp only [List.mem_cons] at hp
          rcases hp with rfl | hp
          · assumption
          · have := h1.1 p hp; simp only at *; omega
      · split
        · rename_i e; subst e
          split
          · exact h1.2
          · exact List.pairwise_cons.2 h1
        · refine List.pairwise_cons.2 ⟨fun p hp => ?_, ih hm⟩
          rcases Mem.mem_write hp with ⟨rfl, -⟩ | hp
          · simp only at *; omega
          · exact h1.1 p hp
  · rcases Mem.mem_write hp with ⟨rfl, hv⟩ | hp
    · exact hv
    · exact h.2 p hp

/-- Reading after a write: the word written at its address, and every other address as before. -/
theorem Mem.read_write {m : Mem} (h : Mem.Wf m) (a b : Nat) (v : Word) :
    Mem.read (Mem.write m a v) b = if b = a then v else Mem.read m b := by
  induction m with
  | nil =>
    unfold Mem.write; split
    · rename_i hv; rw [hv]; exact (ite_self _).symm
    · by_cases hb : a = b
      · subst hb; simp [Mem.read]
      · simp [Mem.read, hb, Ne.symm hb]
  | cons q m ih =>
    obtain ⟨h1, h2⟩ := h
    rw [List.pairwise_cons] at h1
    have hm : Mem.Wf m := ⟨h1.2, fun p hp => h2 p (by simp [hp])⟩
    have low : ∀ c, c ≤ q.1 → Mem.read m c = 0 := fun c hc => Mem.read_below fun p hp => by have := h1.1 p hp; omega
    unfold Mem.write; split
    · rename_i hlt
      have hr : Mem.read (q :: m) a = 0 := by simp only [Mem.read]; rw [if_neg (by omega)]; exact low a (by omega)
      split
      · rename_i hv
        split
        · rename_i e; subst e; rw [hr, hv]
        · rfl
      · by_cases e : a = b
        · simp [Mem.read, e]
        · simp [Mem.read, e, Ne.symm e]
    · split
      · rename_i e; subst e
        split
        · rename_i hv
          split
          · rename_i hb; subst hb; rw [low _ (Nat.le_refl _), hv]
          · rename_i hb; simp only [Mem.read]; rw [if_neg (Ne.symm hb)]
        · by_cases hb : q.1 = b
          · simp [Mem.read, hb]
          · simp [Mem.read, hb, Ne.symm hb]
      · simp only [Mem.read]; rw [ih hm]
        split
        · rename_i e; rw [if_neg (by omega)]
        · rfl

/-- Writing a run keeps the canonical form. -/
theorem Mem.writeAll_wf (vs : List Word) : ∀ {m : Mem}, Mem.Wf m → ∀ a, Mem.Wf (Mem.writeAll m a vs) := by
  induction vs with
  | nil => exact fun h _ => h
  | cons v vs ih => exact fun h a => ih (Mem.write_wf h a v) (a + 1)

/-- Reading after a run is written: its words at their addresses, and every other address as before. -/
theorem Mem.read_writeAll (vs : List Word) : ∀ {m : Mem}, Mem.Wf m → ∀ a b,
    Mem.read (Mem.writeAll m a vs) b = if a ≤ b ∧ b < a + vs.length then vs.getD (b - a) 0 else Mem.read m b := by
  induction vs with
  | nil => intro m h a b; simp [Mem.writeAll]
  | cons v vs ih =>
    intro m h a b
    simp only [Mem.writeAll]; rw [ih (Mem.write_wf h a v), Mem.read_write h]
    by_cases hb : b = a
    · subst hb; simp
    · by_cases h1 : a + 1 ≤ b ∧ b < a + 1 + vs.length
      · rw [if_pos h1, if_pos (by simp only [List.length_cons]; omega)]
        rw [show b - a = (b - (a + 1)) + 1 by omega]; simp
      · rw [if_neg h1, if_neg hb, if_neg (by simp only [List.length_cons]; omega)]

/-- After reset every store lists nothing. -/
theorem reset_stores_wf :
    Mem.Wf State.reset.scenario.blocks ∧ Mem.Wf State.reset.scenario.entries ∧ Mem.Wf State.reset.replay.mem := by
  refine ⟨⟨List.Pairwise.nil, ?_⟩, ⟨List.Pairwise.nil, ?_⟩, ⟨List.Pairwise.nil, ?_⟩⟩ <;> intro p hp <;> cases hp

end Sys2Proof.Machine
end

