-- ==== Sys2Proof/Laws/Requests.lean ====
section
/-! SUPPORT. What a request row can do: it executes a request of its own with its reply, drops it on a full reply queue, or takes no
part in the frame. -/

namespace Sys2Proof.Machine

theorem State.serves.taken {s : State} {r : Request} (h : s.serves r) : s.taken? = some (.manage r) := h.1

theorem State.serves.room {s : State} {r : Request} (h : s.serves r) : s.tx.replies.length < 4 := h.2

theorem State.serves.running {s : State} {r : Request} (h : s.serves r) : s.phase = .running := by
  have := h.1
  unfold State.taken? at this; split at this
  · rename_i h; exact h.1
  · simp at this

theorem State.serves.framing {s : State} {r : Request} (h : s.serves r) : s.rx.framing = .frame := by
  have := h.1
  unfold State.taken? at this; split at this
  · rename_i h; exact h.2
  · simp at this

/-- A request of the row is executed on the state in HUNT, and its reply queued. -/
theorem request_serves {row : Request → Bool} {meaning : Request → State → Answer} {s : State} {r : Request}
    (h : s.serves r) (hr : row r = true) :
    request row meaning s
      = .next (State.answered r (meaning r s.toHunt).status (meaning r s.toHunt).data (meaning r s.toHunt).state) := by
  have hl : ¬ 4 ≤ s.tx.replies.length := by have := h.room; omega
  simp [request, State.request?, h.taken, hr, serve, hl, queueReply, State.answered]

/-- A full reply queue drops the request. -/
theorem request_full {row : Request → Bool} {meaning : Request → State → Answer} {s : State} {r : Request}
    (h : s.taken? = some (.manage r)) (hr : row r = true) (hl : 4 ≤ s.tx.replies.length) :
    request row meaning s = .next (advance ctrReqDropped 1 s.toHunt) := by
  simp [request, State.request?, h, hr, serve, hl]

/-- What a request row can do, on any state. -/
theorem request_cases (row : Request → Bool) (meaning : Request → State → Answer) (s : State) :
    (∃ r, s.serves r ∧ row r = true ∧
      request row meaning s
        = .next (State.answered r (meaning r s.toHunt).status (meaning r s.toHunt).data (meaning r s.toHunt).state))
    ∨ (∃ r, s.taken? = some (.manage r) ∧ row r = true ∧ 4 ≤ s.tx.replies.length ∧
      request row meaning s = .next (advance ctrReqDropped 1 s.toHunt))
    ∨ request row meaning s = .next s := by
  rcases h : s.request? row with _ | r
  · right; right; simp [request, h]
  · have hm : s.taken? = some (.manage r) ∧ row r = true := by
      unfold State.request? at h; split at h
      · split at h
        · cases h; exact ⟨‹_›, ‹_›⟩
        · simp at h
      · simp at h
    by_cases hl : 4 ≤ s.tx.replies.length
    · exact .inr (.inl ⟨r, hm.1, hm.2, hl, request_full hm.1 hm.2 hl⟩)
    · have hs : s.serves r := ⟨hm.1, by simp only [Config.replyRoom]; omega⟩
      exact .inl ⟨r, hs, hm.2, request_serves hs hm.2⟩

@[simp] theorem refuse_state (st : Status) (s : State) : (refuse st s).state = s := rfl
@[simp] theorem refuse_status (st : Status) (s : State) : (refuse st s).status = st := rfl
@[simp] theorem refuse_data (st : Status) (s : State) : (refuse st s).data = [] := rfl
@[simp] theorem done_state (d : List Word) (s : State) : (done d s).state = s := rfl
@[simp] theorem done_status (d : List Word) (s : State) : (done d s).status = .ok := rfl
@[simp] theorem done_data (d : List Word) (s : State) : (done d s).data = d := rfl

/-- The object numbered by a Fin is found. -/
@[simp] theorem index?_val {n : Nat} (i : Fin n) : index? n i.val = some i := by simp [index?, i.isLt]

theorem index?_eq_none {n i : Nat} (h : n ≤ i) : index? n i = none := by simp [index?, Nat.not_lt.2 h]

theorem index?_eq_some {n i : Nat} {k : Fin n} (h : index? n i = some k) : i = k.val := by
  unfold index? at h; split at h
  · cases h; rfl
  · simp at h

end Sys2Proof.Machine
end

