-- ==== Sys2Proof/Laws/Tick.lean ====
section
/-! SUPPORT. What a tick can do, stage by stage: what stands open before it, the judgement, the tracks, the values, and the units that
react. -/

namespace Sys2Proof.Machine

/-! ### Nothing left over from the latest tick -/

theorem Slot.counts_false_eta {x : Slot} (h : x.counts = false) : { x with counts := false } = x := by
  cases x; simp_all

theorem Slot.counted_of_not {x : Slot} (h : x.counts = false) : x.counted = x := by
  simp [Slot.counted, h, Slot.counts_false_eta h]

theorem State.mapSlots_id {f : Slot → Slot} {s : State} (h : ∀ n : SlotNo, f (s.slot n) = s.slot n) : s.mapSlots f = s := by
  have : (Vector.ofFn fun n : Fin 8 => f s.scenario.slots[n]) = s.scenario.slots := by
    ext i hi; simpa [State.slot] using congrArg id (h ⟨i, hi⟩)
  unfold State.mapSlots; rw [this]

theorem countSlots_id {s : State} (h : ∀ n : SlotNo, (s.slot n).counts = false) : countSlots s = s :=
  State.mapSlots_id fun n => Slot.counted_of_not (h n)

theorem entriesDue_nil {s : State} (h : ∀ n : SlotNo, (s.slot n).counts = false) : entriesDue s = [] :=
  List.filter_eq_nil_iff.mpr fun n _ => by simp [Slot.entryDue, h n]

theorem delaysDue_nil {s : State} (h : ∀ n : SlotNo, (s.slot n).counts = false) : delaysDue s = [] :=
  List.filter_eq_nil_iff.mpr fun n _ => by simp [Slot.delayDue, h n]

theorem foldl_id {α β : Type} (f : α → β → α) (s : α) (l : List β) (h : ∀ b, f s b = s) : l.foldl f s = s := by
  induction l with
  | nil => rfl
  | cons b l ih => rw [List.foldl_cons, h, ih]

theorem scenarioTick_id {s : State} (h : ∀ n : SlotNo, (s.slot n).counts = false) : scenarioTick s = s := by
  unfold scenarioTick; rw [entriesDue_nil h, delaysDue_nil h, countSlots_id h]; rfl

theorem takeFires_id {s : State} (h : ∀ w : WatchNo, (s.watchOf w).fire = none) : takeFires s = s := by
  unfold takeFires; exact foldl_id _ s _ fun w => by simp [takeFire, h w]

/-- A settled state has nothing to close before its tick. -/
theorem State.Settled.closeTick {s : State} (h : s.Settled) : closeTick s = s := by
  unfold Machine.closeTick; rw [scenarioTick_id h.1, takeFires_id h.2]

/-! ### The stages of a tick -/

/-- Only the port and the number of free values read have moved. -/
def PortMoved (s t : State) : Prop := t = { s with port := t.port, freeIx := t.freeIx }

theorem clearPort_moves (s : State) : PortMoved s (clearPort s) := by
  unfold clearPort; split
  · rfl
  · split
    · rfl
    · split <;> rfl

/-- Only the sample flow, the timers' running, counters, flags, summary and the report request have moved. -/
def FlowMoved (s t : State) : Prop :=
  t = { s with
    ingress := { s.ingress with
      flow := t.ingress.flow, staleRun := t.ingress.staleRun, freshRun := t.ingress.freshRun, fresh := t.ingress.fresh,
      flowDue := t.ingress.flowDue }
    timer := { s.timer with interval := t.timer.interval, starve := t.timer.starve }
    events := t.events
    tx := { s.tx with report := t.tx.report } }

theorem FlowMoved.refl (s : State) : FlowMoved s s := rfl

theorem FlowMoved.trans {s t u : State} (h : FlowMoved s t) (k : FlowMoved t u) : FlowMoved s u := by
  unfold FlowMoved at *; rw [k]; simp only; rw [h]

theorem EventsMoved.asFlow {s t : State} (h : EventsMoved s t) : FlowMoved s t := by
  unfold EventsMoved at h; unfold FlowMoved; rw [h]

theorem flowLive_moves (s : State) : FlowMoved s (flowLive s) :=
  FlowMoved.trans (t := { s with
      ingress := { s.ingress with flow := .live, staleRun := 0, flowDue := none }
      timer :=
        { s.timer with
          interval := match s.setup.source with | .paced => none | .lcl => s.timer.interval
          starve := match s.setup.source with | .paced => some s.setup.starve | .lcl => s.timer.starve } })
    rfl (raise_moves _ _).asFlow

theorem starved_moves (s : State) : FlowMoved s (starved s) :=
  FlowMoved.trans (t := { s with ingress := { s.ingress with flow := .starved, freshRun := 0, flowDue := none } })
    rfl (raise_moves _ _).asFlow

theorem takeFlow_moves (s : State) : FlowMoved s (takeFlow s) := by
  unfold takeFlow; split
  · exact flowLive_moves s
  · exact starved_moves s
  · rfl

theorem staleLive_moves (s : State) : FlowMoved s (staleLive s) :=
  FlowMoved.trans (t := { s with ingress :=
        { s.ingress with
          staleRun := s.ingress.staleRun + 1
          flowDue := if s.setup.staleLimit ≤ s.ingress.staleRun + 1 then some .toStarved else none } })
    rfl (advance_moves _ _ _).asFlow

theorem judgeRuns_moves (b : Bool) (s : State) : FlowMoved s (judgeRuns b s) := by
  unfold judgeRuns; split
  · rfl
  · split
    · exact staleLive_moves s
    · rfl
  · rfl
  · rfl

theorem judge_moves (s : State) : FlowMoved s (judge s) :=
  FlowMoved.trans (t := { s with ingress := { s.ingress with fresh := false, flowDue := none } }) rfl
    ((judgeRuns_moves _ _).trans (takeFlow_moves _))

/-- Only tracks, counters, flags, summary and the report request have moved. -/
def TracksMoved (s t : State) : Prop :=
  t = { s with replay := { s.replay with tracks := t.replay.tracks }, events := t.events,
               tx := { s.tx with report := t.tx.report } }

theorem TracksMoved.refl (s : State) : TracksMoved s s := rfl

theorem TracksMoved.trans {s t u : State} (h : TracksMoved s t) (k : TracksMoved t u) : TracksMoved s u := by
  unfold TracksMoved at *; rw [k]; simp only; rw [h]

theorem EventsMoved.asTracks {s t : State} (h : EventsMoved s t) : TracksMoved s t := by
  unfold EventsMoved at h; unfold TracksMoved; rw [h]

theorem setTrack_moves (t : TrackNo) (x : Track) (s : State) : TracksMoved s (s.setTrack t x) := rfl

theorem spanEnd_moves (t : TrackNo) (s : State) : TracksMoved s (spanEnd t s) := by
  unfold spanEnd; simp only; split
  · unfold raise?; split
    · exact (setTrack_moves _ _ _).trans (raise_moves _ _).asTracks
    · exact setTrack_moves _ _ _
  · rfl

theorem trackTick_moves (t : TrackNo) (s : State) : TracksMoved s (trackTick t s) := by
  unfold trackTick; simp only; split
  · exact ((setTrack_moves _ _ _).trans (advance_moves _ _ _).asTracks).trans (spanEnd_moves _ _)
  · exact (setTrack_moves _ _ _).trans (spanEnd_moves _ _)

theorem tracksTick_moves (s : State) : TracksMoved s (tracksTick s) :=
  foldl_moves TracksMoved .refl (fun _ _ _ => .trans) _ (fun s t => trackTick_moves t s) _ _

/-- A tick's values move the last transform values, the contexts, counters, flags, summary and the report request, and the counting
of clips only the last four. -/
theorem countClips_moves (vs : TickValues) (s : State) : EventsMoved s (countClips vs s) := by
  unfold countClips
  refine foldl_moves EventsMoved .refl (fun _ _ _ => .trans) _ (fun t c => ?_) _ _
  split
  · exact advance_moves _ _ _
  · rfl

/-- Only the last transform values, the contexts, counters, flags, summary and the report request have moved. -/
def ValuesMoved (s t : State) : Prop :=
  t = { s with channels := { s.channels with last := t.channels.last }, own := t.own, events := t.events,
               tx := { s.tx with report := t.tx.report } }

theorem takeValues_moves (vs : TickValues) (s : State) : ValuesMoved s (takeValues vs s) := by
  have h := countClips_moves vs
    { s with
      channels := { s.channels with last := Vector.ofFn fun c => vs[c].y.getD s.channels.last[c] }
      own := Vector.ofFn fun c => s.own[c].setCurrent (vs[c].context.getD s.own[c].current) }
  unfold EventsMoved at h; unfold ValuesMoved takeValues; rw [h]

theorem takeValues_last (vs : TickValues) (s : State) :
    (takeValues vs s).channels.last = Vector.ofFn fun c => vs[c].y.getD s.channels.last[c] := by
  have h := countClips_moves vs
    { s with
      channels := { s.channels with last := Vector.ofFn fun c => vs[c].y.getD s.channels.last[c] }
      own := Vector.ofFn fun c => s.own[c].setCurrent (vs[c].context.getD s.own[c].current) }
  unfold takeValues; rw [h.channels]

theorem takeValues_own (vs : TickValues) (s : State) :
    (takeValues vs s).own = Vector.ofFn fun c => s.own[c].setCurrent (vs[c].context.getD s.own[c].current) := by
  have h := countClips_moves vs
    { s with
      channels := { s.channels with last := Vector.ofFn fun c => vs[c].y.getD s.channels.last[c] }
      own := Vector.ofFn fun c => s.own[c].setCurrent (vs[c].context.getD s.own[c].current) }
  unfold takeValues; rw [h.own]

/-! ### What each relation leaves -/

theorem PortMoved.phase {s t : State} (h : PortMoved s t) : t.phase = s.phase := by unfold PortMoved at h; rw [h]
theorem PortMoved.rx {s t : State} (h : PortMoved s t) : t.rx = s.rx := by unfold PortMoved at h; rw [h]
theorem PortMoved.tx {s t : State} (h : PortMoved s t) : t.tx = s.tx := by unfold PortMoved at h; rw [h]
theorem PortMoved.ingress {s t : State} (h : PortMoved s t) : t.ingress = s.ingress := by unfold PortMoved at h; rw [h]
theorem PortMoved.timer {s t : State} (h : PortMoved s t) : t.timer = s.timer := by unfold PortMoved at h; rw [h]
theorem PortMoved.channels {s t : State} (h : PortMoved s t) : t.channels = s.channels := by unfold PortMoved at h; rw [h]
theorem PortMoved.bank {s t : State} (h : PortMoved s t) : t.bank = s.bank := by unfold PortMoved at h; rw [h]
theorem PortMoved.own {s t : State} (h : PortMoved s t) : t.own = s.own := by unfold PortMoved at h; rw [h]
theorem PortMoved.scenario {s t : State} (h : PortMoved s t) : t.scenario = s.scenario := by unfold PortMoved at h; rw [h]
theorem PortMoved.watch {s t : State} (h : PortMoved s t) : t.watch = s.watch := by unfold PortMoved at h; rw [h]
theorem PortMoved.replay {s t : State} (h : PortMoved s t) : t.replay = s.replay := by unfold PortMoved at h; rw [h]
theorem PortMoved.capture {s t : State} (h : PortMoved s t) : t.capture = s.capture := by unfold PortMoved at h; rw [h]
theorem PortMoved.setup {s t : State} (h : PortMoved s t) : t.setup = s.setup := by unfold PortMoved at h; rw [h]
theorem PortMoved.events {s t : State} (h : PortMoved s t) : t.events = s.events := by unfold PortMoved at h; rw [h]
theorem PortMoved.safe {s t : State} (h : PortMoved s t) : t.safe = s.safe := by unfold PortMoved at h; rw [h]
theorem PortMoved.pending {s t : State} (h : PortMoved s t) : t.pending = s.pending := by unfold PortMoved at h; rw [h]

theorem FlowMoved.phase {s t : State} (h : FlowMoved s t) : t.phase = s.phase := by unfold FlowMoved at h; rw [h]
theorem FlowMoved.rx {s t : State} (h : FlowMoved s t) : t.rx = s.rx := by unfold FlowMoved at h; rw [h]
theorem FlowMoved.tx_replies {s t : State} (h : FlowMoved s t) : t.tx.replies = s.tx.replies := by
  unfold FlowMoved at h; rw [h]
theorem FlowMoved.tx_drain {s t : State} (h : FlowMoved s t) : t.tx.drain = s.tx.drain := by
  unfold FlowMoved at h; rw [h]
theorem FlowMoved.tx_line {s t : State} (h : FlowMoved s t) : t.tx.line = s.tx.line := by
  unfold FlowMoved at h; rw [h]
theorem FlowMoved.tx_lineCounts {s t : State} (h : FlowMoved s t) : t.tx.lineCounts = s.tx.lineCounts := by
  unfold FlowMoved at h; rw [h]
theorem FlowMoved.ingress_slotMap {s t : State} (h : FlowMoved s t) : t.ingress.slotMap = s.ingress.slotMap := by
  unfold FlowMoved at h; rw [h]
theorem FlowMoved.ingress_held {s t : State} (h : FlowMoved s t) : t.ingress.held = s.ingress.held := by
  unfold FlowMoved at h; rw [h]
theorem FlowMoved.ingress_view0 {s t : State} (h : FlowMoved s t) : t.ingress.view0 = s.ingress.view0 := by
  unfold FlowMoved at h; rw [h]
theorem FlowMoved.ingress_view1 {s t : State} (h : FlowMoved s t) : t.ingress.view1 = s.ingress.view1 := by
  unfold FlowMoved at h; rw [h]
theorem FlowMoved.timer_heldTick {s t : State} (h : FlowMoved s t) : t.timer.heldTick = s.timer.heldTick := by
  unfold FlowMoved at h; rw [h]
theorem FlowMoved.timer_ticks {s t : State} (h : FlowMoved s t) : t.timer.ticks = s.timer.ticks := by
  unfold FlowMoved at h; rw [h]
theorem FlowMoved.channels {s t : State} (h : FlowMoved s t) : t.channels = s.channels := by unfold FlowMoved at h; rw [h]
theorem FlowMoved.bank {s t : State} (h : FlowMoved s t) : t.bank = s.bank := by unfold FlowMoved at h; rw [h]
theorem FlowMoved.own {s t : State} (h : FlowMoved s t) : t.own = s.own := by unfold FlowMoved at h; rw [h]
theorem FlowMoved.scenario {s t : State} (h : FlowMoved s t) : t.scenario = s.scenario := by unfold FlowMoved at h; rw [h]
theorem FlowMoved.watch {s t : State} (h : FlowMoved s t) : t.watch = s.watch := by unfold FlowMoved at h; rw [h]
theorem FlowMoved.replay {s t : State} (h : FlowMoved s t) : t.replay = s.replay := by unfold FlowMoved at h; rw [h]
theorem FlowMoved.capture {s t : State} (h : FlowMoved s t) : t.capture = s.capture := by unfold FlowMoved at h; rw [h]
theorem FlowMoved.setup {s t : State} (h : FlowMoved s t) : t.setup = s.setup := by unfold FlowMoved at h; rw [h]
theorem FlowMoved.port {s t : State} (h : FlowMoved s t) : t.port = s.port := by unfold FlowMoved at h; rw [h]
theorem FlowMoved.safe {s t : State} (h : FlowMoved s t) : t.safe = s.safe := by unfold FlowMoved at h; rw [h]
theorem FlowMoved.freeIx {s t : State} (h : FlowMoved s t) : t.freeIx = s.freeIx := by unfold FlowMoved at h; rw [h]
theorem FlowMoved.pending {s t : State} (h : FlowMoved s t) : t.pending = s.pending := by unfold FlowMoved at h; rw [h]

theorem TracksMoved.phase {s t : State} (h : TracksMoved s t) : t.phase = s.phase := by unfold TracksMoved at h; rw [h]
theorem TracksMoved.rx {s t : State} (h : TracksMoved s t) : t.rx = s.rx := by unfold TracksMoved at h; rw [h]
theorem TracksMoved.tx_replies {s t : State} (h : TracksMoved s t) : t.tx.replies = s.tx.replies := by
  unfold TracksMoved at h; rw [h]
theorem TracksMoved.tx_drain {s t : State} (h : TracksMoved s t) : t.tx.drain = s.tx.drain := by
  unfold TracksMoved at h; rw [h]
theorem TracksMoved.tx_line {s t : State} (h : TracksMoved s t) : t.tx.line = s.tx.line := by
  unfold TracksMoved at h; rw [h]
theorem TracksMoved.tx_lineCounts {s t : State} (h : TracksMoved s t) : t.tx.lineCounts = s.tx.lineCounts := by
  unfold TracksMoved at h; rw [h]
theorem TracksMoved.ingress {s t : State} (h : TracksMoved s t) : t.ingress = s.ingress := by unfold TracksMoved at h; rw [h]
theorem TracksMoved.timer {s t : State} (h : TracksMoved s t) : t.timer = s.timer := by unfold TracksMoved at h; rw [h]
theorem TracksMoved.channels {s t : State} (h : TracksMoved s t) : t.channels = s.channels := by unfold TracksMoved at h; rw [h]
theorem TracksMoved.bank {s t : State} (h : TracksMoved s t) : t.bank = s.bank := by unfold TracksMoved at h; rw [h]
theorem TracksMoved.own {s t : State} (h : TracksMoved s t) : t.own = s.own := by unfold TracksMoved at h; rw [h]
theorem TracksMoved.scenario {s t : State} (h : TracksMoved s t) : t.scenario = s.scenario := by unfold TracksMoved at h; rw [h]
theorem TracksMoved.watch {s t : State} (h : TracksMoved s t) : t.watch = s.watch := by unfold TracksMoved at h; rw [h]
theorem TracksMoved.replay_mem {s t : State} (h : TracksMoved s t) : t.replay.mem = s.replay.mem := by
  unfold TracksMoved at h; rw [h]
theorem TracksMoved.capture {s t : State} (h : TracksMoved s t) : t.capture = s.capture := by unfold TracksMoved at h; rw [h]
theorem TracksMoved.setup {s t : State} (h : TracksMoved s t) : t.setup = s.setup := by unfold TracksMoved at h; rw [h]
theorem TracksMoved.port {s t : State} (h : TracksMoved s t) : t.port = s.port := by unfold TracksMoved at h; rw [h]
theorem TracksMoved.safe {s t : State} (h : TracksMoved s t) : t.safe = s.safe := by unfold TracksMoved at h; rw [h]
theorem TracksMoved.freeIx {s t : State} (h : TracksMoved s t) : t.freeIx = s.freeIx := by unfold TracksMoved at h; rw [h]
theorem TracksMoved.pending {s t : State} (h : TracksMoved s t) : t.pending = s.pending := by unfold TracksMoved at h; rw [h]

theorem ValuesMoved.phase {s t : State} (h : ValuesMoved s t) : t.phase = s.phase := by unfold ValuesMoved at h; rw [h]
theorem ValuesMoved.rx {s t : State} (h : ValuesMoved s t) : t.rx = s.rx := by unfold ValuesMoved at h; rw [h]
theorem ValuesMoved.tx_replies {s t : State} (h : ValuesMoved s t) : t.tx.replies = s.tx.replies := by
  unfold ValuesMoved at h; rw [h]
theorem ValuesMoved.tx_drain {s t : State} (h : ValuesMoved s t) : t.tx.drain = s.tx.drain := by
  unfold ValuesMoved at h; rw [h]
theorem ValuesMoved.tx_line {s t : State} (h : ValuesMoved s t) : t.tx.line = s.tx.line := by
  unfold ValuesMoved at h; rw [h]
theorem ValuesMoved.tx_lineCounts {s t : State} (h : ValuesMoved s t) : t.tx.lineCounts = s.tx.lineCounts := by
  unfold ValuesMoved at h; rw [h]
theorem ValuesMoved.ingress {s t : State} (h : ValuesMoved s t) : t.ingress = s.ingress := by unfold ValuesMoved at h; rw [h]
theorem ValuesMoved.timer {s t : State} (h : ValuesMoved s t) : t.timer = s.timer := by unfold ValuesMoved at h; rw [h]
theorem ValuesMoved.channels_records {s t : State} (h : ValuesMoved s t) : t.channels.records = s.channels.records := by
  unfold ValuesMoved at h; rw [h]
theorem ValuesMoved.bank {s t : State} (h : ValuesMoved s t) : t.bank = s.bank := by unfold ValuesMoved at h; rw [h]
theorem ValuesMoved.scenario {s t : State} (h : ValuesMoved s t) : t.scenario = s.scenario := by unfold ValuesMoved at h; rw [h]
theorem ValuesMoved.watch {s t : State} (h : ValuesMoved s t) : t.watch = s.watch := by unfold ValuesMoved at h; rw [h]
theorem ValuesMoved.replay {s t : State} (h : ValuesMoved s t) : t.replay = s.replay := by unfold ValuesMoved at h; rw [h]
theorem ValuesMoved.capture {s t : State} (h : ValuesMoved s t) : t.capture = s.capture := by unfold ValuesMoved at h; rw [h]
theorem ValuesMoved.setup {s t : State} (h : ValuesMoved s t) : t.setup = s.setup := by unfold ValuesMoved at h; rw [h]
theorem ValuesMoved.port {s t : State} (h : ValuesMoved s t) : t.port = s.port := by unfold ValuesMoved at h; rw [h]
theorem ValuesMoved.safe {s t : State} (h : ValuesMoved s t) : t.safe = s.safe := by unfold ValuesMoved at h; rw [h]
theorem ValuesMoved.freeIx {s t : State} (h : ValuesMoved s t) : t.freeIx = s.freeIx := by unfold ValuesMoved at h; rw [h]
theorem ValuesMoved.pending {s t : State} (h : ValuesMoved s t) : t.pending = s.pending := by unfold ValuesMoved at h; rw [h]

/-! ### The state a tick computes its values from, and what a tick leaves -/

/-- The state from which a tick computes its values. -/
def State.judged (s : State) : State := tracksTick (judge (countTick (clearPort (closeTick s))))

theorem tickCore_eq (s : State) : tickCore s = deliverTick (tickValues s.judged) s.judged := rfl

@[simp] theorem countTick_channels (s : State) : (countTick s).channels = s.channels := rfl
@[simp] theorem countTick_bank (s : State) : (countTick s).bank = s.bank := rfl
@[simp] theorem countTick_setup (s : State) : (countTick s).setup = s.setup := rfl
@[simp] theorem countTick_rx (s : State) : (countTick s).rx = s.rx := rfl
@[simp] theorem countTick_safe (s : State) : (countTick s).safe = s.safe := rfl
@[simp] theorem countTick_replay_mem (s : State) : (countTick s).replay.mem = s.replay.mem := rfl
@[simp] theorem countTick_scenario_blocks (s : State) : (countTick s).scenario.blocks = s.scenario.blocks := rfl
@[simp] theorem countTick_scenario_entries (s : State) : (countTick s).scenario.entries = s.scenario.entries := rfl
@[simp] theorem countTick_tx_replies (s : State) : (countTick s).tx.replies = s.tx.replies := rfl
@[simp] theorem countTick_tx_line (s : State) : (countTick s).tx.line = s.tx.line := rfl
@[simp] theorem countTick_tx_lineCounts (s : State) : (countTick s).tx.lineCounts = s.tx.lineCounts := rfl
@[simp] theorem countTick_ingress_held (s : State) : (countTick s).ingress.held = s.ingress.held := rfl
@[simp] theorem countTick_ingress_slotMap (s : State) : (countTick s).ingress.slotMap = s.ingress.slotMap := rfl
@[simp] theorem countTick_ingress_view0 (s : State) : (countTick s).ingress.view0 = s.ingress.view0 := rfl
@[simp] theorem countTick_ingress_view1 (s : State) : (countTick s).ingress.view1 = s.ingress.view1 := rfl
@[simp] theorem countTick_timer_heldTick (s : State) : (countTick s).timer.heldTick = s.timer.heldTick := rfl
@[simp] theorem countTick_phase (s : State) : (countTick s).phase = s.phase := rfl
@[simp] theorem countTick_pending (s : State) : (countTick s).pending = s.pending := rfl
@[simp] theorem countTick_own (s : State) : (countTick s).own = s.own := rfl
@[simp] theorem countTick_watch (s : State) : (countTick s).watch = s.watch := rfl
@[simp] theorem countTick_capture (s : State) : (countTick s).capture = s.capture := rfl

theorem judged_channels (s : State) : s.judged.channels = s.channels := by
  have h1 : s.judged.channels = (judge (countTick (clearPort (closeTick s)))).channels := by unfold State.judged; rw [(tracksTick_moves (judge (countTick (clearPort (closeTick s))))).channels]
  have h2 : (judge (countTick (clearPort (closeTick s)))).channels = (countTick (clearPort (closeTick s))).channels := (judge_moves (countTick (clearPort (closeTick s)))).channels
  have h4 : (clearPort (closeTick s)).channels = (closeTick s).channels := (clearPort_moves (closeTick s)).channels
  have h5 : (closeTick s).channels = s.channels := (closeTick_fire s).channels
  rw [h1, h2, countTick_channels, h4, h5]

theorem judged_bank (s : State) : s.judged.bank = s.bank := by
  have h1 : s.judged.bank = (judge (countTick (clearPort (closeTick s)))).bank := by unfold State.judged; rw [(tracksTick_moves (judge (countTick (clearPort (closeTick s))))).bank]
  have h2 : (judge (countTick (clearPort (closeTick s)))).bank = (countTick (clearPort (closeTick s))).bank := (judge_moves (countTick (clearPort (closeTick s)))).bank
  have h4 : (clearPort (closeTick s)).bank = (closeTick s).bank := (clearPort_moves (closeTick s)).bank
  have h5 : (closeTick s).bank = s.bank := (closeTick_fire s).bank
  rw [h1, h2, countTick_bank, h4, h5]

theorem judged_setup (s : State) : s.judged.setup = s.setup := by
  have h1 : s.judged.setup = (judge (countTick (clearPort (closeTick s)))).setup := by unfold State.judged; rw [(tracksTick_moves (judge (countTick (clearPort (closeTick s))))).setup]
  have h2 : (judge (countTick (clearPort (closeTick s)))).setup = (countTick (clearPort (closeTick s))).setup := (judge_moves (countTick (clearPort (closeTick s)))).setup
  have h4 : (clearPort (closeTick s)).setup = (closeTick s).setup := (clearPort_moves (closeTick s)).setup
  have h5 : (closeTick s).setup = s.setup := (closeTick_fire s).setup
  rw [h1, h2, countTick_setup, h4, h5]

theorem judged_rx (s : State) : s.judged.rx = s.rx := by
  have h1 : s.judged.rx = (judge (countTick (clearPort (closeTick s)))).rx := by unfold State.judged; rw [(tracksTick_moves (judge (countTick (clearPort (closeTick s))))).rx]
  have h2 : (judge (countTick (clearPort (closeTick s)))).rx = (countTick (clearPort (closeTick s))).rx := (judge_moves (countTick (clearPort (closeTick s)))).rx
  have h4 : (clearPort (closeTick s)).rx = (closeTick s).rx := (clearPort_moves (closeTick s)).rx
  have h5 : (closeTick s).rx = s.rx := (closeTick_fire s).rx
  rw [h1, h2, countTick_rx, h4, h5]

theorem judged_safe (s : State) : s.judged.safe = s.safe := by
  have h1 : s.judged.safe = (judge (countTick (clearPort (closeTick s)))).safe := by unfold State.judged; rw [(tracksTick_moves (judge (countTick (clearPort (closeTick s))))).safe]
  have h2 : (judge (countTick (clearPort (closeTick s)))).safe = (countTick (clearPort (closeTick s))).safe := (judge_moves (countTick (clearPort (closeTick s)))).safe
  have h4 : (clearPort (closeTick s)).safe = (closeTick s).safe := (clearPort_moves (closeTick s)).safe
  have h5 : (closeTick s).safe = s.safe := (closeTick_fire s).safe
  rw [h1, h2, countTick_safe, h4, h5]

theorem judged_replay_mem (s : State) : s.judged.replay.mem = s.replay.mem := by
  have h1 : s.judged.replay.mem = (judge (countTick (clearPort (closeTick s)))).replay.mem := by unfold State.judged; rw [(tracksTick_moves (judge (countTick (clearPort (closeTick s))))).replay_mem]
  have h2 : (judge (countTick (clearPort (closeTick s)))).replay.mem = (countTick (clearPort (closeTick s))).replay.mem := by rw [(judge_moves (countTick (clearPort (closeTick s)))).replay]
  have h4 : (clearPort (closeTick s)).replay.mem = (closeTick s).replay.mem := by rw [(clearPort_moves (closeTick s)).replay]
  have h5 : (closeTick s).replay.mem = s.replay.mem := (closeTick_fire s).replay_mem
  rw [h1, h2, countTick_replay_mem, h4, h5]

theorem judged_scenario_blocks (s : State) : s.judged.scenario.blocks = s.scenario.blocks := by
  have h1 : s.judged.scenario.blocks = (judge (countTick (clearPort (closeTick s)))).scenario.blocks := by unfold State.judged; rw [(tracksTick_moves (judge (countTick (clearPort (closeTick s))))).scenario]
  have h2 : (judge (countTick (clearPort (closeTick s)))).scenario.blocks = (countTick (clearPort (closeTick s))).scenario.blocks := by rw [(judge_moves (countTick (clearPort (closeTick s)))).scenario]
  have h4 : (clearPort (closeTick s)).scenario.blocks = (closeTick s).scenario.blocks := by rw [(clearPort_moves (closeTick s)).scenario]
  have h5 : (closeTick s).scenario.blocks = s.scenario.blocks := (closeTick_fire s).scenario_blocks
  rw [h1, h2, countTick_scenario_blocks, h4, h5]

theorem judged_scenario_entries (s : State) : s.judged.scenario.entries = s.scenario.entries := by
  have h1 : s.judged.scenario.entries = (judge (countTick (clearPort (closeTick s)))).scenario.entries := by unfold State.judged; rw [(tracksTick_moves (judge (countTick (clearPort (closeTick s))))).scenario]
  have h2 : (judge (countTick (clearPort (closeTick s)))).scenario.entries = (countTick (clearPort (closeTick s))).scenario.entries := by rw [(judge_moves (countTick (clearPort (closeTick s)))).scenario]
  have h4 : (clearPort (closeTick s)).scenario.entries = (closeTick s).scenario.entries := by rw [(clearPort_moves (closeTick s)).scenario]
  have h5 : (closeTick s).scenario.entries = s.scenario.entries := (closeTick_fire s).scenario_entries
  rw [h1, h2, countTick_scenario_entries, h4, h5]

theorem judged_tx_replies (s : State) : s.judged.tx.replies = s.tx.replies := by
  have h1 : s.judged.tx.replies = (judge (countTick (clearPort (closeTick s)))).tx.replies := by unfold State.judged; rw [(tracksTick_moves (judge (countTick (clearPort (closeTick s))))).tx_replies]
  have h2 : (judge (countTick (clearPort (closeTick s)))).tx.replies = (countTick (clearPort (closeTick s))).tx.replies := (judge_moves (countTick (clearPort (closeTick s)))).tx_replies
  have h4 : (clearPort (closeTick s)).tx.replies = (closeTick s).tx.replies := by rw [(clearPort_moves (closeTick s)).tx]
  have h5 : (closeTick s).tx.replies = s.tx.replies := (closeTick_fire s).tx_replies
  rw [h1, h2, countTick_tx_replies, h4, h5]

theorem judged_tx_line (s : State) : s.judged.tx.line = s.tx.line := by
  have h1 : s.judged.tx.line = (judge (countTick (clearPort (closeTick s)))).tx.line := by unfold State.judged; rw [(tracksTick_moves (judge (countTick (clearPort (closeTick s))))).tx_line]
  have h2 : (judge (countTick (clearPort (closeTick s)))).tx.line = (countTick (clearPort (closeTick s))).tx.line := (judge_moves (countTick (clearPort (closeTick s)))).tx_line
  have h4 : (clearPort (closeTick s)).tx.line = (closeTick s).tx.line := by rw [(clearPort_moves (closeTick s)).tx]
  have h5 : (closeTick s).tx.line = s.tx.line := (closeTick_fire s).tx_line
  rw [h1, h2, countTick_tx_line, h4, h5]

theorem judged_tx_lineCounts (s : State) : s.judged.tx.lineCounts = s.tx.lineCounts := by
  have h1 : s.judged.tx.lineCounts = (judge (countTick (clearPort (closeTick s)))).tx.lineCounts := by unfold State.judged; rw [(tracksTick_moves (judge (countTick (clearPort (closeTick s))))).tx_lineCounts]
  have h2 : (judge (countTick (clearPort (closeTick s)))).tx.lineCounts = (countTick (clearPort (closeTick s))).tx.lineCounts := (judge_moves (countTick (clearPort (closeTick s)))).tx_lineCounts
  have h4 : (clearPort (closeTick s)).tx.lineCounts = (closeTick s).tx.lineCounts := by rw [(clearPort_moves (closeTick s)).tx]
  have h5 : (closeTick s).tx.lineCounts = s.tx.lineCounts := (closeTick_fire s).tx_lineCounts
  rw [h1, h2, countTick_tx_lineCounts, h4, h5]

theorem judged_ingress_held (s : State) : s.judged.ingress.held = s.ingress.held := by
  have h1 : s.judged.ingress.held = (judge (countTick (clearPort (closeTick s)))).ingress.held := by unfold State.judged; rw [(tracksTick_moves (judge (countTick (clearPort (closeTick s))))).ingress]
  have h2 : (judge (countTick (clearPort (closeTick s)))).ingress.held = (countTick (clearPort (closeTick s))).ingress.held := (judge_moves (countTick (clearPort (closeTick s)))).ingress_held
  have h4 : (clearPort (closeTick s)).ingress.held = (closeTick s).ingress.held := by rw [(clearPort_moves (closeTick s)).ingress]
  have h5 : (closeTick s).ingress.held = s.ingress.held := by rw [(closeTick_fire s).ingress]
  rw [h1, h2, countTick_ingress_held, h4, h5]

theorem judged_ingress_slotMap (s : State) : s.judged.ingress.slotMap = s.ingress.slotMap := by
  have h1 : s.judged.ingress.slotMap = (judge (countTick (clearPort (closeTick s)))).ingress.slotMap := by unfold State.judged; rw [(tracksTick_moves (judge (countTick (clearPort (closeTick s))))).ingress]
  have h2 : (judge (countTick (clearPort (closeTick s)))).ingress.slotMap = (countTick (clearPort (closeTick s))).ingress.slotMap := (judge_moves (countTick (clearPort (closeTick s)))).ingress_slotMap
  have h4 : (clearPort (closeTick s)).ingress.slotMap = (closeTick s).ingress.slotMap := by rw [(clearPort_moves (closeTick s)).ingress]
  have h5 : (closeTick s).ingress.slotMap = s.ingress.slotMap := by rw [(closeTick_fire s).ingress]
  rw [h1, h2, countTick_ingress_slotMap, h4, h5]

theorem judged_ingress_view0 (s : State) : s.judged.ingress.view0 = s.ingress.view0 := by
  have h1 : s.judged.ingress.view0 = (judge (countTick (clearPort (closeTick s)))).ingress.view0 := by unfold State.judged; rw [(tracksTick_moves (judge (countTick (clearPort (closeTick s))))).ingress]
  have h2 : (judge (countTick (clearPort (closeTick s)))).ingress.view0 = (countTick (clearPort (closeTick s))).ingress.view0 := (judge_moves (countTick (clearPort (closeTick s)))).ingress_view0
  have h4 : (clearPort (closeTick s)).ingress.view0 = (closeTick s).ingress.view0 := by rw [(clearPort_moves (closeTick s)).ingress]
  have h5 : (closeTick s).ingress.view0 = s.ingress.view0 := by rw [(closeTick_fire s).ingress]
  rw [h1, h2, countTick_ingress_view0, h4, h5]

theorem judged_ingress_view1 (s : State) : s.judged.ingress.view1 = s.ingress.view1 := by
  have h1 : s.judged.ingress.view1 = (judge (countTick (clearPort (closeTick s)))).ingress.view1 := by unfold State.judged; rw [(tracksTick_moves (judge (countTick (clearPort (closeTick s))))).ingress]
  have h2 : (judge (countTick (clearPort (closeTick s)))).ingress.view1 = (countTick (clearPort (closeTick s))).ingress.view1 := (judge_moves (countTick (clearPort (closeTick s)))).ingress_view1
  have h4 : (clearPort (closeTick s)).ingress.view1 = (closeTick s).ingress.view1 := by rw [(clearPort_moves (closeTick s)).ingress]
  have h5 : (closeTick s).ingress.view1 = s.ingress.view1 := by rw [(closeTick_fire s).ingress]
  rw [h1, h2, countTick_ingress_view1, h4, h5]

theorem judged_timer_heldTick (s : State) : s.judged.timer.heldTick = s.timer.heldTick := by
  have h1 : s.judged.timer.heldTick = (judge (countTick (clearPort (closeTick s)))).timer.heldTick := by unfold State.judged; rw [(tracksTick_moves (judge (countTick (clearPort (closeTick s))))).timer]
  have h2 : (judge (countTick (clearPort (closeTick s)))).timer.heldTick = (countTick (clearPort (closeTick s))).timer.heldTick := (judge_moves (countTick (clearPort (closeTick s)))).timer_heldTick
  have h4 : (clearPort (closeTick s)).timer.heldTick = (closeTick s).timer.heldTick := by rw [(clearPort_moves (closeTick s)).timer]
  have h5 : (closeTick s).timer.heldTick = s.timer.heldTick := by rw [(closeTick_fire s).timer]
  rw [h1, h2, countTick_timer_heldTick, h4, h5]

theorem judged_phase (s : State) : s.judged.phase = s.phase := by
  have h1 : s.judged.phase = (judge (countTick (clearPort (closeTick s)))).phase := by unfold State.judged; rw [(tracksTick_moves (judge (countTick (clearPort (closeTick s))))).phase]
  have h2 : (judge (countTick (clearPort (closeTick s)))).phase = (countTick (clearPort (closeTick s))).phase := (judge_moves (countTick (clearPort (closeTick s)))).phase
  have h4 : (clearPort (closeTick s)).phase = (closeTick s).phase := (clearPort_moves (closeTick s)).phase
  have h5 : (closeTick s).phase = s.phase := (closeTick_fire s).phase
  rw [h1, h2, countTick_phase, h4, h5]

theorem judged_pending (s : State) : s.judged.pending = s.pending := by
  have h1 : s.judged.pending = (judge (countTick (clearPort (closeTick s)))).pending := by unfold State.judged; rw [(tracksTick_moves (judge (countTick (clearPort (closeTick s))))).pending]
  have h2 : (judge (countTick (clearPort (closeTick s)))).pending = (countTick (clearPort (closeTick s))).pending := (judge_moves (countTick (clearPort (closeTick s)))).pending
  have h4 : (clearPort (closeTick s)).pending = (closeTick s).pending := (clearPort_moves (closeTick s)).pending
  have h5 : (closeTick s).pending = s.pending := (closeTick_fire s).pending
  rw [h1, h2, countTick_pending, h4, h5]

theorem judged_ticks (s : State) : s.judged.timer.ticks = s.timer.ticks + 1 := by
  have h := (tracksTick_moves (judge (countTick (clearPort (closeTick s))))).timer
  have h1 := (judge_moves (countTick (clearPort (closeTick s)))).timer_ticks
  have h2 := (clearPort_moves (closeTick s)).timer
  have h3 := (closeTick_fire s).timer
  unfold State.judged; rw [h, h1, countTick]; simp only []; rw [h2, h3]

/-- The reactions to a tick's values, before the slots meet it. -/
theorem deliverTick_eq (vs : TickValues) (s : State) :
    ∃ u, CaptureMoved (watchesTick vs (beginDelivery vs (takeValues vs s))) u ∧ deliverTick vs s = meetTick u :=
  ⟨_, capturesTick_moves _ _, rfl⟩

theorem tick_scenario (o : CountOrder) (s : State) : ScenarioMoved (tickCore s) (tick o s) := by
  cases o
  · exact scenarioTick_scenario _
  · exact ScenarioMoved.refl _

/-- What a tick leaves of the state its values are computed from. -/
theorem tick_reaches (o : CountOrder) (s : State) :
    ∃ u, CaptureMoved (watchesTick (tickValues s.judged) (beginDelivery (tickValues s.judged)
        (takeValues (tickValues s.judged) s.judged))) u ∧ ScenarioMoved (meetTick u) (tick o s) := by
  obtain ⟨u, hu, hd⟩ := deliverTick_eq (tickValues s.judged) s.judged
  refine ⟨u, hu, ?_⟩
  have := tick_scenario o s; rw [tickCore_eq, hd] at this; exact this

theorem tick_port (o : CountOrder) (s : State) :
    (tick o s).port = { s.judged.port with
        sending := some
          { safe := false, words := Vector.ofFn fun c => (tickValues s.judged)[c].out,
            designations := designationsOf (tickValues s.judged), sent := 0 }
        safeNext := none } := by
  obtain ⟨u, hu, ht⟩ := tick_reaches o s
  rw [ht.port, (meetTick_scenario u).port, hu.port]
  simp only [watchesTick, beginDelivery]; rw [(takeValues_moves _ _).port]

theorem tick_last (o : CountOrder) (s : State) :
    (tick o s).channels.last = Vector.ofFn fun c => (tickValues s.judged)[c].y.getD s.channels.last[c] := by
  obtain ⟨u, hu, ht⟩ := tick_reaches o s
  rw [ht.channels, (meetTick_scenario u).channels, hu.channels]
  simp only [watchesTick, beginDelivery]; rw [takeValues_last, judged_channels]

theorem tick_watch (o : CountOrder) (s : State) :
    (tick o s).watch = { s.judged.watch with
        watches := Vector.ofFn fun w => (s.judged.watchOf w).evaluate s.judged (tickValues s.judged) } := by
  obtain ⟨u, hu, ht⟩ := tick_reaches o s
  have h := takeValues_moves (tickValues s.judged) s.judged
  rw [ht.watch, (meetTick_scenario u).watch, hu.watch]
  have he : ∀ x : Watch, x.evaluate (beginDelivery (tickValues s.judged) (takeValues (tickValues s.judged) s.judged))
      (tickValues s.judged) = x.evaluate s.judged (tickValues s.judged) := by
    intro x; unfold Watch.evaluate
    have : (beginDelivery (tickValues s.judged) (takeValues (tickValues s.judged) s.judged)).enabled x.record.channel
        = s.judged.enabled x.record.channel := by
      unfold State.enabled beginDelivery; simp only []; rw [h.channels_records]
    rw [this]
  simp only [watchesTick]
  simp only [he]
  simp only [beginDelivery, State.watchOf, h.watch]

/-- What a tick neither judges, delivers nor counts stays. -/
theorem tick_keeps (o : CountOrder) (s : State) :
    (tick o s).ingress = s.judged.ingress ∧ (tick o s).timer = s.judged.timer
      ∧ (tick o s).channels.records = s.channels.records ∧ (tick o s).bank = s.bank ∧ (tick o s).setup = s.setup
      ∧ (tick o s).rx = s.rx ∧ (tick o s).safe = s.safe ∧ (tick o s).replay.mem = s.replay.mem
      ∧ (tick o s).scenario.blocks = s.scenario.blocks ∧ (tick o s).scenario.entries = s.scenario.entries
      ∧ (tick o s).tx.replies = s.tx.replies ∧ (tick o s).tx.line = s.tx.line
      ∧ (tick o s).tx.lineCounts = s.tx.lineCounts ∧ (tick o s).phase = s.phase ∧ (tick o s).pending = s.pending := by
  obtain ⟨u, hu, ht⟩ := tick_reaches o s
  have h := takeValues_moves (tickValues s.judged) s.judged
  have hm := meetTick_scenario u
  refine ⟨?_, ?_, ?_, ?_, ?_, ?_, ?_, ?_, ?_, ?_, ?_, ?_, ?_, ?_, ?_⟩
  · rw [ht.ingress, hm.ingress, hu.ingress]; simp only [watchesTick, beginDelivery]; rw [h.ingress]
  · rw [ht.timer, hm.timer, hu.timer]; simp only [watchesTick, beginDelivery]; rw [h.timer]
  · rw [ht.channels, hm.channels, hu.channels]; simp only [watchesTick, beginDelivery]
    rw [h.channels_records, judged_channels]
  · rw [ht.bank, hm.bank, hu.bank]; simp only [watchesTick, beginDelivery]; rw [h.bank, judged_bank]
  · rw [ht.setup, hm.setup, hu.setup]; simp only [watchesTick, beginDelivery]; rw [h.setup, judged_setup]
  · rw [ht.rx, hm.rx, hu.rx]; simp only [watchesTick, beginDelivery]; rw [h.rx, judged_rx]
  · rw [ht.safe, hm.safe, hu.safe]; simp only [watchesTick, beginDelivery]; rw [h.safe, judged_safe]
  · rw [ht.replay_mem, hm.replay_mem, hu.replay]; simp only [watchesTick, beginDelivery]; rw [h.replay, judged_replay_mem]
  · rw [ht.scenario_blocks, hm.scenario_blocks, hu.scenario]; simp only [watchesTick, beginDelivery]; rw [h.scenario, judged_scenario_blocks]
  · rw [ht.scenario_entries, hm.scenario_entries, hu.scenario]; simp only [watchesTick, beginDelivery]; rw [h.scenario, judged_scenario_entries]
  · rw [ht.tx_replies, hm.tx_replies, hu.tx_replies]; simp only [watchesTick, beginDelivery]; rw [h.tx_replies, judged_tx_replies]
  · rw [ht.tx_line, hm.tx_line, hu.tx_line]; simp only [watchesTick, beginDelivery]; rw [h.tx_line, judged_tx_line]
  · rw [ht.tx_lineCounts, hm.tx_lineCounts, hu.tx_lineCounts]; simp only [watchesTick, beginDelivery]; rw [h.tx_lineCounts, judged_tx_lineCounts]
  · rw [ht.phase, hm.phase, hu.phase]; simp only [watchesTick, beginDelivery]; rw [h.phase, judged_phase]
  · rw [ht.pending, hm.pending, hu.pending]; simp only [watchesTick, beginDelivery]; rw [h.pending, judged_pending]

theorem State.Settled.judged_own {s : State} (h : s.Settled) : s.judged.own = s.own := by
  unfold State.judged
  rw [(tracksTick_moves _).own, (judge_moves _).own, countTick]; simp only []
  rw [(clearPort_moves _).own, h.closeTick]

theorem State.Settled.judged_watch {s : State} (h : s.Settled) : s.judged.watch = s.watch := by
  unfold State.judged
  rw [(tracksTick_moves _).watch, (judge_moves _).watch, countTick]; simp only []
  rw [(clearPort_moves _).watch, h.closeTick]

theorem State.Settled.judged_capture {s : State} (h : s.Settled) : s.judged.capture = s.capture := by
  unfold State.judged
  rw [(tracksTick_moves _).capture, (judge_moves _).capture, countTick]; simp only []
  rw [(clearPort_moves _).capture, h.closeTick]

end Sys2Proof.Machine
end

