-- ==== Sys2Proof/Laws/Sample.lean ====
section
/-! SUPPORT. What the acceptance of a SAMPLE frame can do, and the commands that make a tick. -/

namespace Sys2Proof.Machine

/-! ### Acceptance -/

/-- Only the expected number, the held samples, the fresh marker, contexts, counters, flags, summary and the report request
have moved. -/
def AcceptMoved (s t : State) : Prop :=
  t = { s with
    rx := { s.rx with expected := t.rx.expected }
    ingress := { s.ingress with held := t.ingress.held, fresh := t.ingress.fresh }
    own := t.own
    events := t.events
    tx := { s.tx with report := t.tx.report } }

theorem AcceptMoved.refl (s : State) : AcceptMoved s s := rfl

theorem AcceptMoved.trans {s t u : State} (h : AcceptMoved s t) (k : AcceptMoved t u) : AcceptMoved s u := by
  unfold AcceptMoved at *; rw [k]; simp only; rw [h]

theorem EventsMoved.asAccept {s t : State} (h : EventsMoved s t) : AcceptMoved s t := by
  unfold EventsMoved at h; unfold AcceptMoved; rw [h]

theorem applyPatch_moves (p : PatchWord) (s : State) : AcceptMoved s (applyPatch p s) := by
  unfold applyPatch; split
  · split <;> rfl
  · rfl

theorem applyPatches_moves (ps : List PatchWord) (s : State) : AcceptMoved s (applyPatches ps s) :=
  foldl_moves AcceptMoved .refl (fun _ _ _ => .trans) _ (fun s p => applyPatch_moves p s) _ _

theorem countMissing_moves (d : Nat) (s : State) : EventsMoved s (countMissing d s) := by
  unfold countMissing; split
  · rfl
  · exact advance_moves _ _ _

theorem storeSamples_moves (f : SampleFrame) (s : State) : AcceptMoved s (storeSamples f s) := by
  unfold storeSamples; simp only; split
  · exact AcceptMoved.trans (t := { s with
      rx := { s.rx with expected := some (f.seq + 1) }
      ingress := { s.ingress with held := holdSamples s 0 f.samples s.ingress.held } }) rfl (advance_moves _ _ _).asAccept
  · rfl

theorem markFresh_moves (s : State) : AcceptMoved s (markFresh s) := by
  unfold markFresh; simp only; split
  · exact (advance_moves _ _ _).asAccept.trans rfl
  · rfl

theorem acceptSamples_moves (f : SampleFrame) (s : State) : AcceptMoved s (acceptSamples f s) :=
  ((storeSamples_moves f s).trans (applyPatches_moves f.patches _)).trans (markFresh_moves _)

theorem accepting_moves (f : SampleFrame) (s : State) : AcceptMoved s (s.accepting f) := by
  unfold State.accepting; split
  · exact (countMissing_moves _ _).asAccept.trans (acceptSamples_moves _ _)
  · exact acceptSamples_moves _ _

theorem AcceptMoved.setup {s t : State} (h : AcceptMoved s t) : t.setup = s.setup := by unfold AcceptMoved at h; rw [h]
theorem AcceptMoved.timer {s t : State} (h : AcceptMoved s t) : t.timer = s.timer := by unfold AcceptMoved at h; rw [h]
theorem AcceptMoved.ingress_flow {s t : State} (h : AcceptMoved s t) : t.ingress.flow = s.ingress.flow := by
  unfold AcceptMoved at h; rw [h]
theorem AcceptMoved.scenario {s t : State} (h : AcceptMoved s t) : t.scenario = s.scenario := by unfold AcceptMoved at h; rw [h]
theorem AcceptMoved.watch {s t : State} (h : AcceptMoved s t) : t.watch = s.watch := by unfold AcceptMoved at h; rw [h]
theorem AcceptMoved.channels {s t : State} (h : AcceptMoved s t) : t.channels = s.channels := by unfold AcceptMoved at h; rw [h]
theorem AcceptMoved.replay {s t : State} (h : AcceptMoved s t) : t.replay = s.replay := by unfold AcceptMoved at h; rw [h]
theorem AcceptMoved.capture {s t : State} (h : AcceptMoved s t) : t.capture = s.capture := by unfold AcceptMoved at h; rw [h]
theorem AcceptMoved.safe {s t : State} (h : AcceptMoved s t) : t.safe = s.safe := by unfold AcceptMoved at h; rw [h]

/-- Patch words read the contexts, the views and the Channel Records, and nothing else. -/
theorem applyPatches_own_congr (ps : List PatchWord) (s t : State) (ho : t.own = s.own) (h0 : t.ingress.view0 = s.ingress.view0)
    (h1 : t.ingress.view1 = s.ingress.view1) (hr : t.channels.records = s.channels.records) :
    (applyPatches ps t).own = (applyPatches ps s).own := by
  induction ps generalizing s t with
  | nil => exact ho
  | cons p ps ih =>
    have hc : patchChannelOf p t = patchChannelOf p s := by unfold patchChannelOf; rw [h0, h1]
    have hm := applyPatch_moves p s
    have hn := applyPatch_moves p t
    refine ih (applyPatch p s) (applyPatch p t) ?_ ?_ ?_ ?_
    · unfold applyPatch; rw [hc]; split
      · unfold State.enabled; rw [hr]; split
        · simp only [patchChannel, State.setOwn, ho]
        · exact ho
      · exact ho
    · rw [hn, hm]; exact h0
    · rw [hn, hm]; exact h1
    · rw [hn, hm]; exact hr

theorem markFresh_own (s : State) : (markFresh s).own = s.own := by
  unfold markFresh; simp only; split
  · exact (advance_moves _ _ _).own
  · rfl

theorem acceptSamples_own (f : SampleFrame) (s : State) : (acceptSamples f s).own = (applyPatches f.patches s).own := by
  unfold acceptSamples; rw [markFresh_own]
  unfold storeSamples; simp only
  split
  · refine applyPatches_own_congr _ _ _ ?_ ?_ ?_ ?_ <;> rw [advance_moves]
  · exact applyPatches_own_congr _ _ _ rfl rfl rfl rfl

theorem accepting_own (f : SampleFrame) (s : State) : (s.accepting f).own = (applyPatches f.patches s).own := by
  unfold State.accepting; split
  · rw [acceptSamples_own]
    refine applyPatches_own_congr _ _ _ ?_ ?_ ?_ ?_ <;> rw [countMissing_moves]
  · exact acceptSamples_own _ _

/-! ### The commands that make a tick -/

/-- An accepted frame goes to the tick it asks for (R15, R16). -/
theorem takeSample_accepts {us : Nat} {o : CountOrder} {f : SampleFrame} {s : State}
    (h : ∀ e, s.rx.expected = some e → (f.seq - e).toNat ≤ 32767) :
    takeSample us o f s = askTick us o (s.accepting f) := by
  unfold takeSample State.accepting State.ahead?
  cases he : s.rx.expected with
  | none => rfl
  | some e =>
    simp only [Option.map_some]
    rw [if_neg (by have := h e he; omega)]

/-- In PACED mode while LIVE, with no tick held, 5 µs or more after the previous tick, the frame's tick occurs at once (R25). -/
theorem askTick_now {us x : Nat} {o : CountOrder} {s : State} {y : FrameTimer} (h : s.setup.source = .paced ∧ s.ingress.flow = .live)
    (hh : s.timer.heldTick = false) (hu : 5 ≤ us) (hy : s.timer = y) (hx : s.setup.starve = x) :
    askTick us o s = tick o { s with timer := { y with starve := some x } } := by
  subst hy hx
  unfold askTick
  rw [if_pos h, if_neg (by rw [hh]; decide), if_pos (show Config.spacing ≤ us from hu)]

/-- A SAMPLE frame at the end mark is accepted or discarded as a whole (R15). -/
theorem execSampleFrame_taken {us : Nat} {o : CountOrder} {f : SampleFrame} {s : State} (h : s.taken? = some (.sample f)) :
    execSampleFrame us o s = .next (takeSample us o f s.toHunt) := by
  unfold execSampleFrame; rw [h]

/-- A command that makes a tick has the tick's state as its next state. -/
theorem State.TickStarts.exec {s s0 : State} {c : Instr} {o : CountOrder} (h : s.TickStarts c o s0) :
    Machine.exec c s = .next (tick o s0) := by
  obtain ⟨hp, ⟨rfl, hi, rfl⟩ | ⟨rfl, hh, rfl⟩ | ⟨us, f, rfl, ht, hw, hs, hf, hh, hu, rfl⟩⟩ := h
  · exact congrArg _ (if_pos ⟨hp, hi⟩)
  · exact congrArg _ (if_pos ⟨hp, hh⟩)
  · have hm := accepting_moves f s.toHunt
    refine (execSampleFrame_taken ht).trans (congrArg _ ?_)
    refine (takeSample_accepts (s := s.toHunt) hw).trans
      (askTick_now ⟨?_, ?_⟩ ?_ hu hm.timer (congrArg Setup.starve hm.setup))
    · rw [hm.setup]; exact hs
    · rw [hm.ingress_flow]; exact hf
    · rw [hm.timer]; exact hh

/-- What stands in every field a tick reads and an acceptance leaves. -/
theorem State.TickStarts.keeps {s s0 : State} {c : Instr} {o : CountOrder} (h : s.TickStarts c o s0) :
    s0.setup = s.setup ∧ s0.channels = s.channels ∧ s0.scenario = s.scenario ∧ s0.watch = s.watch ∧ s0.replay = s.replay
      ∧ s0.capture = s.capture ∧ s0.safe = s.safe ∧ s0.timer.ticks = s.timer.ticks := by
  obtain ⟨-, ⟨rfl, -, rfl⟩ | ⟨rfl, -, rfl⟩ | ⟨us, f, rfl, -, -, -, -, -, -, rfl⟩⟩ := h
  · exact ⟨rfl, rfl, rfl, rfl, rfl, rfl, rfl, rfl⟩
  · exact ⟨rfl, rfl, rfl, rfl, rfl, rfl, rfl, rfl⟩
  · have hm := accepting_moves f s.toHunt
    exact ⟨hm.setup, hm.channels, hm.scenario, hm.watch, hm.replay, hm.capture, hm.safe, rfl⟩

end Sys2Proof.Machine
end

