-- ==== Sys2Proof/Tests/Slice0.lean ====
section
/-! SUPPORT. Tests of single steps, with expected values from the spec's tables and worked sequences, and for every statement with
hypotheses a state and operands that meet them. -/

set_option Elab.async false

namespace Sys2Proof.Tests

open Sys2Proof Sys2Proof.Machine

/-! ### Building small states -/

/-- The words of `content` and their check word stand in the frame buffer, in FRAME. -/
def framed (content : List Word) (s : State) : State :=
  { s with rx := { s.rx with framing := .frame, buffer := content ++ [crc16 content] } }

/-- A request with tag 9. -/
def req (code object index count : Nat) (data : List Int) : Request :=
  ⟨9, code, object, index, count, data.map (BitVec.ofInt 16)⟩

/-- The MANAGE frame of `r` stands in the frame buffer. -/
def asked (r : Request) (s : State) : State := framed r.content s

/-- The SAMPLE frame `f` stands in the frame buffer. -/
def sampled (f : SampleFrame) (s : State) : State := framed f.content s

/-- The state a command leaves, the state itself where it stops. -/
def doing (c : Instr) (s : State) : State :=
  match exec c s with
  | .next t => t
  | _ => s

/-- Status and data of the last reply in the queue. -/
def lastReply (s : State) : Option (Status × List Word) := s.tx.replies.getLast?.map fun r => (r.status, r.data)

/-- A Channel Record from CODE with full limits, enabled. -/
def onCode (v : Word) : ChannelRecord :=
  { ChannelRecord.initial with enabled := true, source := .code, insert := v }

/-- An enabled Channel Record from LIVE. -/
def onLive (p : StarvePolicy) : ChannelRecord := { ChannelRecord.initial with enabled := true, starve := p }

/-- Channel `c` has record `r`. -/
def chan (c : Chan) (r : ChannelRecord) (s : State) : State :=
  { s with channels := { s.channels with records := s.channels.records.set c r } }

/-- Overlay Record `i` is `r`. -/
def bankAt (i : Fin 256) (r : OverlayRecord) (s : State) : State := { s with bank := s.bank.set i r }

/-- Block `b` has the words `ws`, and the Episode Store has the entries `es` from entry 0. -/
def stored (b : Nat) (ws es : List Word) (s : State) : State :=
  { s with scenario := { s.scenario with
      blocks := Mem.writeAll s.scenario.blocks (5 * b) ws, entries := Mem.writeAll s.scenario.entries 0 es } }

/-- A base context with the record `r` and F and gap held value 0. -/
def standing (r : OverlayRecord) : Context := { Context.standing 0 with fields := r }

/-- A slot context of slot `n`. -/
def slotContext (n : SlotNo) (p : Int) (r : OverlayRecord) : Context :=
  { Context.standing 0 with fields := r, owner := some n, priority := p }

/-- The latched block of a slot on channel `c`. -/
def latch (c : Chan) (p : Nat) : Block := { Block.zero with target := c, priority := p, listCount := 1, passes := 1 }

/-- A slot in state `st` with the latched block `b`. -/
def slotIn (st : SlotState) (b : Block) : Slot :=
  { Slot.idle with state := st, latch := b, entriesLeft := b.listCount, passesLeft := b.passes, ticksLeft := 5 }

/-- The next tick by the Frame Timer, counted at once. -/
def tick1 : Instr := .frameTimerExpiry .countFirst

/-! ### Well-formedness: each check refuses -/

theorem test_wellFormed_refuses_track : (Instr.trackSpanEnd 8).wellFormed = false := by decide
theorem test_wellFormed_refuses_watch : (Instr.watchFire 8).wellFormed = false := by decide
theorem test_wellFormed_refuses_delay_slot : (Instr.slotDelayExpiry 8).wellFormed = false := by decide
theorem test_wellFormed_refuses_entry_slot : (Instr.entryDurationExpiry 8).wellFormed = false := by decide
theorem test_wellFormed_refuses_due_set : (Instr.captureRecordDue 2).wellFormed = false := by decide
theorem test_wellFormed_refuses_length_set : (Instr.captureLengthReached 2).wellFormed = false := by decide

/-- An event of an object that does not exist faults. -/
theorem test_absent_track_faults : (match exec (.trackSpanEnd 8) State.reset with | .fault _ => true | _ => false) = true := by
  decide +kernel

/-! ### The queue -/

theorem test_idle_queue_stays : step State.reset = .next State.reset := rfl

/-! ### The line and the frames (chapters 1 and 12) -/

/-- 98, The check word: the worked FILL frame is 12288, 6298. -/
theorem test_fill_check_word : crc16 [12288] = 6298#16 := by decide +kernel

/-- The same worked check: a word 0 leaves 7439. -/
theorem test_zero_word_check : crc16 [0] = 7439#16 := by decide +kernel

theorem test_fill_frame_taken : takeFrame [12288, 6298] = .fill := by decide +kernel

/-- R2: a wrong check word. -/
theorem test_wrong_check_word :
    (doing .frameRejected { State.reset with rx := { framing := .frame, buffer := [12288, 6299], expected := none } }).events.counters[ctrCrcErrors]
      = 1 := by decide +kernel

/-- R1: the 65th word of a frame. -/
theorem test_long_frame :
    (doing (.wordReceived 0) { State.reset with rx := { framing := .frame, buffer := List.replicate 64 0, expected := none } }).events.counters[ctrBadFrames]
      = 1 := by decide +kernel

/-- R6: a request that meets a full reply queue. -/
theorem test_dropped_request :
    (doing .readHits (asked (req 23 0 0 0 [])
      { State.reset with tx := { State.reset.tx with replies := List.replicate 4 ⟨0, .ok, []⟩ } })).events.counters[ctrReqDropped]
      = 1 := by decide +kernel

/-- R9 and R11 after power-on: the REPORT follows the IDLE frame of INIT, with START in its summary. -/
theorem test_report_after_init : (doing .upstreamFrameEnd State.reset).tx.line = some (.report 1 0) := by decide +kernel

/-! ### Sample frames and the tick (chapter 2) -/

/-- 2.1, worked sequence numbers: 503 after an expected 501 counts two missing. -/
theorem test_missing_numbers :
    (doing (.sampleFrame 100 .countFirst)
      (sampled ⟨503, [1], []⟩ { State.reset with rx := { State.reset.rx with expected := some 501 } })).events.counters[ctrSeqMissing]
      = 2 := by decide +kernel

/-- The same sequence: 501 after an expected 504 is behind the window. -/
theorem test_backward_number :
    (doing (.sampleFrame 100 .countFirst)
      (sampled ⟨501, [1], []⟩ { State.reset with rx := { State.reset.rx with expected := some 504 } })).events.counters[ctrSeqBackward]
      = 1 := by decide +kernel

/-- R22: bases 13 and 200 become 8 and 24. -/
theorem test_view_bases :
    lastReply (doing .setViews (asked (req 7 0 0 0 [13, 200]) State.reset)) = some (.ok, [8, 24]) := by decide +kernel

/-- R25: an arrival 3 µs after a tick is held. -/
theorem test_arrival_held :
    (doing (.sampleFrame 3 .countFirst)
      (sampled ⟨5, [1], []⟩ { State.reset with
        setup := { Setup.initial with source := .paced }, ingress := { Ingress.initial with flow := .live } })).timer.heldTick
      = true := by decide +kernel

/-! ### Channels and the value pipeline (chapters 3 and 4) -/

/-- 4, worked RAMP: 12345 with gain 5120, offset −300, drift 640 and trim 12 goes out as 15146. -/
theorem test_ramp_second_tick :
    ((doing tick1
      ((chan 5 { onCode 12345 with lo := BitVec.ofInt 16 (-20000), hi := 20000, trim := 12 } State.reset).setOwn 5
        { Ownership.initial with base :=
          { standing { OverlayRecord.initial with kind := .ramp, gain := 5120, offset := BitVec.ofInt 16 (-300), step := 640, limit := 4 } with
            drift := 640 } })).port.sending.map fun d => d.words[(5 : Chan)].value) = some 15146#16 := by decide +kernel

/-- 4, worked clamp: SCALE of 30000 by 4096 plus 3000 leaves L at 33000 and clips to 20000. -/
theorem test_scale_clips :
    let t := doing tick1
      ((chan 5 { onCode 30000 with lo := BitVec.ofInt 16 (-20000), hi := 20000, trim := 12 } State.reset).setOwn 5
        { Ownership.initial with base := standing { OverlayRecord.initial with kind := .scale, gain := 4096, offset := 3000 } })
    (t.port.sending.map fun d => d.words[(5 : Chan)].value) = some 20000#16 ∧ t.channels.last[(5 : Chan)] = 33000
      ∧ t.events.counters[ctrClips 5] = 1 := by decide +kernel

/-- R65, worked GAP: an off-phase delivers the gap held value. -/
theorem test_gap_off_phase :
    ((doing tick1
      ((chan 0 (onCode 120) State.reset).setOwn 0
        { Ownership.initial with base :=
          { standing { OverlayRecord.initial with kind := .gap, gapOn := 2, gapOff := 3 } with gapPhase := 2, gapHeld := some 110 } })).port.sending.map
      fun d => d.words[(0 : Chan)].value) = some 110#16 := by decide +kernel

/-- R66: −5 rounded down to a multiple of 4 is −8. -/
theorem test_coarse_rounds_down :
    transformOn (standing { OverlayRecord.initial with kind := .coarse, coarse := 2 }) 0 0 (BitVec.ofInt 16 (-5)) = -8 := by
  decide +kernel

/-- R42: the designation of a TO_PARTNER word follows it, with code 7 and the partner's number. -/
theorem test_partner_designation :
    ((doing tick1
      ((chan 9 (onCode 0) (chan 1 (onCode 5) State.reset)).setOwn 1
        { Ownership.initial with base := standing { OverlayRecord.initial with pin := .toPartner, partner := 9 } })).port.sending.map
      fun d => (d.strobes.drop 1).take 3)
      = some [⟨1, 4, 5⟩, ⟨1, 7, 9⟩, ⟨2, 1, 0⟩] := by decide +kernel

/-- R57: PATCH of the step answers the earlier step. -/
theorem test_patch_answers_old_value :
    lastReply (doing .patch (asked (req 6 5 0 3 [-640])
      ((chan 5 (onCode 0) State.reset).setOwn 5
        { Ownership.initial with base := standing { OverlayRecord.initial with kind := .ramp, step := 640 } })))
      = some (.ok, [255, 640]) := by decide +kernel

/-- R55: SET STANDING of a record whose partner is its own channel. -/
theorem test_standing_bad_partner :
    lastReply (doing .setStanding (asked (req 5 9 1 0 [])
      (bankAt 1 { OverlayRecord.initial with pin := .toPartner, partner := 9 } State.reset))) = some (.badPartner, []) := by
  decide +kernel

/-- R43: a disabled channel's word is its safe value, OPEN. -/
theorem test_channel_status_at_reset :
    lastReply (doing .channelStatus (asked (req 8 3 0 0 []) State.reset)) = some (.ok, [255, 65535, 0, 0, 0, 1]) := by
  decide +kernel

/-! ### Ownership and scenario slots (chapters 5 and 6) -/

/-- 6.8: an ON FIRE block arms and awaits. -/
def armedBlock : List Word := [word (6 * 2048 + 4 * 256 + 2 * 64 + 2 * 8 + 4), 3, 0, 1, word (2 * 256)]

theorem test_arm_on_fire :
    let t := doing .armSlot (asked (req 9 3 20 0 []) (stored 20 armedBlock [8, 5] (chan 6 (onCode 700) State.reset)))
    lastReply t = some (.ok, [1]) ∧ (t.slot 3).awaiting = true ∧ (t.slot 3).latch.watch = 2 := by decide +kernel

theorem test_arm_disabled_channel :
    lastReply (doing .armSlot (asked (req 9 3 20 0 []) (stored 20 armedBlock [8, 5] State.reset))) = some (.channelOff, []) := by
  decide +kernel

/-- A state in which slot 2 runs on C3 with priority 3 and slot 5 is armed for it with priority 6 and one tick of delay left. -/
def twoSlots : State :=
  ((((stored 0 [] [8, 10] (chan 3 (onCode 760) State.reset)).setOwn 3
      { Ownership.initial with active := some (slotContext 2 3 OverlayRecord.initial) }).setSlot 2
    (slotIn .running (latch 3 3))).setSlot 5
    { slotIn .armed (latch 3 6) with delayLeft := 1, counts := true })

/-- R79: the claim at the end of the delay pushes the lower context. -/
theorem test_delay_end_pushes :
    let t := doing (.slotDelayExpiry 5) twoSlots
    (t.slot 5).state = .running ∧ (t.slot 2).state = .suspended ∧ t.own[(3 : Chan)].stack.length = 1 := by decide +kernel

/-- R107: the abort of the owner releases the channel. -/
theorem test_abort_running :
    let t := doing .abortSlot (asked (req 10 2 0 0 []) twoSlots)
    lastReply t = some (.ok, [3]) ∧ t.own[(3 : Chan)].active = none := by decide +kernel

/-- R104: the last entry of the last pass ends the block. -/
theorem test_entry_end_is_block_end :
    let t := doing (.entryDurationExpiry 2) (twoSlots.setSlot 2 { slotIn .running (latch 3 3) with ticksLeft := 1, counts := true })
    (t.slot 2).state = .idle ∧ t.events.flags.getLsbD 5 = true := by decide +kernel

/-- R99: the count of a tick comes before its actions, so the entry of a slot that a claim of the same tick pushes ends all the same. -/
theorem test_pushed_slot_ends_on_the_stack :
    let t := doing (.slotDelayExpiry 5)
      (twoSlots.setSlot 2 { slotIn .running (latch 3 3) with ticksLeft := 1, counts := true })
    (t.slot 5).state = .running ∧ (t.slot 2).state = .idle ∧ t.own[(3 : Chan)].stack = [] ∧ t.events.flags.getLsbD 5 = true := by
  decide +kernel

/-- R80 and R110: a slot pushed before it has counted the tick, and resumed, has not the tick to count. -/
theorem test_push_drops_the_open_count :
    let s := (twoSlots.setSlot 2 { slotIn .running (latch 3 3) with counts := true }).setSlot 5
      { slotIn .armed { latch 3 6 with watch := 2 } with awaiting := true }
    let t := doing (.watchFire 2) (s.setWatch 2 { Watch.cleared WatchRecord.initial with fire := some 9 })
    (t.slot 5).state = .running
      ∧ (doing .abortSlot (asked (req 10 5 0 0 []) t)).slot 2 = { slotIn .running (latch 3 3) with counts := false } := by
  decide +kernel

theorem test_slot_summary :
    lastReply (doing .slotSummary (asked (req 13 0 0 0 []) twoSlots)) = some (.ok, [36, 0]) := by decide +kernel

theorem test_clear_faulted_slot :
    lastReply (doing .clearSlot (asked (req 11 5 0 0 [])
      (State.reset.setSlot 5 { Slot.idle with state := .faulted, block := 2, fault := .zeroDuration, entryAtFault := some 11 })))
      = some (.ok, [15, 2, 11]) := by decide +kernel

/-! ### Watches (chapter 7) -/

/-- 7, worked sequence: the third true tick of an ABOVE watch with persistence 3 fires. -/
def watching : State :=
  (chan 4 (onCode 1250) State.reset).setWatch 0
    { Watch.cleared { WatchRecord.initial with
        enabled := true, tap := .input, channel := 4, persistence := 3, t1 := 1000, store := .compareStore, report := true } with
      count := 2 }

theorem test_watch_fires : ((doing tick1 watching).watchOf 0).fire = some 1250#16 := by decide +kernel

theorem test_watch_fire_taken :
    let t := doing (.watchFire 0) (watching.setWatch 0 { watching.watchOf 0 with fire := some 1250 })
    (t.watchOf 0).lastValue = 1250 ∧ t.watch.hits = 1 ∧ t.events.counters[ctrFires 0] = 1 := by decide +kernel

/-! ### Replay (chapter 8) -/

/-- 8, worked STORED track: halfway from 1003 to 990 by four is 996, a half being rounded away from zero. -/
theorem test_interpolation : interpolate 1003 990 2 4 = 996#16 ∧ interpolate 1000 1003 2 4 = 1002#16 := by decide +kernel

/-- 8, worked FED track: a PARTIAL append. -/
def feeding : State :=
  State.reset.setTrack 3
    { Track.cleared { mode := .fed, loop := false, interpolate := true, base := 2000, size := 4, divider := 2 } with
      state := .playing, readPoint := 2002, writePoint := 2003, fill := 1 }

theorem test_append_wraps :
    let t := doing .appendTrack (asked (req 17 3 0 0 [130, 150, 170]) feeding)
    lastReply t = some (.ok, [3]) ∧ (t.track 3).writePoint = 2002 ∧ (t.track 3).fill = 4 ∧ Mem.read t.replay.mem 2001 = 170 := by
  decide +kernel

theorem test_track_status :
    lastReply (doing .trackStatus (asked (req 18 3 0 0 []) feeding)) = some (.ok, [1, 1, 0, 0, 2002, 2003, 0, 1, 0]) := by
  decide +kernel

/-! ### Capture (chapter 9) -/

/-- R143: a set without a start watch records at once. -/
theorem test_arm_capture :
    lastReply (doing .armCapture (asked (req 19 0 0 0 []) State.reset)) = some (.ok, [2]) := by decide +kernel

/-- A recording set of eight channels one record short of a full half, the other half FULL. -/
def nearlyFull : State :=
  { State.reset.setCapture 0
      { CaptureSet.cleared { CaptureRecord.initial with channels := 8 } with
        state := .recording
        halfA := { state := .full, firstTick := 1, firstSeq := 0, records := List.replicate 128 [] }
        halfB := { state := .filling, firstTick := 129, firstSeq := 128, records := List.replicate 127 [] }
        nextSeq := 255
        due := some [] } with
    tx := { State.reset.tx with drain := [⟨0, .a, 0⟩] } }

theorem test_overrun :
    (doing (.captureRecordDue 0) nearlyFull).capture[(0 : SetNo)].state = .overrun := by decide +kernel

/-! ### Management, counters, events, resets (chapters 10 to 12) -/

/-- R163: LOAD COUNTER answers the earlier value. -/
theorem test_load_counter :
    let t := doing .loadCounter (asked (req 25 0 3 0 [77]) State.reset)
    lastReply t = some (.ok, [0]) ∧ t.events.counters[ctrSeqBackward] = 77 := by decide +kernel

/-- R166 after power-on: the summary has START, the flags READY, and reading clears both. -/
theorem test_read_events :
    let t := doing .readEvents (asked (req 26 0 0 0 []) State.reset)
    lastReply t = some (.ok, [1, 1, 0, 0, 0, 0, 0, 0, 0]) ∧ t.events.flags = 0 ∧ t.tx.report = false := by decide +kernel

/-- R156: a period of 4 µs is stored as 5. -/
theorem test_setup_clamps_period :
    (doing .writeRecordSetup (asked (req 2 9 0 1 [0, 4, 2000, 8 * 256 + 4, 32, 0]) State.reset)).setup.period = 5 := by
  decide +kernel

/-- R18: two positions mapped to one channel. -/
theorem test_slotmap_duplicate :
    lastReply (doing .writeRecordSlotmap (asked (req 2 2 0 2 [5, 5]) State.reset)) = some (.duplicate, []) := by decide +kernel

theorem test_power_on : doing .initEnd (doing .initStart (doing .resetNAssert State.reset)) = State.reset := by decide +kernel

/-- R45: SAFE_N's assertion during a tick's delivery. -/
theorem test_safe_waits_for_the_delivery :
    let t := doing .safeNAssert (doing tick1 State.reset)
    t.port.safeNext.isSome = true ∧ t.safe.asserted = true ∧ t.events.flags.getLsbD 121 = true := by decide +kernel

/-- R123: a fire made under SAFE_N starts no slot armed after the release. -/
theorem test_fire_under_safe_starts_no_later_slot :
    let s := { State.reset with safe := { asserted := true, low := true } }
    let t := doing .safeNRelease (s.setWatch 2 { Watch.cleared WatchRecord.initial with fire := some 9 })
    (t.watchOf 2).fire = none ∧ t.watch.hits = 4 ∧ t.safe.asserted = false := by decide +kernel

/-! ### States and operands that meet the statements' hypotheses -/

/-- The request `r` stands at the end mark of the frame on `s`, with room for its reply. -/
theorem serves_of {s : State} {r : Request} (h : s.taken? = some (.manage r) ∧ s.tx.replies.length < 4) : s.serves r := h

/-- Nothing is left over from the latest tick on `s`. -/
theorem settled_of {s : State} (h : (∀ n : SlotNo, (s.slot n).counts = false) ∧ ∀ w : WatchNo, (s.watchOf w).fire = none) :
    s.Settled := h

/-- The Frame Timer makes a tick on `s`. -/
theorem timer_tick (o : CountOrder) {s : State} (h : s.phase = .running ∧ s.timer.interval.isSome = true) :
    ∃ s0, s.TickStarts (.frameTimerExpiry o) o s0 := ⟨_, h.1, .inl ⟨rfl, h.2, rfl⟩⟩

/-- The Frame Timer makes a tick on `s`, with nothing left over from the latest one. -/
theorem timer_tick_settled (o : CountOrder) {s : State} (h : s.phase = .running ∧ s.timer.interval.isSome = true)
    (hs : (∀ n : SlotNo, (s.slot n).counts = false) ∧ ∀ w : WatchNo, (s.watchOf w).fire = none) :
    ∃ s0, s.TickStarts (.frameTimerExpiry o) o s0 ∧ s0.Settled := ⟨_, ⟨h.1, .inl ⟨rfl, h.2, rfl⟩⟩, hs⟩

/-- A held arrival makes a tick on `s`. -/
theorem release_tick (o : CountOrder) {s : State} (h : s.phase = .running ∧ s.timer.heldTick = true) :
    ∃ s0, s.TickStarts (.heldTickRelease o) o s0 := ⟨_, h.1, .inr (.inl ⟨rfl, h.2, rfl⟩)⟩

/-- The state after reset with expected number 500. -/
def expecting (e : Word) : State := { State.reset with rx := { State.reset.rx with expected := some e } }

/-- A PACED state in LIVE. -/
def paced (held : Bool) : State :=
  { State.reset with
    setup := { Setup.initial with source := .paced }, ingress := { Ingress.initial with flow := .live }
    timer := { State.reset.timer with heldTick := held } }

/-- A state with `flow`, the fresh marker and both runs. -/
def flowing (src : TickSource) (f : Flow) (fresh : Bool) (stale freshRun : Nat) : State :=
  { State.reset with
    setup := { Setup.initial with source := src }
    ingress := { Ingress.initial with flow := f, fresh := fresh, staleRun := stale, freshRun := freshRun } }

/-- A state whose transmitter has the frame `f` on the line and these queues. -/
def sending (f : UpFrame) (counts : Bool) (replies : List Reply) (report : Bool) (drain : List DrainEntry) (s : State) :
    State :=
  { s with tx := { replies := replies, report := report, drain := drain, line := some f, lineCounts := counts } }

theorem met_CommandsStopOnlyOnAbsentObjects :
    ((Instr.trackSpanEnd 7).wellFormed = true ∧ (Instr.trackSpanEnd 8).wellFormed = false)
    ∧ requestCode? .readRecord ≠ none ∧ ∀ r, State.reset.taken? = some (.manage r) → ¬ rowTakes .readRecord r :=
  ⟨by decide, by decide, fun _ h => by rw [show State.reset.taken? = none from by decide] at h; cases h⟩

/-- The state after reset with the frame buffer in FRAME holding `n` words. -/
def buffered (n : Nat) : State :=
  { State.reset with rx := { framing := .frame, buffer := List.replicate n 0, expected := none } }

theorem met_LineSymbolsDelimitFrames :
    (State.reset.phase = .running ∧ State.reset.rx.framing = .hunt ∧ (List.replicate 63 (0 : Word)).length ≤ 63)
    ∧ ((buffered 63).phase = .running ∧ (buffered 63).rx.framing = .frame ∧ (buffered 63).rx.buffer.length < 64)
    ∧ 64 ≤ (buffered 64).rx.buffer.length ∧ (doing .initStart State.reset).phase ≠ .running := by decide +kernel

theorem met_EndMarkChecksTheFrame :
    ((buffered 1).phase = .running ∧ (buffered 1).rx.framing = .frame ∧ (buffered 1).rx.buffer.length < 2)
    ∧ (framed [12288] State.reset).rx.buffer = (12288 : Word) :: ([] ++ [(6298 : Word)])
    ∧ (6299 : Word) ≠ crc16 [12288] ∧ (6298 : Word) = crc16 [12288] := by decide +kernel

theorem met_EndMarkChecksTheFrame_header : goodHeader 12288 0 ∧ ¬ goodHeader 12288 1 ∧ ¬ goodHeader 0 0 := by
  unfold goodHeader; decide +kernel

theorem met_FramesIgnoredAnsweredOrDropped :
    (framed [12288] State.reset).taken? = some .fill
    ∧ (asked (req 0 0 0 0 []) State.reset).serves (req 0 0 0 0 []) ∧ (asked (req 28 0 0 0 []) State.reset).serves (req 28 0 0 0 [])
    ∧ rowTakes .readHits (req 23 0 0 0 [])
    ∧ (asked (req 23 0 0 0 []) (sending .idle false (List.replicate 4 ⟨0, .ok, []⟩) false [] State.reset)).taken?
      = some (.manage (req 23 0 0 0 [])) :=
  ⟨by decide +kernel, serves_of (by decide +kernel), serves_of (by decide +kernel), .inl rfl, by decide +kernel⟩

theorem met_DownstreamFramesRoundTrip :
    (⟨255, 255, 65535, 65535, 65535, List.replicate 32 65535⟩ : Request).Fits
    ∧ (1 ≤ (List.replicate 32 (0 : Word)).length ∧ (List.replicate 32 (0 : Word)).length ≤ 32)
    ∧ (List.replicate 4 (⟨true, 7, .step, 65535⟩ : PatchWord)).length ≤ 4
    ∧ (⟨255, .unknown, List.replicate 32 1⟩ : Reply).data.length ≤ 32
    ∧ (List.replicate 64 ([1] : List Word)).length ≤ 64 := by
  unfold Request.Fits; decide +kernel

/-- A set of one channel in state `st` whose half A holds two records and whose half B is in state `b`. -/
def setIn (st : CaptureState) (b : HalfState) : CaptureSet :=
  { CaptureSet.cleared CaptureRecord.initial with
    state := st
    halfA := { state := .full, firstTick := 1, firstSeq := 0, records := [[1], [2]] }
    halfB := { state := b, firstTick := 3, firstSeq := 2, records := [] } }

/-- The line ends a CAPTURE frame of `n` records of half A of K0, which is in state `st`, half B and a reply waiting behind it. -/
def draining (st : CaptureState) (b : HalfState) (n : Nat) : State :=
  sending (.capture 0 .a 0 1 1 (List.replicate n [1])) true [⟨1, .ok, []⟩] false [⟨0, .a, 0⟩, ⟨0, .b, 0⟩]
    ({ State.reset with events := { State.reset.events with flags := 0, summary := 0 } }.setCapture 0 (setIn st b))

theorem met_FrameEndChoosesTheNextFrame :
    (State.reset.tx.line = some .idle ∧ State.reset.tx.lineCounts = false ∧ State.reset.tx.replies = []
      ∧ State.reset.tx.report = true)
    ∧ (sending .idle false [⟨1, .ok, []⟩] true [] State.reset).tx.replies = [⟨1, .ok, []⟩]
    ∧ (sending .idle false [] false [⟨0, .a, 0⟩] State.reset).tx.drain = [⟨0, .a, 0⟩]
    ∧ (sending .idle false [] false [] State.reset).tx.drain = []
    ∧ ((draining .recording .filling 1).tx.lineCounts = true ∧ (draining .recording .filling 1).tx.replies = [⟨1, .ok, []⟩]
      ∧ (draining .recording .filling 1).tx.drain = ⟨0, .a, 0⟩ :: [⟨0, .b, 0⟩]
      ∧ 0 + (UpFrame.capture 0 .a 0 1 1 [[1]]).recordCount < ((draining .recording .filling 1).capture[(0 : SetNo)].half .a).records.length)
    ∧ ((draining .overrun .full 2).capture[(0 : SetNo)].state = .overrun
      ∧ ((draining .overrun .full 2).capture[(0 : SetNo)].half .a).records.length
        ≤ 0 + (UpFrame.capture 0 .a 0 1 1 [[1], [1]]).recordCount)
    ∧ (draining .recording .filling 2).capture[(0 : SetNo)].state = .recording
    ∧ ((draining .draining .full 2).capture[(0 : SetNo)].state = .draining
      ∧ ((draining .draining .full 2).capture[(0 : SetNo)].half HalfName.a.other).state = .full)
    ∧ ((draining .draining .vacant 2).capture[(0 : SetNo)].half HalfName.a.other).state ≠ .full
    ∧ (draining .draining .vacant 2).setup.masks.getLsbD 4 = false ∧ (draining .draining .vacant 2).events.summary = 0
    ∧ (draining .draining .vacant 2).setup.hold = false := by decide +kernel

theorem met_SampleFrameIsAcceptedByItsNumber :
    (sampled ⟨33268, [1], []⟩ (expecting 500)).taken? = some (.sample ⟨33268, [1], []⟩)
    ∧ (sampled ⟨33267, [1], []⟩ (expecting 500)).taken? = some (.sample ⟨33267, [1], []⟩)
    ∧ 32767 < ((33268 : Word) - 500).toNat ∧ ((33267 : Word) - 500).toNat ≤ 32767
    ∧ State.reset.setup.source = .lcl ∧ (flowing .paced .starved false 0 0).ingress.flow ≠ .live
    ∧ State.reset.ingress.slotMap[(31 : Fin 32)] = some 31 := by decide +kernel

/-- The Slot Map after reset maps position i to channel i. -/
theorem reset_map : ∀ i : Fin 32, State.reset.ingress.slotMap[i] = some i := by decide +kernel

theorem reset_map_distinct : State.reset.MapDistinct := fun i j c hi hj => by
  rw [reset_map] at hi hj; exact Option.some.inj (hi.trans hj.symm)

theorem met_SampleFrameIsAcceptedByItsNumber_map : (expecting 500).MapDistinct := reset_map_distinct

theorem met_PatchWordsAndViews :
    (31 = 24 + (7 : Fin 8).val ∧ State.reset.enabled 31 = false ∧ (chan 31 (onCode 0) State.reset).enabled 31 = true)
    ∧ (asked (req 7 0 0 0 [13, 200]) State.reset).serves (req 7 0 0 0 [13, 200])
    ∧ (asked (req 7 0 0 0 [13]) State.reset).serves (req 7 0 0 0 [13]) :=
  ⟨by decide +kernel, serves_of (by decide +kernel), serves_of (by decide +kernel)⟩

theorem met_PacedFramesMakeOrHoldATick :
    (sampled ⟨5, [1], []⟩ (paced false)).taken? = some (.sample ⟨5, [1], []⟩)
    ∧ (sampled ⟨5, [1], []⟩ (paced true)).taken? = some (.sample ⟨5, [1], []⟩)
    ∧ (paced false).rx.expected = none ∧ (paced false).setup.source = .paced ∧ (paced false).ingress.flow = .live
    ∧ (paced true).timer.heldTick = true ∧ (paced false).timer.heldTick = false
    ∧ (paced false).ingress.slotMap[(31 : Fin 32)] = some 31 ∧ (4 : Nat) < 5 := by decide +kernel

/-- An accepted frame makes the tick of a paced state. -/
theorem frame_tick (o : CountOrder) : ∃ s0, (sampled ⟨5, [1], []⟩ (paced false)).TickStarts (.sampleFrame 5 o) o s0 := by
  have h : (sampled ⟨5, [1], []⟩ (paced false)).taken? = some (.sample ⟨5, [1], []⟩) := by decide +kernel
  have hw : ∀ e : Word, (sampled ⟨5, [1], []⟩ (paced false)).rx.expected = some e → ((5 : Word) - e).toNat ≤ 32767 :=
    fun e he => by cases he
  exact ⟨_, rfl, .inr (.inr ⟨5, ⟨5, [1], []⟩, rfl, h, hw, rfl, rfl, rfl, by decide, rfl⟩)⟩

/-- SAFE_N is asserted. -/
def underSafe (s : State) : State := { s with safe := { asserted := true, low := true } }

theorem met_TickDeliversAWordPerChannel :
    (∃ s0, State.reset.TickStarts tick1 .countFirst s0)
    ∧ (∃ s0, (paced true).TickStarts (.heldTickRelease .eventsFirst) .eventsFirst s0)
    ∧ (∃ s0, (sampled ⟨5, [1], []⟩ (paced false)).TickStarts (.sampleFrame 5 .countFirst) .countFirst s0)
    ∧ State.reset.setup.source = .lcl
    ∧ State.reset.enabled 0 = false ∧ (chan 0 (onCode 0) State.reset).enabled 0 = true
    ∧ (underSafe (chan 0 (onCode 0) State.reset)).safe.asserted = true :=
  ⟨timer_tick _ (by decide +kernel), release_tick _ (by decide +kernel), frame_tick _, by decide +kernel, by decide +kernel,
   by decide +kernel, by decide +kernel⟩

theorem met_TickDeliversAWordPerChannel_legal : State.reset.channels.records[(0 : Chan)].Legal := by
  unfold ChannelRecord.Legal; decide +kernel

/-- A channel owned by slot 2 with a stack of `n` contexts below it. -/
def stacked (n : Nat) : State :=
  twoSlots.setOwn 3
    { Ownership.initial with
      active := some (slotContext 2 5 OverlayRecord.initial), stack := List.replicate n (slotContext 4 1 OverlayRecord.initial) }

theorem met_TickRunsEachPipeline :
    (∃ s0, (chan 0 (onCode 7) State.reset).TickStarts tick1 .countFirst s0 ∧ s0.Settled)
    ∧ ∀ n : SlotNo, ((chan 0 (onCode 7) State.reset).slot n).state = .idle :=
  ⟨timer_tick_settled _ (by decide +kernel) (by decide +kernel), by decide +kernel⟩

theorem met_TickRunsEachPipeline_sources :
    ((chan 0 (onCode 7) State.reset).enabled 0 = true ∧ (chan 0 (onCode 7) State.reset).safe.asserted = false)
    ∧ (doing tick1 (flowing .lcl .live false 0 0)).ingress.flow = .live ∧ (doing tick1 State.reset).ingress.flow ≠ .live
    ∧ (onLive .hold).source = .live ∧ (onLive .code).starve = .code ∧ (onLive .safe).starve = .safe
    ∧ (underSafe State.reset).safe.asserted = true ∧ (stacked 1).own[(3 : Chan)].active.isSome = true
    ∧ { onCode 0 with source := .track 7 }.source = .track 7 := by decide +kernel

theorem met_TickJudgesTheFlow :
    (∃ s0, (flowing .lcl .live true 0 0).TickStarts tick1 .countFirst s0
      ∧ s0.ingress.flow = .live ∧ s0.ingress.fresh = true)
    ∧ (∃ s0, (flowing .lcl .live false 7 0).TickStarts tick1 .countFirst s0
      ∧ s0.ingress.fresh = false ∧ s0.setup.staleLimit ≤ s0.ingress.staleRun + 1)
    ∧ (∃ s0, (flowing .lcl .live false 6 0).TickStarts tick1 .countFirst s0
      ∧ s0.ingress.staleRun + 1 < s0.setup.staleLimit)
    ∧ (∃ s0, (paced true).TickStarts (.heldTickRelease .countFirst) .countFirst s0 ∧ s0.setup.source = .paced)
    ∧ (∃ s0, (flowing .paced .recovering true 0 3).TickStarts tick1 .countFirst s0
      ∧ s0.setup.recovery ≤ s0.ingress.freshRun + 1)
    ∧ (∃ s0, (flowing .paced .starved true 0 2).TickStarts tick1 .countFirst s0
      ∧ s0.ingress.freshRun + 1 < s0.setup.recovery)
    ∧ (∃ s0, (flowing .lcl .waiting false 0 0).TickStarts tick1 .countFirst s0
      ∧ s0.ingress.flow ≠ .live ∧ s0.ingress.fresh = false) :=
  ⟨⟨_, ⟨rfl, .inl ⟨rfl, rfl, rfl⟩⟩, by decide +kernel⟩, ⟨_, ⟨rfl, .inl ⟨rfl, rfl, rfl⟩⟩, by decide +kernel⟩,
   ⟨_, ⟨rfl, .inl ⟨rfl, rfl, rfl⟩⟩, by decide +kernel⟩, ⟨_, ⟨rfl, .inr (.inl ⟨rfl, rfl, rfl⟩)⟩, by decide +kernel⟩,
   ⟨_, ⟨rfl, .inl ⟨rfl, rfl, rfl⟩⟩, by decide +kernel⟩, ⟨_, ⟨rfl, .inl ⟨rfl, rfl, rfl⟩⟩, by decide +kernel⟩,
   ⟨_, ⟨rfl, .inl ⟨rfl, rfl, rfl⟩⟩, by decide +kernel⟩⟩

/-- The tick being taken has reached a change of flow. -/
def due (src : TickSource) (d : FlowChange) : State :=
  { State.reset with
    setup := { Setup.initial with source := src }, ingress := { Ingress.initial with flowDue := some d, flow := .live }
    timer := { State.reset.timer with starve := some 2000 } }

theorem met_FlowChangesAct :
    ((due .lcl .toLive).ingress.flowDue = some .toLive ∧ (due .lcl .toLive).setup.source = .lcl)
    ∧ (due .paced .toLive).setup.source = .paced ∧ (due .lcl .toStarved).ingress.flowDue = some .toStarved
    ∧ (due .paced .toLive).timer.starve.isSome = true ∧ (due .paced .toLive).ingress.flow = .live := by decide +kernel

theorem met_LatchStrobeAppliesTheWords :
    ((doing tick1 State.reset).port.sending.map fun d => d.safe) = some false
    ∧ ((doing .safeNAssert State.reset).port.sending.map fun d => d.safe) = some true := by decide +kernel

/-- A context of kind `k` on the defaults. -/
def ofKind (k : OverlayKind) : Context := standing { OverlayRecord.initial with kind := k }

theorem met_ScaleTransform :
    (ofKind .scale).fields.kind = .scale ∧ (ofKind .scale).fields.gain = 4096#16 ∧ (ofKind .scale).fields.offset = 0
    ∧ { (ofKind .scale).fields with gain := 0 }.gain = 0 := by decide +kernel

theorem met_CoarseTransform :
    (ofKind .coarse).fields.kind = .coarse ∧ 1 ≤ (ofKind .coarse).fields.coarse
    ∧ { (ofKind .coarse).fields with coarse := 12 }.coarse ≤ 12 := by decide +kernel

theorem met_TransformAndAdvanceByKind :
    (ofKind .ramp).Legal ∧ { ofKind .gap with gapPhase := 1 }.Legal ∧ transformRange (-327671) ∧ transformRange 327678
    ∧ ((ofKind .ramp).fields.duty.getLsbD 0 = true ∧ ({ (ofKind .ramp).fields with duty := 0 }.duty).getLsbD 0 = false)
    ∧ (ofKind .freeze).freeze = some 0 ∧ (ofKind .gap).gapPhase < (ofKind .gap).fields.gapOn
    ∧ (ofKind .gap).fields.gapOn ≤ { ofKind .gap with gapPhase := 1 }.gapPhase ∧ (ofKind .gap).gapHeld = some 0 := by
  unfold Context.Legal OverlayRecord.Legal transformRange; decide +kernel

theorem met_SetStandingAndPatchReachContexts :
    (asked (req 5 32 0 0 []) State.reset).serves (req 5 32 0 0 []) ∧ (asked (req 5 31 255 0 []) State.reset).serves (req 5 31 255 0 [])
    ∧ (asked (req 5 31 255 0 []) (underSafe State.reset)).serves (req 5 31 255 0 [])
    ∧ ((bankAt 255 { OverlayRecord.initial with pin := .toPartner, partner := 31 } State.reset).bank[(255 : Fin 256)].pin = .toPartner
      ∧ ¬ (State.reset.bank[(255 : Fin 256)].pin = .toPartner))
    ∧ (asked (req 6 32 0 0 []) State.reset).serves (req 6 32 0 0 []) ∧ (asked (req 6 31 0 3 []) State.reset).serves (req 6 31 0 3 [])
    ∧ (asked (req 6 31 0 4 [5]) State.reset).serves (req 6 31 0 4 [5])
    ∧ (asked (req 6 31 0 3 [5]) (chan 31 (onCode 0) State.reset)).serves (req 6 31 0 3 [5])
    ∧ (asked (req 6 31 0 0 [5]) State.reset).enabled 31 = false :=
  ⟨serves_of (by decide +kernel), serves_of (by decide +kernel), serves_of (by decide +kernel), by decide +kernel,
   serves_of (by decide +kernel), serves_of (by decide +kernel), serves_of (by decide +kernel), serves_of (by decide +kernel),
   by decide +kernel⟩

theorem met_ClaimTakesPushesOrWaits :
    ((twoSlots.entry 0).duration ≠ 0 ∧ ¬ (twoSlots.bank[(twoSlots.entry 0).overlay].pin = .toPartner))
    ∧ (twoSlots.slot 5).latch.target = 3 ∧ State.reset.own[(3 : Chan)].active = none
    ∧ ((twoSlots.own[(3 : Chan)].active.map Context.owner) = some (some 2)
      ∧ (twoSlots.own[(3 : Chan)].active.map Context.priority) = some 3 ∧ (3 : Int) < (twoSlots.slot 5).latch.priority)
    ∧ (stacked 3).own[(3 : Chan)].stack.length < 4 ∧ 4 ≤ (stacked 4).own[(3 : Chan)].stack.length
    ∧ (((twoSlots.slot 2).latch.priority : Int) ≤ 3)
    ∧ ((State.reset.entry 0).duration = 0 ∧ State.reset.own[(0 : Chan)].waiting = [] ∧ State.reset.own[(0 : Chan)].stack = [])
    ∧ (((stored 0 [] [8, 0] twoSlots).entry 0).duration = 0 ∧ (stored 0 [] [8, 0] twoSlots).own[(3 : Chan)].waiting = []) := by
  decide +kernel

/-- Slot 5 waits on C3, owned by slot 2 above the base context. -/
def waiting (p : Nat) : State :=
  (twoSlots.setSlot 5 (slotIn .waiting (latch 3 p))).setOwn 3
    { Ownership.initial with
      active := some (slotContext 2 3 OverlayRecord.initial), waiting := [{ slot := 5, priority := p }] }

/-- Slot 5 waits on C3 with priority 3 above the suspended slot 4, which slot 2 has displaced. -/
def waitingAbove (p : Nat) : State :=
  ((waiting p).setSlot 4 (slotIn .suspended (latch 3 2))).setOwn 3
    { (waiting p).own[(3 : Chan)] with stack := [slotContext 4 2 OverlayRecord.initial] }

theorem met_ReleaseResumesOrTakesOver :
    ((stacked 1).own[(3 : Chan)].waiting = [] ∧ (stacked 1).own[(3 : Chan)].stack = [slotContext 4 1 OverlayRecord.initial]
      ∧ (slotContext 4 1 OverlayRecord.initial).owner = some 4)
    ∧ (stacked 0).own[(3 : Chan)].stack = []
    ∧ (waiting 3).own[(3 : Chan)].waiting = [{ slot := 5, priority := 3 }]
    ∧ ((waiting 3).entry ((waiting 3).slot 5).entryIndex).duration ≠ 0
    ∧ ((stored 0 [] [8, 0] (waiting 3)).entry ((waiting 3).slot 5).entryIndex).duration = 0
    ∧ (waitingAbove 3).own[(3 : Chan)].stack = [slotContext 4 2 OverlayRecord.initial]
    ∧ (waitingAbove 2).own[(3 : Chan)].stack = [slotContext 4 2 OverlayRecord.initial]
    ∧ (∀ w ∈ (waiting 3).own[(3 : Chan)].waiting, (w.priority : Int) ≤ (waiting 3).own[(3 : Chan)].current.priority) := by
  decide +kernel

/-- C3 with a full stack: slots 0 to 3 SUSPENDED with priorities 0 to 3, slot 4 RUNNING with 4, and slot 5 WAITING with 5. -/
def fullStack : State :=
  { State.reset with
    own := State.reset.own.set 3
      { Ownership.initial with
        active := some (slotContext 4 4 OverlayRecord.initial)
        stack := [slotContext 3 3 OverlayRecord.initial, slotContext 2 2 OverlayRecord.initial,
          slotContext 1 1 OverlayRecord.initial, slotContext 0 0 OverlayRecord.initial]
        waiting := [{ slot := 5, priority := 5 }] }
    scenario := { State.reset.scenario with
      slots := #v[slotIn .suspended (latch 3 0), slotIn .suspended (latch 3 1), slotIn .suspended (latch 3 2),
        slotIn .suspended (latch 3 3), slotIn .running (latch 3 4), slotIn .waiting (latch 3 5), Slot.idle, Slot.idle] } }

theorem met_ReleaseResumesOrTakesOver_withdrawal :
    ((fullStack.slot 2).state = .suspended ∧ (fullStack.slot 2).latch.target = 3
      ∧ fullStack.own[(3 : Chan)].active = some (slotContext 4 4 OverlayRecord.initial) ∧ (4 : Int) < (5 : Nat)
      ∧ fullStack.own[(3 : Chan)].waiting = [{ slot := 5, priority := 5 }])
    ∧ (fullStack.entry (fullStack.slot 5).entryIndex).duration = 0
    ∧ ((stored 0 [] [8, 5] fullStack).entry (fullStack.slot 5).entryIndex).duration ≠ 0
    ∧ (stored 0 [] [8, 5] fullStack).bank[((stored 0 [] [8, 5] fullStack).entry 0).overlay].pin ≠ .toPartner := by
  decide +kernel

/-- Block 127 on channel 6 with the first word `w1`, the delay `dl`, the list start `st` and the list count `n`. -/
def blockOn6 (w1 dl st n : Nat) (s : State) : State :=
  asked (req 9 7 127 0 []) (stored 127 [word (6 * 2048 + w1), word dl, word st, word n, 256] [8, 5] (chan 6 (onCode 0) s))

theorem met_ArmSlotChecksAndLatches :
    (asked (req 9 8 0 0 []) State.reset).serves (req 9 8 0 0 []) ∧ (asked (req 9 0 128 0 []) State.reset).serves (req 9 0 128 0 [])
    ∧ (blockOn6 0 0 0 1 (underSafe State.reset)).serves (req 9 7 127 0 [])
    ∧ ((blockOn6 0 0 0 1 (State.reset.setSlot 7 (slotIn .armed (latch 6 1)))).slot 7).state.busy = true
    ∧ ((blockOn6 0 0 0 1 (State.reset.setSlot 7 (slotIn .faulted (latch 6 1)))).slot 7).state = .faulted
    ∧ ((blockOn6 0 0 0 0 State.reset).block 127).listCount = 0
    ∧ 1024 < ((blockOn6 0 0 1023 2 State.reset).block 127).listStart + ((blockOn6 0 0 1023 2 State.reset).block 127).listCount
    ∧ (((blockOn6 0 0 1023 1 State.reset).block 127).listStart + ((blockOn6 0 0 1023 1 State.reset).block 127).listCount ≤ 1024
      ∧ (blockOn6 0 0 1023 1 State.reset).enabled ((blockOn6 0 0 1023 1 State.reset).block 127).target = true
      ∧ ((blockOn6 0 0 1023 1 State.reset).slot 7).state = .idle ∧ (blockOn6 0 0 1023 1 State.reset).enabled 5 = false)
    ∧ (((blockOn6 64 1 0 1 State.reset).block 127).start = .delay ∧ ((blockOn6 64 1 0 1 State.reset).block 127).delay = 1)
    ∧ ((blockOn6 128 0 0 1 State.reset).block 127).start = .onFire ∧ ((blockOn6 0 0 0 1 State.reset).block 127).start = .now
    ∧ (((blockOn6 64 0 0 1 State.reset).block 127).start = .delay ∧ ((blockOn6 64 0 0 1 State.reset).block 127).delay = 0) :=
  ⟨serves_of (by decide +kernel), serves_of (by decide +kernel), serves_of (by decide +kernel), by decide +kernel,
   by decide +kernel, by decide +kernel, by decide +kernel, by decide +kernel, by decide +kernel, by decide +kernel,
   by decide +kernel, by decide +kernel⟩

/-- Slot 7 is in state `st` for C3. -/
def slot7 (st : SlotState) : State := State.reset.setSlot 7 (slotIn st (latch 3 1))

theorem met_SlotRequestsEndOrClearSlots :
    (asked (req 10 8 0 0 []) State.reset).serves (req 10 8 0 0 []) ∧ (asked (req 10 7 0 0 []) (slot7 .running)).serves (req 10 7 0 0 [])
    ∧ (((slot7 .idle).slot 7).state = .idle ∧ ((slot7 .armed).slot 7).state = .armed ∧ ((slot7 .faulted).slot 7).state = .faulted
      ∧ ((slot7 .waiting).slot 7).state = .waiting ∧ ((slot7 .running).slot 7).state = .running
      ∧ ((slot7 .suspended).slot 7).state = .suspended ∧ (slot7 .suspended).own[(3 : Chan)].waiting = []
      ∧ (asked (req 10 2 0 0 []) fullStack).own[(3 : Chan)].waiting ≠ [])
    ∧ (asked (req 11 8 0 0 []) State.reset).serves (req 11 8 0 0 []) ∧ (asked (req 11 7 0 0 []) (slot7 .armed)).serves (req 11 7 0 0 [])
    ∧ ((slot7 .armed).slot 7).state.busy = true ∧ (asked (req 14 0 0 0 []) State.reset).serves (req 14 0 0 0 []) :=
  ⟨serves_of (by decide +kernel), serves_of (by decide +kernel), by decide +kernel, serves_of (by decide +kernel),
   serves_of (by decide +kernel), by decide +kernel, serves_of (by decide +kernel)⟩

/-- Slot 2 runs the last tick of its entry. -/
def lastTick : State := twoSlots.setSlot 2 { slotIn .running (latch 3 3) with ticksLeft := 1, counts := true }

theorem met_SlotCountsEndInActions :
    ((twoSlots.slot 5).counts = true ∧ (twoSlots.slot 5).state = .armed ∧ (twoSlots.slot 5).awaiting = false
      ∧ (twoSlots.slot 5).delayLeft = 1 ∧ ∀ m : SlotNo, m ≠ 5 → (twoSlots.slot m).counts = false)
    ∧ ((lastTick.slot 2).counts = true ∧ (lastTick.slot 2).state = .running ∧ (lastTick.slot 2).ticksLeft ≤ 1)
    ∧ (∀ m : SlotNo, m ≠ 2 → ((lastTick.setSlot 5 Slot.idle).slot m).counts = false)
    ∧ (let s := twoSlots.setSlot 2 { slotIn .running (latch 3 3) with counts := true }
       (s.slot 2).counts = true ∧ ¬ ((s.slot 2).ticksLeft ≤ 1) ∧ (s.slot 2).state ≠ .armed) := by decide +kernel

/-- Slot 2 runs entry 0 of C3 with these entries and passes left, in a block with `p` passes. -/
def entryOf2 (left p passes : Nat) : State :=
  twoSlots.setSlot 2 { slotIn .running { latch 3 3 with passes := p } with entriesLeft := left, passesLeft := passes }

theorem met_EntryEndFetchesOrEndsTheBlock :
    1 < ((entryOf2 2 1 1).slot 2).entriesLeft
    ∧ (((entryOf2 1 0 0).slot 2).entriesLeft ≤ 1 ∧ ((entryOf2 1 0 0).slot 2).latch.passes = 0)
    ∧ (((entryOf2 1 2 2).slot 2).latch.passes ≠ 0 ∧ 1 < ((entryOf2 1 2 2).slot 2).passesLeft)
    ∧ ((twoSlots.entry 0).duration ≠ 0 ∧ twoSlots.bank[(twoSlots.entry 0).overlay].pin ≠ .toPartner)
    ∧ ((entryOf2 2 1 1).entry 1).duration = 0
    ∧ (((entryOf2 1 1 1).slot 2).passesLeft ≤ 1 ∧ ((entryOf2 1 1 1).slot 2).latch.next = none
      ∧ (entryOf2 1 1 1).own[(3 : Chan)].active = some (slotContext 2 3 OverlayRecord.initial)
      ∧ (entryOf2 1 1 1).own[(3 : Chan)].stack = [] ∧ (entryOf2 1 1 1).own[(3 : Chan)].waiting = [])
    ∧ (({ latch 3 3 with next := some 127 } : Block).next = some 127 ∧ (State.reset.block 127).listCount = 0
      ∧ ((blockOn6 0 0 1023 1 State.reset).block 127).listCount ≠ 0
      ∧ (blockOn6 0 0 1023 1 State.reset).enabled ((blockOn6 0 0 1023 1 State.reset).block 127).target = true
      ∧ ((blockOn6 64 1 0 1 State.reset).block 127).start = .delay
      ∧ ((blockOn6 128 0 0 1 State.reset).block 127).start = .onFire
      ∧ ((blockOn6 0 0 0 1 State.reset).block 127).start = .now) := by decide +kernel

/-- A watch record in mode `m` with both thresholds `t`. -/
def watchIn (m : WatchMode) (t1 t2 : Word) : WatchRecord :=
  { WatchRecord.initial with enabled := true, mode := m, t1 := t1, t2 := t2, persistence := 3 }

theorem met_WatchConditionsByMode :
    ((watchIn .above 32767 0).mode = .above ∧ (watchIn .above 32767 0).t1 = 32767#16)
    ∧ ((watchIn .below 32768 0).mode = .below ∧ (watchIn .below 32768 0).t1 = 32768#16)
    ∧ ((watchIn .inside 32768 32767).t1 = 32768#16 ∧ (watchIn .inside 32768 32767).t2 = 32767#16)
    ∧ (watchIn .inside 5 5).t1 = (watchIn .inside 5 5).t2 ∧ (watchIn .outside 32768 32767).mode = .outside
    ∧ ((watchIn .pattern 0 0).mode = .pattern ∧ (watchIn .pattern 0 0).mask = 0) ∧ (watchIn .miss 0 0).mode = .miss := by
  decide +kernel

theorem met_WatchCountsAndFires :
    (watchIn .above 0 0).enabled = true ∧ WatchRecord.initial.enabled = false
    ∧ (State.reset.enabled (watchIn .above 0 0).channel = false
      ∧ (chan 0 (onCode 0) State.reset).enabled (watchIn .above 0 0).channel = true)
    ∧ conditionHolds (watchIn .above 0 0) 1 = true ∧ conditionHolds (watchIn .above 0 0) 0 = false
    ∧ ((if (1 : Nat) < (watchIn .above 0 0).persistence then 1 + 1 else 3) < (watchIn .above 0 0).persistence
      ∧ (if (2 : Nat) < (watchIn .above 0 0).persistence then 2 + 1 else 3) = (watchIn .above 0 0).persistence)
    ∧ (watchIn .above 0 0).rearm = .every ∧ { watchIn .above 0 0 with rearm := .oneShot }.rearm = .oneShot := by decide +kernel

theorem met_TickFeedsTheTaps : (∃ s0, watching.TickStarts tick1 .countFirst s0 ∧ s0.Settled) ∧ watching.enabled 4 = true :=
  ⟨timer_tick_settled _ (by decide +kernel) (by decide +kernel), by decide +kernel⟩

/-- W2 fires while slot 3 awaits it with a delay of 3, K0 awaits it to start and K1 to stop. -/
def firing : State :=
  (((State.reset.setWatch 2 { Watch.cleared { WatchRecord.initial with report := true } with fire := some 9 }).setSlot 3
      { slotIn .armed { latch 6 4 with watch := 2, delay := 3 } with awaiting := true }).setCapture 0
    { CaptureSet.cleared { CaptureRecord.initial with start := some 2 } with state := .armed }).setCapture 1
  { CaptureSet.cleared { CaptureRecord.initial with stop := some 2 } with
    state := .recording, halfA := { Half.cleared with state := .filling } }

theorem met_WatchFireReachesItsConsumers :
    (firing.phase = .running ∧ (firing.watchOf 2).fire = some 9 ∧ (firing.watchOf 2).record.report = true
      ∧ firing.setup.masks.getLsbD 5 = false)
    ∧ ((firing.slot 3).state = .armed ∧ (firing.slot 3).awaiting = true ∧ (firing.slot 3).latch.watch = 2
      ∧ (firing.slot 3).latch.delay ≠ 0)
    ∧ (firing.slot 0).state = .idle ∧ (firing.capture[(0 : SetNo)].state = .armed ∧ firing.capture[(0 : SetNo)].record.start = some 2)
    ∧ (firing.capture[(1 : SetNo)].state = .recording ∧ firing.capture[(1 : SetNo)].record.stop = some 2)
    ∧ (State.reset.capture[(0 : SetNo)].record.start ≠ some 2 ∧ State.reset.capture[(0 : SetNo)].record.stop ≠ some 2)
    ∧ (({ lastTick.slot 2 with endWatch := some 2 } : Slot).endWatch = some 2 ∧ (lastTick.slot 2).state = .running
      ∧ ∀ m : SlotNo, m ≠ 2 → (lastTick.slot m).hears 2 = false)
    ∧ (let s := firing.setSlot 3 { slotIn .armed { latch 6 4 with watch := 2 } with awaiting := true }
       (s.slot 3).latch.delay = 0 ∧ (s.slot 3).awaiting = true ∧ (s.slot 3).latch.watch = 2
         ∧ ∀ m : SlotNo, m ≠ 3 → (s.slot m).hears 2 = false) := by decide +kernel

theorem met_WatchCounterAndEventRequests :
    (asked (req 22 8 0 0 []) State.reset).serves (req 22 8 0 0 []) ∧ (asked (req 22 7 0 0 []) State.reset).serves (req 22 7 0 0 [])
    ∧ (asked (req 23 0 0 0 []) State.reset).serves (req 23 0 0 0 []) ∧ (asked (req 25 0 66 0 [1]) State.reset).serves (req 25 0 66 0 [1])
    ∧ (asked (req 25 0 65 0 []) State.reset).serves (req 25 0 65 0 []) ∧ (asked (req 25 0 65 0 [1]) State.reset).serves (req 25 0 65 0 [1])
    ∧ (asked (req 26 0 0 0 []) State.reset).serves (req 26 0 0 0 []) :=
  ⟨serves_of (by decide +kernel), serves_of (by decide +kernel), serves_of (by decide +kernel), serves_of (by decide +kernel),
   serves_of (by decide +kernel), serves_of (by decide +kernel), serves_of (by decide +kernel)⟩

/-- Track 7 with this mode, state, LOOP, playhead, phase and fill, in a region of 4 words with divider 2. -/
def trackIn (m : TrackMode) (st : TrackState) (loop : Bool) (head phase fill : Nat) : Track :=
  { desc := { mode := m, loop := loop, interpolate := true, base := 2000, size := 4, divider := 2 }
    state := st, playhead := head, phase := phase, readPoint := 2000, writePoint := 2000 + fill, fill := fill, presented := 0 }

theorem met_InterpolationRoundsHalfAway : (255 : Nat) < 256 ∧ (256 : Nat) ≤ 256 := by decide

theorem met_TickSettlesEachTrack :
    (trackIn .stored .playing false 3 1 0).Legal ∧ (trackIn .fed .playing false 0 1 2).Legal ∧ (trackIn .fed .underrun false 0 1 1).Legal
    ∧ (trackIn .fed .stopped false 0 0 0).Legal := by
  unfold Track.Legal TrackDescriptor.Legal; decide +kernel

theorem met_TickSettlesEachTrack_tick :
    ∃ s0, (State.reset.setTrack 7 (trackIn .stored .playing true 3 1 0)).TickStarts (.frameTimerExpiry .eventsFirst) .eventsFirst s0
      ∧ s0.Settled := timer_tick_settled _ (by decide +kernel) (by decide +kernel)

theorem met_TickSettlesEachTrack_span :
    ((trackIn .stored .playing false 3 1 0).phase + 1 = 2 ∧ 4 ≤ (trackIn .stored .playing false 3 1 0).playhead + 1)
    ∧ (trackIn .fed .playing false 0 1 2).phase + 1 = 2 ∧ (trackIn .fed .playing false 0 1 1).fill < 2
    ∧ State.reset.setup.masks.getLsbD 3 = false := by decide +kernel

theorem met_TracksPlayStopAndEndSpans :
    ((trackIn .stored .playing false 0 1 0).phase < 2 ∧ 2 ≤ (trackIn .stored .playing false 0 2 0).phase)
    ∧ ((trackIn .stored .playing false 2 2 0).playhead + 1 < 4 ∧ 4 ≤ (trackIn .stored .playing true 3 2 0).playhead + 1)
    ∧ (2 ≤ (trackIn .fed .playing false 0 2 2).fill ∧ (trackIn .fed .playing false 0 2 1).fill < 2)
    ∧ (asked (req 15 8 0 0 []) State.reset).serves (req 15 8 0 0 []) ∧ (asked (req 16 8 0 0 []) State.reset).serves (req 16 8 0 0 [])
    ∧ (asked (req 15 7 0 0 []) (underSafe State.reset)).serves (req 15 7 0 0 [])
    ∧ (asked (req 15 7 0 0 []) (State.reset.setTrack 7 (trackIn .fed .playing false 0 0 0))).serves (req 15 7 0 0 [])
    ∧ (asked (req 16 7 0 0 []) State.reset).serves (req 16 7 0 0 []) :=
  ⟨by decide +kernel, by decide +kernel, by decide +kernel, serves_of (by decide +kernel), serves_of (by decide +kernel),
   serves_of (by decide +kernel), serves_of (by decide +kernel), serves_of (by decide +kernel)⟩

theorem met_AppendFillsTheRing :
    (asked (req 17 8 0 0 []) State.reset).serves (req 17 8 0 0 []) ∧ (asked (req 17 7 0 1 [4]) State.reset).serves (req 17 7 0 1 [4])
    ∧ (asked (req 17 7 0 2 [4, 5]) (State.reset.setTrack 7 (trackIn .fed .underrun false 0 1 1))).serves (req 17 7 0 2 [4, 5])
    ∧ (State.reset.track 7).desc.mode = .stored ∧ Mem.Wf State.reset.replay.mem :=
  ⟨serves_of (by decide +kernel), serves_of (by decide +kernel), serves_of (by decide +kernel), by decide +kernel, by decide +kernel⟩

theorem met_ReplayMemoryReadsAndWrites :
    (asked (req 3 0 65535 2 []) State.reset).serves (req 3 0 65535 2 []) ∧ (asked (req 3 0 65503 33 []) State.reset).serves (req 3 0 65503 33 [])
    ∧ (asked (req 4 0 65535 0 [1, 2]) State.reset).serves (req 4 0 65535 0 [1, 2])
    ∧ (asked (req 4 0 65535 0 [1]) State.reset).serves (req 4 0 65535 0 [1]) ∧ Mem.Wf [(3, 5)] :=
  ⟨serves_of (by decide +kernel), serves_of (by decide +kernel), serves_of (by decide +kernel), serves_of (by decide +kernel),
   by decide +kernel⟩

/-- K1 in state `st` with these halves. -/
def set1 (st : CaptureState) (a b : Half) (r : CaptureRecord) : State :=
  State.reset.setCapture 1 { CaptureSet.cleared r with state := st, halfA := a, halfB := b, recordsDue := 3, due := some [4] }

/-- A half in state `h` with `n` records. -/
def half (h : HalfState) (n : Nat) : Half := { state := h, firstTick := 0, firstSeq := 0, records := List.replicate n [4] }

theorem met_CaptureRequestsArmAndStop :
    (asked (req 19 2 0 0 []) State.reset).serves (req 19 2 0 0 []) ∧ (asked (req 20 2 0 0 []) State.reset).serves (req 20 2 0 0 [])
    ∧ (asked (req 19 1 0 0 []) State.reset).serves (req 19 1 0 0 []) ∧ (asked (req 20 1 0 0 []) State.reset).serves (req 20 1 0 0 [])
    ∧ (State.reset.capture[(1 : SetNo)].state = .idle ∧ State.reset.capture[(1 : SetNo)].record.start = none
      ∧ { CaptureRecord.initial with start := some 7 }.start = some 7)
    ∧ ((set1 .recording (half .filling 1) (half .full 1) CaptureRecord.initial).capture[(1 : SetNo)].halfA.records ≠ []
      ∧ (set1 .recording (half .filling 0) (half .full 1) CaptureRecord.initial).capture[(1 : SetNo)].halfB.state = .full
      ∧ (set1 .recording (half .filling 0) (half .vacant 0) CaptureRecord.initial).capture[(1 : SetNo)].halfB.state = .vacant)
    ∧ (set1 .overrun (half .full 1) (half .full 1) CaptureRecord.initial).capture[(1 : SetNo)].state = .overrun :=
  ⟨serves_of (by decide +kernel), serves_of (by decide +kernel), serves_of (by decide +kernel), serves_of (by decide +kernel),
   by decide +kernel, by decide +kernel, by decide +kernel⟩

/-- Eight channels a record: a half holds 128. -/
def wide (n : Nat) : CaptureRecord := { CaptureRecord.initial with channels := 8, length := n }

theorem met_RecordDueAndLengthReached :
    State.reset.capture[(1 : SetNo)].due = none
    ∧ (set1 .overrun (half .full 128) (half .full 128) (wide 0)).capture[(1 : SetNo)].due = some [4]
    ∧ ((half .filling 126).records.length + 1 < 1024 / (wide 0).channels ∧ 1024 / (wide 0).channels ≤ (half .filling 127).records.length + 1)
    ∧ ((wide 4).length ≠ 0 ∧ (3 + 1 : Nat) = (wide 4).length)
    ∧ ((set1 .recording (half .filling 127) (half .vacant 0) (wide 0)).capture[(1 : SetNo)].half HalfName.a.other).state = .vacant
    ∧ ((set1 .recording (half .filling 127) (half .full 128) (wide 0)).capture[(1 : SetNo)].half HalfName.a.other).state = .full
    ∧ ((set1 .recording (half .filling 1) (half .vacant 0) (wide 3)).capture[(1 : SetNo)].recordsDue = 3
      ∧ (wide 3).length = 3 ∧ (wide 0).length = 0) := by decide +kernel

theorem met_TickTakesACaptureRecord :
    ∃ s0, ({ set1 .recording (half .filling 126) (half .vacant 0) (wide 0) with pending := [] }).TickStarts tick1 .countFirst s0
      ∧ s0.Settled := timer_tick_settled _ (by decide +kernel) (by decide +kernel)

theorem met_TickTakesACaptureRecord_set :
    (let x := { CaptureSet.cleared (wide 0) with state := .recording, halfA := half .filling 126, ticksToNext := 1 }
     x.record.length = 0 ∧ (x.half .a).state = .filling ∧ (x.half HalfName.a.other).state ≠ .filling ∧ x.due = none
     ∧ 0 < x.ticksToNext ∧ { x with ticksToNext := 0 }.ticksToNext = 0 ∧ x.record.tap = .output
     ∧ { x.record with tap := .input }.tap = .input
     ∧ (x.half .a).records.length + 1 < 1024 / x.record.channels)
    ∧ (let x := { CaptureSet.cleared (wide 0) with state := .recording, halfA := half .filling 127 }
       1024 / x.record.channels ≤ (x.half .a).records.length + 1 ∧ (x.half HalfName.a.other).state = .vacant
       ∧ ({ x with halfB := half .full 128 }.half HalfName.a.other).state = .full)
    ∧ (let x := { CaptureSet.cleared (wide 4) with recordsDue := 3 }
       ¬ (x.record.length ≠ 0 ∧ x.recordsDue = x.record.length) ∧ x.recordsDue + 1 = x.record.length)
    ∧ (let x := { CaptureSet.cleared (wide 0) with state := .overrun, halfA := half .full 128, halfB := half .full 128 }
       x.state = .overrun ∧ x.ticksToNext = 0 ∧ x.halfA.state = .full ∧ x.halfB.state = .full)
    ∧ State.reset.setup.masks.getLsbD 4 = false := by decide +kernel

theorem met_StatusRequestsAnswerAsThingsStand :
    (asked (req 12 7 0 0 []) State.reset).serves (req 12 7 0 0 []) ∧ (asked (req 12 8 0 0 []) State.reset).serves (req 12 8 0 0 [])
    ∧ (asked (req 13 0 0 0 []) State.reset).serves (req 13 0 0 0 []) ∧ (asked (req 18 7 0 0 []) State.reset).serves (req 18 7 0 0 [])
    ∧ (asked (req 18 8 0 0 []) State.reset).serves (req 18 8 0 0 []) ∧ (asked (req 24 0 66 0 []) State.reset).serves (req 24 0 66 0 [])
    ∧ (asked (req 24 0 65 1 []) State.reset).serves (req 24 0 65 1 []) ∧ (asked (req 21 2 0 0 []) State.reset).serves (req 21 2 0 0 [])
    ∧ (asked (req 21 1 0 0 []) State.reset).serves (req 21 1 0 0 []) ∧ (asked (req 8 32 0 0 []) State.reset).serves (req 8 32 0 0 [])
    ∧ (asked (req 8 31 0 0 []) State.reset).serves (req 8 31 0 0 [])
    ∧ (State.reset.port.sending = none ∧ (doing tick1 State.reset).port.sending.map (fun d => d.sent) = some 0) :=
  ⟨serves_of (by decide +kernel), serves_of (by decide +kernel), serves_of (by decide +kernel), serves_of (by decide +kernel),
   serves_of (by decide +kernel), serves_of (by decide +kernel), serves_of (by decide +kernel), serves_of (by decide +kernel),
   serves_of (by decide +kernel), serves_of (by decide +kernel), serves_of (by decide +kernel), by decide +kernel⟩

theorem met_StatusRequestsAnswerAsThingsStand_drain :
    (sending .idle false [] false [⟨0, .a, 1⟩] (State.reset.setCapture 0 (setIn .draining .vacant))).DrainLegal := by
  unfold State.DrainLegal
  refine ⟨by decide +kernel, fun k h => ?_, by decide +kernel⟩
  match k, h with
  | 0, .a => decide +kernel
  | 0, .b => decide +kernel
  | 1, .a => decide +kernel
  | 1, .b => decide +kernel

theorem met_RecordWritesAreCheckedWhole :
    (asked (req 2 10 0 0 []) State.reset).serves (req 2 10 0 0 []) ∧ (asked (req 2 1 32 0 []) State.reset).serves (req 2 1 32 0 [])
    ∧ (asked (req 2 1 31 2 []) State.reset).serves (req 2 1 31 2 [])
    ∧ (asked (req 2 1 31 1 [0, 0, 0, 0, 0]) State.reset).serves (req 2 1 31 1 [0, 0, 0, 0, 0])
    ∧ ((asked (req 2 1 31 1 [0, 0, 5, 4, 0, 0]) State.reset).serves (req 2 1 31 1 [0, 0, 5, 4, 0, 0]) ∧ channelOf? [0, 0, 5, 4, 0, 0] = none)
    ∧ mapEntryOf? [32] = none ∧ overlayOf? (List.replicate 12 0) = none ∧ watchRecordOf? (List.replicate 6 0) = none
    ∧ trackOf? (List.replicate 4 0) = none ∧ captureOf? (List.replicate 11 0) = none ∧ setupOf? (List.replicate 6 0) = none :=
  ⟨serves_of (by decide +kernel), serves_of (by decide +kernel), serves_of (by decide +kernel), serves_of (by decide +kernel),
   ⟨serves_of (by decide +kernel), by decide +kernel⟩, by decide +kernel, by decide +kernel, by decide +kernel, by decide +kernel,
   by decide +kernel, by decide +kernel⟩

theorem met_RecordWordsRoundTrip :
    ChannelRecord.initial.Legal ∧ OverlayRecord.initial.Legal ∧ (trackIn .stored .playing false 0 0 0).desc.Legal ∧ Setup.initial.Legal
    ∧ (WatchRecord.initial.persistence = 1 ∧ (watchIn .inside 5 5).t1.toInt ≤ (watchIn .inside 5 5).t2.toInt)
    ∧ ((wide 0).channels ≤ 8 ∧ (65535 : Nat) < 65536) := by
  unfold ChannelRecord.Legal OverlayRecord.Legal TrackDescriptor.Legal Setup.Legal; decide +kernel

theorem met_RecordWordsRoundTrip_list : ∀ v ∈ (wide 0).list.toList.take (wide 0).channels, v.toNat ≤ 31 := by
  intro v hv
  rw [show (wide 0).list.toList.take (wide 0).channels = List.replicate 8 0 from rfl] at hv
  rw [List.eq_of_mem_replicate hv]; decide

/-- Block 127 and entry 1023 with the highest value in every field, ignored bits set. -/
def lastBlock : State :=
  { State.reset with scenario := { State.reset.scenario with
      blocks := Mem.writeAll [] 635 [word (31 * 2048 + 7 * 256 + 3 * 64 + 7 * 8 + 4 + 3), 65535, 65535, 65535, 65535]
      entries := Mem.writeAll [] 2046 [word (255 * 256 + 15 * 16 + 15), 65535] } }

theorem met_RecordWordsRoundTrip_block :
    Mem.read lastBlock.scenario.blocks (5 * 127) = word (31 * 2048 + 7 * 256 + 3 * 64 + 7 * 8 + 4 + 3)
    ∧ Mem.read lastBlock.scenario.blocks (5 * 127 + 1) = word 65535
    ∧ Mem.read lastBlock.scenario.blocks (5 * 127 + 2) = word (63 * 1024 + 1023)
    ∧ Mem.read lastBlock.scenario.blocks (5 * 127 + 3) = word (31 * 2048 + 2047)
    ∧ Mem.read lastBlock.scenario.blocks (5 * 127 + 4) = word (255 * 256 + (128 + 127))
    ∧ Mem.read lastBlock.scenario.entries (2 * 1023) = word (255 * 256 + 15 * 16 + 15)
    ∧ Mem.read lastBlock.scenario.entries (2 * 1023 + 1) = word 65535 := by decide +kernel

/-- 12.4: every field of the BLOCK and EPISODE layouts at its place. -/
theorem test_block_and_entry_fields :
    lastBlock.block 127
      = { target := 31, priority := 7, start := .now, watch := 7, delay := 65535, listStart := 1023, listCount := 2047,
          passes := 255, endAction := .adopt, next := some 127 }
    ∧ lastBlock.entry 1023 = { overlay := 255, duration := 65535, endWatch := none } := by decide +kernel

theorem met_ReadRecordAnswersWholeRecords :
    (asked (req 1 0 0 0 []) State.reset).serves (req 1 0 0 0 []) ∧ (asked (req 1 10 0 0 []) State.reset).serves (req 1 10 0 0 [])
    ∧ (asked (req 1 9 1 0 []) State.reset).serves (req 1 9 1 0 []) ∧ (asked (req 1 9 0 1 []) State.reset).serves (req 1 9 0 1 [])
    ∧ (asked (req 1 5 1007 17 []) State.reset).serves (req 1 5 1007 17 []) :=
  ⟨serves_of (by decide +kernel), serves_of (by decide +kernel), serves_of (by decide +kernel), serves_of (by decide +kernel),
   serves_of (by decide +kernel)⟩

/-- A written Channel Record, enabled or not. -/
def written (on : Int) : Request := req 2 1 31 1 [on * 16384 + 1024, 5, -10, 10, 0, 0]

theorem met_ChannelWriteStoresAndTurnsOff :
    (asked (written 1) State.reset).serves (written 1)
    ∧ (decodeAll channelOf? (groups 6 1 (written 1).data)).map List.length = some 1
    ∧ (asked (written 0) (chan 31 (onCode 0) State.reset)).serves (written 0)
    ∧ ((channelOf? (written 0).data).map ChannelRecord.enabled = some false ∧ (chan 31 (onCode 0) State.reset).enabled 31 = true) :=
  ⟨serves_of (by decide +kernel), by decide +kernel, serves_of (by decide +kernel), by decide +kernel⟩

/-- The Slot Map after reset with position `p` emptied. -/
def clearedMap (p : Fin 32) : Vector (Option Chan) 32 := State.reset.ingress.slotMap.set p none

theorem clearedMap_some : ∀ i : Fin 32, (clearedMap 31)[i] = none ∨ (clearedMap 31)[i] = some i := by decide +kernel

theorem clearedMap_distinct (i j : Fin 32) (c : Chan) (hi : (clearedMap 31)[i] = some c) (hj : (clearedMap 31)[j] = some c) :
    i = j := by
  rcases clearedMap_some i with h | h <;> rcases clearedMap_some j with k | k <;> simp_all

theorem met_SlotMapWriteKeepsChannelsDistinct :
    (asked (req 2 2 31 1 [255]) State.reset).serves (req 2 2 31 1 [255])
    ∧ (∀ (i j : Fin 32) (c : Chan), (clearedMap 31)[i] = some c → (clearedMap 31)[j] = some c → i = j)
    ∧ (asked (req 2 2 31 1 [0]) State.reset).serves (req 2 2 31 1 [0])
    ∧ ((State.reset.ingress.slotMap.set 31 (some 0))[(0 : Fin 32)] = some 0
      ∧ (State.reset.ingress.slotMap.set 31 (some 0))[(31 : Fin 32)] = some 0) :=
  ⟨serves_of (by decide +kernel), clearedMap_distinct, serves_of (by decide +kernel), by decide +kernel⟩

/-- A WRITE RECORD of the words `ws` as one record `i` of table `t`. -/
def writing (t i : Nat) (ws : List Word) : Request := ⟨9, 2, t, i, 1, ws⟩

theorem met_OverlayScenarioWatchAndCaptureWrites :
    (asked (writing 3 255 OverlayRecord.initial.words) State.reset).serves (writing 3 255 OverlayRecord.initial.words)
    ∧ (asked (writing 4 127 [1, 2, 3, 4, 5]) State.reset).serves (writing 4 127 [1, 2, 3, 4, 5])
    ∧ (asked (writing 5 1023 [1, 2]) State.reset).serves (writing 5 1023 [1, 2])
    ∧ (asked (writing 6 7 (watchIn .above 0 0).words) State.reset).serves (writing 6 7 (watchIn .above 0 0).words)
    ∧ (asked (writing 8 1 (wide 0).words) State.reset).serves (writing 8 1 (wide 0).words)
    ∧ (Mem.Wf State.reset.scenario.blocks ∧ Mem.Wf State.reset.scenario.entries)
    ∧ (∀ w : WatchNo, (State.reset.watchOf w).fire = none) ∧ captureOf? (wide 0).words = some (wide 0)
    ∧ ¬ ((wide 0).list.toList.take (wide 0).channels).Nodup
    ∧ (CaptureRecord.initial.list.toList.take CaptureRecord.initial.channels).Nodup
    ∧ (captureOf? CaptureRecord.initial.words = some CaptureRecord.initial
      ∧ (set1 .armed (half .vacant 0) (half .vacant 0) (wide 0)).capture[(1 : SetNo)].state ≠ .idle) :=
  ⟨serves_of (by decide +kernel), serves_of (by decide +kernel), serves_of (by decide +kernel), serves_of (by decide +kernel),
   serves_of (by decide +kernel), by decide +kernel, by decide +kernel, by decide +kernel, by decide +kernel, by decide +kernel, by decide +kernel⟩

/-- A descriptor of the ring of 4 words from 2000. -/
def ring : TrackDescriptor := { mode := .fed, loop := false, interpolate := true, base := 2000, size := 4, divider := 2 }

theorem met_TrackWriteResetsTheRunState :
    (asked (writing 7 7 ring.words) State.reset).serves (writing 7 7 ring.words)
    ∧ (State.reset.track 7).state = .stopped ∧ (trackIn .fed .playing false 0 0 0).state = .playing
    ∧ regionsMeet ring { ring with base := 2003 } = true ∧ regionsMeet ring { ring with base := 2004 } = false :=
  ⟨serves_of (by decide +kernel), by decide +kernel, by decide +kernel, by decide +kernel, by decide +kernel⟩

theorem met_TrackWriteResetsTheRunState_legal : (asked (writing 7 7 ring.words) State.reset).TracksLegal ∧ ring.Legal := by
  unfold State.TracksLegal Track.Legal TrackDescriptor.Legal; decide +kernel

theorem met_SetupWriteActsOnChangedFields :
    (asked (writing 9 0 Setup.initial.words) State.reset).serves (writing 9 0 Setup.initial.words)
    ∧ setupOf? Setup.initial.words = some Setup.initial ∧ Setup.initial.source = State.reset.setup.source
    ∧ Setup.initial.source ≠ (paced false).setup.source
    ∧ (asked (writing 9 0 Setup.initial.words) (paced false)).serves (writing 9 0 Setup.initial.words) :=
  ⟨serves_of (by decide +kernel), by decide +kernel, by decide +kernel, by decide +kernel, serves_of (by decide +kernel)⟩

/-- CLIPS of C0 stands at `n`, and the categories of `m` are masked. -/
def counted (n : Word) (m : BitVec 8) : State :=
  { State.reset with
    events := { State.reset.events with counters := State.reset.events.counters.set 65 n }
    setup := { Setup.initial with masks := m } }

theorem met_CountersWrapAndEventsSetTheirFlag :
    ((counted 65535 0).events.counters[(65 : CounterNo)].toNat + 1 > 65535 ∧ (counted 65534 0).events.counters[(65 : CounterNo)].toNat + 1 ≤ 65535)
    ∧ (counted 65535 64).setup.masks.getLsbD 6 = true ∧ (counted 65535 0).setup.masks.getLsbD 6 = false := by decide +kernel

theorem met_ResetDeviceStartsAgain :
    (asked (req 27 0 0 0 []) State.reset).serves (req 27 0 0 0 []) ∧ (asked (req 27 0 0 0 []) (underSafe State.reset)).serves (req 27 0 0 0 [])
    ∧ ((underSafe State.reset).safe.asserted = true ∧ (underSafe State.reset).setup.masks.getLsbD 7 = false
      ∧ (counted 0 128).setup.masks.getLsbD 7 = true) :=
  ⟨serves_of (by decide +kernel), serves_of (by decide +kernel), by decide +kernel⟩

theorem met_PowerOnGivesTheResetState : State.reset.safe.low = false ∧ (underSafe State.reset).safe.low = true := by decide +kernel

theorem met_SafeLineEdges :
    (State.reset.phase = .running ∧ State.reset.safe.asserted = false ∧ (underSafe State.reset).safe.asserted = true)
    ∧ ((slot7 .armed).slot 7).state.busy = true ∧ (State.reset.slot 7).state.busy = false
    ∧ (State.reset.port.sending = none ∧ (doing tick1 State.reset).port.sending.isSome = true)
    ∧ (∀ w : WatchNo, ((underSafe State.reset).watchOf w).fire = none)
    ∧ (doing .initStart State.reset).phase ≠ .running := by decide +kernel

/-! A state with a command waiting that meets each law the steps keep, and has a next state. -/

/-- The state after reset with a start mark waiting. -/
def queued : State := State.reset.withPending [.startMark]

theorem met_StepKeeps_next : ∃ t, step queued = .next t := ⟨_, rfl⟩

theorem met_StepKeepsEventsConsistent : queued.EventsConsistent := by
  refine ⟨fun c hc => ?_, by decide +kernel, fun sm tk h => ?_⟩
  · unfold flagged; revert c; decide +kernel
  · rw [show queued.tx.line = some .idle from rfl] at h; cases h

theorem met_StepKeepsTablesLegal : queued.TablesLegal := by
  refine ⟨?_, reset_map_distinct, ?_⟩
  · unfold State.LimitsHold ChannelRecord.Legal; decide +kernel
  · unfold State.StoresCanonical State.QueuesBounded Setup.Legal viewLegal; decide +kernel

theorem met_StepKeepsTracksLegal : queued.TracksLegal := by
  unfold State.TracksLegal Track.Legal TrackDescriptor.Legal; decide +kernel

/-- The base context after power-on is legal. -/
theorem standing_legal : (Context.standing 0).Legal := by
  unfold Context.Legal OverlayRecord.Legal transformRange; decide +kernel

theorem met_StepKeepsContextsLegal : queued.ContextsLegal := by
  have hb : ∀ i : Fin 256, queued.bank[i] = OverlayRecord.initial := by decide +kernel
  have ho : ∀ c : Chan, queued.own[c] = Ownership.initial := by decide +kernel
  have hl : ∀ c : Chan, queued.channels.last[c] = 0 := by decide +kernel
  refine ⟨fun i => hb i ▸ standing_legal.1, fun c => ?_⟩
  rw [ho c, hl c]
  refine ⟨by unfold transformRange; decide, standing_legal, fun x hx => ?_, fun x hx => ?_⟩ <;> cases hx

theorem met_StepKeepsSlotsQuietUnderSafe : (underSafe queued).SafeLineHolds := by
  unfold State.SafeLineHolds; decide +kernel

theorem met_StepKeepsCapturesLegal : queued.CapturesLegal := by
  refine ⟨fun k => ?_, fun _ => ⟨by decide +kernel, fun k h => ?_, by decide +kernel⟩, fun _ => rfl⟩
  · match k with
    | 0 => exact ⟨by decide +kernel, ⟨rfl, rfl⟩, rfl, rfl, rfl⟩
    | 1 => exact ⟨by decide +kernel, ⟨rfl, rfl⟩, rfl, rfl, rfl⟩
  · match k, h with
    | 0, .a => decide +kernel
    | 0, .b => decide +kernel
    | 1, .a => decide +kernel
    | 1, .b => decide +kernel

/-- A channel in its state after power-on is lawful. -/
theorem initial_lawful : Ownership.initial.Lawful :=
  ⟨rfl, by decide, List.Pairwise.nil, List.Pairwise.nil, rfl, rfl⟩

theorem met_StepKeepsOwnershipLawful : queued.OwnershipLawful := by
  have ho : ∀ c : Chan, queued.own[c] = Ownership.initial := by decide +kernel
  have hs : ∀ n : SlotNo, (queued.slot n).state = .idle := by decide +kernel
  refine ⟨fun c => ⟨ho c ▸ initial_lawful, ?_⟩, fun n => ?_⟩
  · unfold State.placesHeld; rw [ho c]
    refine ⟨fun x hx => ?_, fun x hx => ?_, fun w hw => ?_⟩
    · cases hx
    · cases hx
    · cases hw
  · unfold State.hasPlace; simp only [hs n]

/-- Where slot n has its place, as the law of ownership asks (R75). -/
def inPlace (s : State) (n : SlotNo) : Bool :=
  let o := s.own[(s.slot n).latch.target]
  match (s.slot n).state with
  | .running => decide (o.active.map Context.owner = some (some n))
  | .suspended => decide (some n ∈ o.stack.map Context.owner)
  | .waiting => decide (n ∈ o.waiting.map Waiter.slot)
  | .idle | .armed | .faulted => true

theorem hasPlace_of {s : State} {n : SlotNo} (h : inPlace s n = true) : s.hasPlace n := by
  unfold inPlace at h; unfold State.hasPlace
  cases he : (s.slot n).state <;> simp only [he] at h ⊢
  · exact List.mem_map.1 (of_decide_eq_true h)
  · exact Option.map_eq_some_iff.1 (of_decide_eq_true h)
  · exact List.mem_map.1 (of_decide_eq_true h)

/-- A state in which only channel c has slot contexts or waiting slots is lawful if that channel and its slots are. -/
theorem lawful_on {s : State} (c : Chan) {a : Context} (ho : ∀ d : Chan, d ≠ c → s.own[d] = Ownership.initial)
    (ha : s.own[c].active = some a)
    (hl : s.own[c].base.priority = -1 ∧ s.own[c].stack.length ≤ 4
      ∧ (s.own[c].stack.map Context.priority).Pairwise (fun x y => y < x)
      ∧ (s.own[c].waiting.map Waiter.slot).Pairwise (fun m n => m < n)
      ∧ (∀ x ∈ s.own[c].stack, x.priority < a.priority)
      ∧ ∀ w ∈ s.own[c].waiting, (w.priority : Int) ≤ a.priority ∨ s.own[c].stack.length = 4)
    (hp : s.placesHeld c) (hn : ∀ n : SlotNo, inPlace s n = true) : s.OwnershipLawful := by
  refine ⟨fun d => ?_, fun n => hasPlace_of (hn n)⟩
  by_cases hd : d = c
  · subst hd; refine ⟨?_, hp⟩
    unfold Ownership.Lawful; rw [ha]; exact hl
  · refine ⟨ho d hd ▸ initial_lawful, ?_⟩
    unfold State.placesHeld; rw [ho d hd]
    refine ⟨fun x hx => ?_, fun x hx => ?_, fun w hw => ?_⟩
    · cases hx
    · cases hx
    · cases hw

/-- The state in which slot 5 waits on C3 below slot 2 is lawful, as the releases and the fires ask. -/
theorem met_OwnershipLawful_with_a_waiting_slot : (waiting 3).OwnershipLawful :=
  lawful_on 3 (by decide +kernel) rfl (by decide +kernel) (by unfold State.placesHeld State.holdsPlace; decide +kernel)
    (by decide +kernel)

/-- The state with a full stack and a waiting slot above it is lawful, as the withdrawals ask, whatever the stores hold. -/
theorem met_OwnershipLawful_with_a_full_stack : fullStack.OwnershipLawful ∧ (stored 0 [] [8, 5] fullStack).OwnershipLawful := by
  have h : fullStack.OwnershipLawful :=
    lawful_on 3 (by decide +kernel) rfl (by decide +kernel) (by unfold State.placesHeld State.holdsPlace; decide +kernel)
      (by decide +kernel)
  exact ⟨h, h⟩

/-- A tick counted first over a RUNNING slot, an ARMED one in its delay, an awaiting one and SUSPENDED ones. -/
theorem met_TickCountsEverySlot :
    (∃ s0, fullStack.TickStarts tick1 .countFirst s0 ∧ s0.Settled)
    ∧ (∃ s0, fullStack.TickStarts (.frameTimerExpiry .eventsFirst) .eventsFirst s0 ∧ s0.Settled)
    ∧ ((fullStack.slot 4).state = .running ∧ (fullStack.slot 3).state = .suspended ∧ (fullStack.slot 5).state = .waiting
      ∧ (twoSlots.slot 5).state = .armed ∧ 0 < (twoSlots.slot 5).delayLeft ∧ (firing.slot 3).awaiting = true)
    ∧ (let s := stored 0 [] [0, 0, 8, 5] (fullStack.setSlot 3 { slotIn .suspended (latch 3 3) with entriesLeft := 2 })
       1 < (s.slot 3).entriesLeft ∧ (s.entry 1).duration ≠ 0 ∧ s.bank[(s.entry 1).overlay].pin ≠ .toPartner)
    ∧ ((fullStack.slot 3).entriesLeft ≤ 1 ∧ (fullStack.slot 3).latch.passes ≠ 0 ∧ (fullStack.slot 3).passesLeft ≤ 1
      ∧ (fullStack.slot 3).latch.endAction = .restore ∧ (fullStack.slot 3).latch.next = none) :=
  ⟨timer_tick_settled _ (by decide +kernel) (by decide +kernel), timer_tick_settled _ (by decide +kernel) (by decide +kernel),
   by decide +kernel, by decide +kernel, by decide +kernel⟩

end Sys2Proof.Tests
end

section
/-! The arithmetic of the SCALE and COARSE transforms (4.5, R62 and R66): the rounded product within its range, and
floors to a multiple of a power of two as a mask of the low bits. -/

namespace Sys2Proof.Machine

/-! ### Rounding and products (R62) -/

/-- round12 is the one whole number within half a unit of P / 4096, the upper half unit excluded. -/
theorem round12_bounds (p : Int) : round12 p * 4096 ≤ p + 2048 ∧ p + 2048 < (round12 p + 1) * 4096 := by
  unfold round12; omega

@[simp] theorem round12_zero : round12 0 = 0 := rfl

@[simp] theorem round12_mul_4096 (k : Int) : round12 (k * 4096) = k := by
  have := round12_bounds (k * 4096); omega

theorem round12_half (k : Int) : round12 (4096 * k + 2048) = k + 1 := by
  have := round12_bounds (4096 * k + 2048); omega

/-- The range of round12 over the range of the products. -/
theorem round12_range {p : Int} (hlo : -1073709056 ≤ p) (hhi : p ≤ 1073741824) :
    -262136 ≤ round12 p ∧ round12 p ≤ 262144 := by
  have := round12_bounds p; omega

theorem word_toInt_range (v : Word) : -32768 ≤ v.toInt ∧ v.toInt ≤ 32767 :=
  ⟨BitVec.le_toInt v, BitVec.toInt_le⟩

theorem word_toInt_zero : (0 : Word).toInt = 0 := rfl

/-- The most negative product has the factors -32768 and 32767, the greatest -32768 twice: asymmetric, so the library's
bound of ±2^30 does not give the lower end. -/
theorem word_product_range (v g : Word) : -1073709056 ≤ v.toInt * g.toInt ∧ v.toInt * g.toInt ≤ 1073741824 := by
  obtain ⟨hv, hv'⟩ := word_toInt_range v
  obtain ⟨hg, hg'⟩ := word_toInt_range g
  refine ⟨?_, BitVec.toInt_mul_toInt_le⟩
  rcases le_total 0 v.toInt with h | h
  · calc (-1073709056 : Int) ≤ v.toInt * -32768 := by omega
      _ ≤ v.toInt * g.toInt := mul_le_mul_of_nonneg_left hg h
  · calc (-1073709056 : Int) ≤ v.toInt * 32767 := by omega
      _ ≤ v.toInt * g.toInt := mul_le_mul_of_nonpos_left hg' h

/-! ### Floors as masks (R66) -/

theorem ofInt_two_pow (w q : Nat) : BitVec.ofInt w (2 ^ q) = BitVec.twoPow w q := by
  have hcast : (2 : Int) ^ q = ((2 ^ q : Nat) : Int) := by norm_cast
  rw [hcast, BitVec.ofInt_natCast]
  exact BitVec.eq_of_toNat_eq (by rw [BitVec.toNat_ofNat, BitVec.toNat_twoPow])

/-- The two's complement of -2^q has exactly the bits from q on: negation keeps the lowest set bit, here bit q, and inverts
those above it. -/
theorem getLsbD_ofInt_neg_two_pow (w q i : Nat) :
    (BitVec.ofInt w (-2 ^ q)).getLsbD i = (decide (i < w) && decide (q ≤ i)) := by
  rw [BitVec.ofInt_neg, ofInt_two_pow, BitVec.getLsbD_neg]
  simp only [BitVec.getLsbD_twoPow]
  rcases lt_trichotomy i q with h | rfl | h
  · simp [h.ne', h.not_ge, h.not_gt]
  · simp
  · have hbit : i < w → q < w := h.trans
    simpa [h.ne, h, h.le] using hbit

/-- The floor to a multiple of 2^q shifts the word right with its sign and back left. -/
theorem ofInt_floor_two_pow {w : Nat} (v : BitVec w) (q : Nat) :
    BitVec.ofInt w (v.toInt / 2 ^ q * 2 ^ q) = v.sshiftRight q <<< q := by
  have hright : BitVec.ofInt w (v.toInt / 2 ^ q) = v.sshiftRight q := by
    rw [BitVec.sshiftRight_eq, Int.shiftRight_eq_div_pow]; norm_cast
  rw [BitVec.ofInt_mul, hright, ofInt_two_pow, BitVec.mul_twoPow_eq_shiftLeft]

/-- At every width, the floor to a multiple of 2^q clears the q lowest bits. -/
theorem ofInt_floor_eq_and {w : Nat} (v : BitVec w) (q : Nat) :
    BitVec.ofInt w (v.toInt / 2 ^ q * 2 ^ q) = v &&& BitVec.ofInt w (-2 ^ q) := by
  rw [ofInt_floor_two_pow]
  refine BitVec.eq_of_getLsbD_eq fun i hi => ?_
  rw [BitVec.getLsbD_shiftLeft, BitVec.getLsbD_and, getLsbD_ofInt_neg_two_pow, BitVec.getLsbD_sshiftRight]
  by_cases hq : q ≤ i
  · simp [hq, hi, Nat.not_lt.2 hq, show i - q < w by omega]
  · simp [hq, hi, Nat.lt_of_not_le hq]

/-- A floor to a multiple of q is at most q - 1 below. -/
theorem floor_within {q : Int} (a : Int) (hq : 0 < q) : a / q * q ≤ a ∧ a - a / q * q ≤ q - 1 := by
  have hdecomp := Int.emod_add_mul_ediv a q
  have := Int.emod_nonneg a hq.ne'
  have := Int.emod_lt_of_pos a hq
  rw [mul_comm q] at hdecomp
  omega

/-- The floor of a word stays between the least word and the greatest multiple, where q divides 32768: both ends are
multiples of q, and the floor is monotone. -/
theorem word_floor_range {q : Int} (v : Word) (hq : 0 < q) (hdvd : q ∣ 32768) :
    -32768 ≤ v.toInt / q * q ∧ v.toInt / q * q ≤ 32767 - (q - 1) := by
  obtain ⟨hv, hv'⟩ := word_toInt_range v
  obtain ⟨k, hk⟩ := hdvd
  have hlo : -k ≤ v.toInt / q := (Int.le_ediv_iff_mul_le hq).2 (by rwa [neg_mul, mul_comm, ← hk])
  have hhi : v.toInt / q < k := (Int.ediv_lt_iff_lt_mul hq).2 (by rw [mul_comm, ← hk]; omega)
  have h1 := mul_le_mul_of_nonneg_right hlo hq.le
  have h2 := mul_le_mul_of_nonneg_right (Int.le_sub_one_of_lt hhi) hq.le
  rw [mul_comm] at hk
  rw [neg_mul, ← hk] at h1
  rw [sub_mul, one_mul, ← hk] at h2
  omega

/-! ### The two transforms -/

theorem transformOn_scale {x : Context} (L : Int) (w v : Word) (h : x.fields.kind = .scale) :
    transformOn x L w v = round12 (v.toInt * x.fields.gain.toInt) + x.fields.offset.toInt := by
  simp only [transformOn, h]

theorem transformOn_coarse {x : Context} (L : Int) (w v : Word) (h : x.fields.kind = .coarse) :
    transformOn x L w v = v.toInt / 2 ^ x.fields.coarse * 2 ^ x.fields.coarse := by
  simp only [transformOn, h]

/-- Settles O16: the range of y is that of the rounded product widened by the offset's, and the special gains follow from
round12 at the multiples of 4096. -/
theorem scaleTransform : Obligations.ScaleTransform := by
  refine ⟨round12_bounds, round12_half, fun x L w v hkind => ?_⟩
  rw [transformOn_scale L w v hkind]
  have hproduct := word_product_range v x.fields.gain
  have hround := round12_range hproduct.1 hproduct.2
  have hoffset := word_toInt_range x.fields.offset
  refine ⟨rfl, hproduct, hround, by omega, fun hgain hzero => ?unity, fun hgain => ?zero, fun hneg => ⟨?pos, ?neg⟩⟩
  case unity =>
    have h4096 : (4096#16).toInt = 4096 := rfl
    rw [hgain, hzero, h4096, round12_mul_4096, word_toInt_zero, add_zero]
  case zero => rw [hgain, word_toInt_zero, mul_zero, round12_zero, zero_add]
  case pos => exact fun hv => mul_neg_of_pos_of_neg hv hneg
  case neg => exact fun hv => mul_pos_of_neg_of_neg hv hneg

/-- Settles O17: y is the floor of x to a multiple of 2^q, and 2^q divides 32768 for every q up to 12. -/
theorem coarseTransform : Obligations.CoarseTransform := by
  intro x L w v hkind _ hle
  rw [transformOn_coarse L w v hkind]
  have hpos : (0 : Int) < 2 ^ x.fields.coarse := by positivity
  have hdvd : (2 : Int) ^ x.fields.coarse ∣ 32768 := pow_dvd_pow (2 : Int) (show x.fields.coarse ≤ 15 by omega)
  exact ⟨rfl, ofInt_floor_eq_and v _, word_floor_range v hpos hdvd, floor_within v.toInt hpos, Int.ediv_mul_cancel⟩

end Sys2Proof.Machine
end

section
/-! The conditions of the watch modes (7.2, R116): one rule per mode, and the settings that make a condition constant. -/

namespace Sys2Proof.Machine

variable {r : WatchRecord} {v : Word}

/-! ### One rule per mode -/

theorem conditionHolds_above (hmode : r.mode = .above) : conditionHolds r v = true ↔ r.t1.toInt < v.toInt := by
  simp only [conditionHolds, hmode, decide_eq_true_iff]

theorem conditionHolds_below (hmode : r.mode = .below) : conditionHolds r v = true ↔ v.toInt < r.t1.toInt := by
  simp only [conditionHolds, hmode, decide_eq_true_iff]

theorem conditionHolds_inside (hmode : r.mode = .inside) :
    conditionHolds r v = true ↔ r.t1.toInt ≤ v.toInt ∧ v.toInt ≤ r.t2.toInt := by
  simp only [conditionHolds, hmode, Bool.and_eq_true, decide_eq_true_iff]

theorem conditionHolds_outside (hmode : r.mode = .outside) :
    conditionHolds r v = true ↔ v.toInt < r.t1.toInt ∨ r.t2.toInt < v.toInt := by
  simp only [conditionHolds, hmode, Bool.or_eq_true, decide_eq_true_iff]

/-- Two words are equal under a mask exactly where they agree at every position set in the mask. -/
theorem patternMatches_iff :
    patternMatches r v = true ↔ ∀ i, i < 16 → r.mask.getLsbD i = true → v.getLsbD i = r.compare.getLsbD i := by
  rw [patternMatches, beq_iff_eq, BitVec.eq_of_getLsbD_eq_iff]
  refine forall₂_congr fun i _ => ?_
  rw [BitVec.getLsbD_and, BitVec.getLsbD_and]
  cases r.mask.getLsbD i <;> simp

theorem conditionHolds_pattern (hmode : r.mode = .pattern) : conditionHolds r v = patternMatches r v := by
  simp only [conditionHolds, hmode]

theorem conditionHolds_miss (hmode : r.mode = .miss) : conditionHolds r v = !patternMatches r v := by
  simp only [conditionHolds, hmode]

theorem conditionHolds_pattern_iff (hmode : r.mode = .pattern) :
    conditionHolds r v = true ↔ ∀ i, i < 16 → r.mask.getLsbD i = true → v.getLsbD i = r.compare.getLsbD i := by
  rw [conditionHolds_pattern hmode, patternMatches_iff]

theorem conditionHolds_miss_iff (hmode : r.mode = .miss) :
    conditionHolds r v = true ↔ ∃ i, i < 16 ∧ r.mask.getLsbD i = true ∧ v.getLsbD i ≠ r.compare.getLsbD i := by
  rw [conditionHolds_miss hmode, Bool.not_eq_true', ← Bool.not_eq_true, patternMatches_iff]
  push Not
  rfl

/-- The mode does not enter the comparison under the mask, so the two modes of one record are complements. -/
theorem conditionHolds_pattern_eq_not_miss (r : WatchRecord) (v : Word) :
    conditionHolds { r with mode := .pattern } v = !conditionHolds { r with mode := .miss } v := by
  rw [conditionHolds_pattern rfl, conditionHolds_miss rfl, Bool.not_not]
  rfl

/-! ### Settings that make a condition constant -/

theorem word_toInt_greatest : (32767#16 : Word).toInt = 32767 := rfl

theorem word_toInt_least : (32768#16 : Word).toInt = -32768 := rfl

theorem conditionHolds_above_greatest (hmode : r.mode = .above) (ht : r.t1 = 32767#16) : conditionHolds r v = false := by
  rw [← Bool.not_eq_true, conditionHolds_above hmode, ht, word_toInt_greatest]
  exact (word_toInt_range v).2.not_gt

theorem conditionHolds_below_least (hmode : r.mode = .below) (ht : r.t1 = 32768#16) : conditionHolds r v = false := by
  rw [← Bool.not_eq_true, conditionHolds_below hmode, ht, word_toInt_least]
  exact (word_toInt_range v).1.not_gt

theorem conditionHolds_inside_full (hmode : r.mode = .inside) (hlo : r.t1 = 32768#16) (hhi : r.t2 = 32767#16) :
    conditionHolds r v = true := by
  rw [conditionHolds_inside hmode, hlo, hhi, word_toInt_least, word_toInt_greatest]
  exact word_toInt_range v

theorem conditionHolds_inside_point (hmode : r.mode = .inside) (ht : r.t1 = r.t2) :
    conditionHolds r v = true ↔ v = r.t1 := by
  rw [conditionHolds_inside hmode, ← ht, ← le_antisymm_iff, BitVec.toInt_inj, eq_comm]

theorem conditionHolds_outside_full (hmode : r.mode = .outside) (hlo : r.t1 = 32768#16) (hhi : r.t2 = 32767#16) :
    conditionHolds r v = false := by
  rw [← Bool.not_eq_true, conditionHolds_outside hmode, hlo, hhi, word_toInt_least, word_toInt_greatest]
  exact not_or.2 ⟨(word_toInt_range v).1.not_gt, (word_toInt_range v).2.not_gt⟩

theorem patternMatches_mask_zero (hmask : r.mask = 0) : patternMatches r v = true :=
  patternMatches_iff.2 fun i _ hset => by simp [hmask] at hset

/-- Settles O26: the rule of each mode, with the range of a word and the empty mask for the constant settings. -/
theorem watchConditionsByMode : Obligations.WatchConditionsByMode := by
  intro r v
  refine ⟨conditionHolds_above, conditionHolds_below, conditionHolds_inside, conditionHolds_outside,
    conditionHolds_pattern_iff, conditionHolds_miss_iff, conditionHolds_pattern_eq_not_miss r v,
    conditionHolds_above_greatest, conditionHolds_below_least, conditionHolds_inside_full, conditionHolds_inside_point,
    conditionHolds_outside_full, fun hmode hmask => ?pattern, fun hmode hmask => ?miss⟩
  case pattern => rw [conditionHolds_pattern hmode, patternMatches_mask_zero hmask]
  case miss => rw [conditionHolds_miss hmode, patternMatches_mask_zero hmask, Bool.not_true]

end Sys2Proof.Machine
end

section
/-! Interpolation between two samples (8.4, R130): the step rounded half away from zero is the sign of the difference times a
magnitude that depends on the size of the difference alone. -/

namespace Sys2Proof.Machine

/-! ### The rounded step -/

/-- The three cases of R130 in one: the sign of d on the rounded quotient of its magnitude. -/
theorem roundHaz_eq_sign_mul (d : Int) (j k : Nat) :
    roundHaz d j k = d.sign * ((2 * (d.natAbs * j) + k) / (2 * k) : Nat) := by
  unfold roundHaz
  rcases lt_trichotomy d 0 with hneg | rfl | hpos
  · simp [Int.sign_eq_neg_one_of_neg hneg, hneg, hneg.not_gt]
  · simp
  · simp [Int.sign_eq_one_of_pos hpos, hpos]

@[simp] theorem roundHaz_neg (d : Int) (j k : Nat) : roundHaz (-d) j k = -roundHaz d j k := by
  simp only [roundHaz_eq_sign_mul, Int.sign_neg, Int.natAbs_neg, neg_mul]

/-- At phase 0 only the half unit is left, and the quotient drops it. -/
theorem roundHaz_phase_zero (d : Int) {k : Nat} (hk : 0 < k) : roundHaz d 0 k = 0 := by
  have hquot : (2 * (d.natAbs * 0) + k) / (2 * k) = 0 := Nat.div_eq_of_lt (by omega)
  rw [roundHaz_eq_sign_mul, hquot, Nat.cast_zero, mul_zero]

/-- Before the divider the rounded part of a distance is no greater than the distance. -/
theorem rounded_part_le (n : Nat) {j k : Nat} (hj : j < k) : (2 * (n * j) + k) / (2 * k) ≤ n := by
  have hnj : n * j ≤ n * k := Nat.mul_le_mul_left n hj.le
  have hlt : 2 * (n * j) + k < 2 * k * (n + 1) := by linarith
  exact Nat.lt_succ_iff.1 (Nat.div_lt_of_lt_mul hlt)

/-- A step of the rounded part stays between 0 and the whole difference. -/
theorem roundHaz_between (d : Int) {j k : Nat} (hj : j < k) :
    min 0 d ≤ roundHaz d j k ∧ roundHaz d j k ≤ max 0 d := by
  rw [roundHaz_eq_sign_mul]
  generalize hr : (2 * (d.natAbs * j) + k) / (2 * k) = r
  have hle : r ≤ d.natAbs := hr ▸ rounded_part_le d.natAbs hj
  rcases lt_trichotomy d 0 with hneg | rfl | hpos
  · rw [Int.sign_eq_neg_one_of_neg hneg]; omega
  · simp
  · rw [Int.sign_eq_one_of_pos hpos]; omega

/-! ### The interpolated word -/

theorem word_difference_range (a b : Word) : -65535 ≤ b.toInt - a.toInt ∧ b.toInt - a.toInt ≤ 65535 := by
  have ha := word_toInt_range a
  have hb := word_toInt_range b
  omega

/-- The exact sum lies between the two samples, so it is a word's value and nothing wraps. -/
theorem interpolate_toInt (a b : Word) {j k : Nat} (hj : j < k) :
    (interpolate a b j k).toInt = a.toInt + roundHaz (b.toInt - a.toInt) j k := by
  have ha := word_toInt_range a
  have hb := word_toInt_range b
  have hstep := roundHaz_between (b.toInt - a.toInt) hj
  exact BitVec.toInt_ofInt_eq_self (by decide) (by omega) (by omega)

theorem interpolate_between (a b : Word) {j k : Nat} (hj : j < k) :
    min a.toInt b.toInt ≤ (interpolate a b j k).toInt ∧ (interpolate a b j k).toInt ≤ max a.toInt b.toInt := by
  have hstep := roundHaz_between (b.toInt - a.toInt) hj
  rw [interpolate_toInt a b hj]
  omega

theorem interpolate_phase_zero (a b : Word) {k : Nat} (hk : 0 < k) : interpolate a b 0 k = a := by
  rw [← BitVec.toInt_inj, interpolate_toInt a b hk, roundHaz_phase_zero _ hk, add_zero]

/-- Settles O31: the sign form of the step gives its three cases and the mirror, and its bounds keep the sum within a word. -/
theorem interpolationRoundsHalfAway : Obligations.InterpolationRoundsHalfAway := by
  intro a b j k hj hk
  have hk0 : 0 < k := Nat.zero_lt_of_lt hj
  have hrange := word_difference_range a b
  refine ⟨fun hpos => ?pos, fun hneg => ?neg, fun hzero => ?zero, hrange, ?product, rounded_part_le _ hj,
    interpolate_toInt a b hj, interpolate_between a b hj, interpolate_phase_zero a b hk0, roundHaz_neg _ j k, rfl, rfl⟩
  case pos => rw [roundHaz_eq_sign_mul, Int.sign_eq_one_of_pos hpos, one_mul]
  case neg => rw [roundHaz_eq_sign_mul, Int.sign_eq_neg_one_of_neg hneg, neg_one_mul]
  case zero => rw [roundHaz_eq_sign_mul, hzero, Int.sign_zero, zero_mul]
  case product =>
    calc (b.toInt - a.toInt).natAbs * j ≤ 65535 * j := Nat.mul_le_mul_right j (by omega)
      _ < 65535 * 256 := by omega

end Sys2Proof.Machine
end

section
/-! APPEND TRACK (8.6, R135): the places of a ring are distinct within its size, so each word appended stands at the next place
and no word appended before it, nor any not yet consumed, is written over. -/

namespace Sys2Proof.Machine

/-! ### Places of a ring (8.3) -/

theorem TrackDescriptor.forward_forward (d : TrackDescriptor) (p i j : Nat) :
    d.forward (d.forward p i) j = d.forward p (i + j) := by
  simp only [TrackDescriptor.forward, Nat.add_sub_cancel_left, Nat.mod_add_mod, Nat.add_assoc]

/-- Two different positions within the size are two different places. -/
theorem TrackDescriptor.forward_inj {d : TrackDescriptor} {p i j : Nat} (hi : i < d.size) (hj : j < d.size) :
    d.forward p i = d.forward p j ↔ i = j := by
  refine ⟨fun h => ?_, congrArg _⟩
  have hmod : p - d.base + i ≡ p - d.base + j [MOD d.size] := Nat.add_left_cancel h
  exact (Nat.ModEq.add_left_cancel' _ hmod).eq_of_lt_of_lt hi hj

/-! ### Samples that join a ring -/

section
variable (u : TrackNo) (v : Word) (vs : List Word) (s : State)

theorem appendOne_mem : (appendOne u v s).replay.mem = Mem.write s.replay.mem (s.track u).writePoint v := rfl

@[simp] theorem appendOne_track_self :
    (appendOne u v s).track u
      = { s.track u with
          writePoint := (s.track u).desc.forward (s.track u).writePoint 1, fill := (s.track u).fill + 1 } := by
  simp [appendOne, State.track]

theorem appendOne_track_ne {w : TrackNo} (h : u ≠ w) : (appendOne u v s).track w = s.track w := by
  simp [appendOne, State.track, Fin.val_inj, h]

@[simp] theorem appendAll_nil : appendAll u [] s = s := rfl

@[simp] theorem appendAll_cons : appendAll u (v :: vs) s = appendAll u vs (appendOne u v s) := rfl

/-- Only the Replay Unit moves. -/
theorem appendAll_moves : appendAll u vs s = { s with replay := (appendAll u vs s).replay } := by
  induction vs generalizing s with
  | nil => rfl
  | cons v vs ih => exact (ih (appendOne u v s)).trans rfl

theorem appendAll_track_ne {w : TrackNo} (h : u ≠ w) : (appendAll u vs s).track w = s.track w := by
  induction vs generalizing s with
  | nil => rfl
  | cons v vs ih => rw [appendAll_cons, ih, appendOne_track_ne u v s h]

end

/-- The write point is the first free place of the ring (R135). -/
def Track.WritesAtFill (x : Track) : Prop := x.writePoint = x.desc.forward x.readPoint x.fill

theorem Track.WritesAtFill.writePoint_eq {x : Track} (h : x.WritesAtFill) :
    x.writePoint = x.desc.forward x.readPoint x.fill := h

theorem Track.Legal.writesAtFill {x : Track} (h : x.Legal) : x.WritesAtFill := by
  obtain ⟨_, _, _, _, _, hwrite⟩ := h
  exact hwrite

theorem Track.Legal.fill_le {x : Track} (h : x.Legal) : x.fill ≤ x.desc.size := by
  obtain ⟨_, _, _, hfill, _⟩ := h
  exact hfill

theorem appendOne_writesAtFill {u : TrackNo} {s : State} (hw : (s.track u).WritesAtFill) (v : Word) :
    ((appendOne u v s).track u).WritesAtFill := by
  unfold Track.WritesAtFill
  rw [appendOne_track_self, hw.writePoint_eq, TrackDescriptor.forward_forward]

/-- The track the samples have joined: its fill grows by their number, and its write point is again the first free place. -/
theorem appendAll_track_self {u : TrackNo} (vs : List Word) {s : State} (hw : (s.track u).WritesAtFill) :
    (appendAll u vs s).track u
      = { s.track u with
          writePoint := (s.track u).desc.forward (s.track u).readPoint ((s.track u).fill + vs.length)
          fill := (s.track u).fill + vs.length } := by
  induction vs generalizing s with
  | nil => simp [← hw.writePoint_eq]
  | cons v vs ih =>
    rw [appendAll_cons, ih (appendOne_writesAtFill hw v), appendOne_track_self, List.length_cons,
      Nat.add_assoc, Nat.add_comm 1]

/-- A place beyond those the samples take keeps its word. -/
theorem read_appendAll_of_ne {u : TrackNo} (vs : List Word) {s : State} (hw : (s.track u).WritesAtFill)
    (hm : Mem.Wf s.replay.mem) {a : Nat}
    (ha : ∀ j, j < vs.length → a ≠ (s.track u).desc.forward (s.track u).readPoint ((s.track u).fill + j)) :
    Mem.read (appendAll u vs s).replay.mem a = Mem.read s.replay.mem a := by
  induction vs generalizing s with
  | nil => rfl
  | cons v vs ih =>
    have hfirst : a ≠ (s.track u).writePoint := by
      rw [hw.writePoint_eq]; exact ha 0 (by simp)
    have hrest : ∀ j, j < vs.length → a ≠ (s.track u).desc.forward (s.track u).readPoint ((s.track u).fill + 1 + j) :=
      fun j hj => by rw [Nat.add_assoc, Nat.add_comm 1]; exact ha (j + 1) (by simpa using hj)
    rw [appendAll_cons, ih (appendOne_writesAtFill hw v) (Mem.write_wf hm _ _) (by simpa using hrest), appendOne_mem,
      Mem.read_write hm, if_neg hfirst]

/-- Where the ring has room for all of them, every sample stands at its place: the later ones go to other places. -/
theorem read_appendAll_place {u : TrackNo} (vs : List Word) {s : State} (hw : (s.track u).WritesAtFill)
    (hm : Mem.Wf s.replay.mem) (hroom : (s.track u).fill + vs.length ≤ (s.track u).desc.size) {j : Nat} (hj : j < vs.length) :
    Mem.read (appendAll u vs s).replay.mem ((s.track u).desc.forward (s.track u).readPoint ((s.track u).fill + j))
      = vs.getD j 0 := by
  induction vs generalizing s j with
  | nil => simp at hj
  | cons v vs ih =>
    have hw' := appendOne_writesAtFill hw v
    have hm' : Mem.Wf (appendOne u v s).replay.mem := Mem.write_wf hm _ _
    rw [List.length_cons] at hroom hj
    rw [appendAll_cons]
    cases j with
    | zero =>
      have hlater : ∀ i, i < vs.length → (s.track u).desc.forward (s.track u).readPoint (s.track u).fill
          ≠ (s.track u).desc.forward (s.track u).readPoint ((s.track u).fill + 1 + i) := fun i hi h => by
        have := (TrackDescriptor.forward_inj (by omega) (by omega)).1 h
        omega
      rw [Nat.add_zero, read_appendAll_of_ne vs hw' hm' (by simpa using hlater), appendOne_mem, Mem.read_write hm,
        ← hw.writePoint_eq, if_pos rfl, List.getD_cons_zero]
    | succ j =>
      have hplace := ih hw' hm' (by rw [appendOne_track_self]; simp only; omega) (j := j) (by omega)
      rw [appendOne_track_self] at hplace
      rw [List.getD_cons_succ, ← hplace, Nat.add_assoc, Nat.add_comm 1]

/-! ### The request (R135) -/

/-- The samples `vs` join the ring of track `u`, which plays again if it was in UNDERRUN and has two samples now. -/
def feedRing (u : TrackNo) (vs : List Word) (s : State) : State :=
  (appendAll u vs s).setTrack u (resumeFed ((appendAll u vs s).track u))

theorem feedRing_mem (u : TrackNo) (vs : List Word) (s : State) :
    (feedRing u vs s).replay.mem = (appendAll u vs s).replay.mem := rfl

theorem feedRing_track_self (u : TrackNo) (vs : List Word) (s : State) :
    (feedRing u vs s).track u = resumeFed ((appendAll u vs s).track u) := State.track_setTrack_self _ u _

theorem feedRing_track_ne {u w : TrackNo} (h : u ≠ w) (vs : List Word) (s : State) :
    (feedRing u vs s).track w = s.track w := by
  rw [feedRing, State.track_setTrack_ne _ _ _ _ h, appendAll_track_ne _ _ _ h]

theorem feedRing_moves (u : TrackNo) (vs : List Word) (s : State) :
    feedRing u vs s = { s with replay := (feedRing u vs s).replay } := by
  unfold feedRing State.setTrack
  rw [appendAll_moves]

theorem resumeFed_eq (x : Track) :
    resumeFed x = { x with state := if x.state = .underrun ∧ 2 ≤ x.fill then .playing else x.state } := by
  unfold resumeFed; split <;> rfl

theorem exec_appendTrack {s : State} {r : Request} (hs : s.serves r) (hr : r.code = 17) :
    exec .appendTrack s
      = .next ((appendTrackRequest r s.toHunt).state.answered r (appendTrackRequest r s.toHunt).status
          (appendTrackRequest r s.toHunt).data) :=
  request_serves hs (beq_iff_eq.2 hr)

theorem appendTrackRequest_noTrack {r : Request} (h : 8 ≤ r.object) (s : State) :
    appendTrackRequest r s = refuse .noIndex s := by
  rw [appendTrackRequest, index?_eq_none h]

theorem appendTrackRequest_stored {r : Request} {u : TrackNo} {s : State} (hu : r.object = u.val)
    (hmode : (s.track u).desc.mode = .stored) : appendTrackRequest r s = refuse .range s := by
  simp only [appendTrackRequest, hu, index?_val, hmode, if_true]

/-- A FED track takes as many words as its ring has room for; the rest advance its APPEND_DROPPED. -/
theorem appendTrackRequest_fed {r : Request} {u : TrackNo} {s : State} {n : Nat} (hu : r.object = u.val)
    (hmode : (s.track u).desc.mode = .fed) (hn : n = min r.data.length ((s.track u).desc.size - (s.track u).fill)) :
    appendTrackRequest r s
      = if n = r.data.length then done [word n] (feedRing u (r.data.take n) s)
        else { state := advance (ctrAppendDropped u) (r.data.length - n) (feedRing u (r.data.take n) s)
               status := .part, data := [word n] } := by
  simp only [appendTrackRequest, hu, index?_val, hmode, ← hn, reduceCtorEq, if_false, feedRing]

/-- What the request comes to on a FED track, full or PARTIAL: the ring is fed, and the words without room are counted. -/
theorem exec_appendTrack_fed {s : State} {r : Request} {u : TrackNo} {n : Nat} (hs : s.serves r) (hr : r.code = 17)
    (hu : r.object = u.val) (hmode : (s.track u).desc.mode = .fed)
    (hn : n = min r.data.length ((s.track u).desc.size - (s.track u).fill)) :
    ∃ t, exec .appendTrack s = .next (t.answered r (if n = r.data.length then .ok else .part) [word n])
      ∧ EventsMoved (feedRing u (r.data.take n) s.toHunt) t
      ∧ t.events.counters[ctrAppendDropped u]
          = s.events.counters[ctrAppendDropped u] + word (r.data.length - n)
      ∧ (n = r.data.length → t = feedRing u (r.data.take n) s.toHunt) := by
  have hanswer := appendTrackRequest_fed (s := s.toHunt) hu hmode hn
  have hevents : (feedRing u (r.data.take n) s.toHunt).events = s.events := by rw [feedRing_moves]; rfl
  rw [exec_appendTrack hs hr]
  by_cases hfull : n = r.data.length
  · rw [if_pos hfull] at hanswer
    refine ⟨feedRing u (r.data.take n) s.toHunt, by rw [hanswer, if_pos hfull]; rfl, EventsMoved.refl _, ?_, fun _ => rfl⟩
    rw [hevents, hfull, Nat.sub_self]
    exact (BitVec.add_zero _).symm
  · rw [if_neg hfull] at hanswer
    refine ⟨_, by rw [hanswer, if_neg hfull], advance_moves _ _ _, ?_, fun h => absurd h hfull⟩
    rw [Fin.getElem_fin, advance_counter_self, hevents]
    rfl

/-- Settles O34: n is at most the room of the ring, so the n words taken stand at n free places of it. -/
theorem appendFillsTheRing : Obligations.AppendFillsTheRing := by
  intro s r hs hr
  refine ⟨fun habsent => ?absent, fun u hu => ⟨fun hmode => ?stored, fun hmode hlegal hm => ?fed⟩⟩
  case absent => rw [exec_appendTrack hs hr, appendTrackRequest_noTrack habsent]; rfl
  case stored => rw [exec_appendTrack hs hr, appendTrackRequest_stored (s := s.toHunt) hu hmode]; rfl
  case fed =>
    have hw := hlegal.writesAtFill
    have hfill := hlegal.fill_le
    generalize hn : min r.data.length ((s.track u).desc.size - (s.track u).fill) = n
    have hlen : (r.data.take n).length = n := by rw [List.length_take]; omega
    obtain ⟨t, hexec, hmoved, hcount, hall⟩ := exec_appendTrack_fed hs hr hu hmode hn.symm
    have hreplay : t.replay = (feedRing u (r.data.take n) s.toHunt).replay := by rw [hmoved]
    have htrack (v : TrackNo) : t.track v = (feedRing u (r.data.take n) s.toHunt).track v := by
      simp only [State.track, hreplay]
    refine ⟨t, hexec, fun j hj => ?place, fun a ha => ?other, ?track, fun v hv => ?tracks, hcount, ?frame,
      fun hfull => ?unmoved⟩
    case place =>
      have hplace := read_appendAll_place (u := u) (s := s.toHunt) (r.data.take n) hw hm
        (by rw [hlen, State.track_toHunt]; omega) (hlen.symm ▸ hj)
      rw [hreplay, feedRing_mem]
      refine hplace.trans ?_
      simp [List.getD_eq_getElem?_getD, hj]
    case other =>
      rw [hreplay, feedRing_mem]
      exact read_appendAll_of_ne (s := s.toHunt) _ hw hm (hlen.symm ▸ ha)
    case track =>
      rw [htrack, feedRing_track_self, appendAll_track_self (s := s.toHunt) _ hw, resumeFed_eq, hlen]
      rfl
    case tracks => rw [htrack, feedRing_track_ne (Ne.symm hv)]; rfl
    case frame => rw [hmoved, feedRing_moves]; rfl
    case unmoved => rw [hall hfull, feedRing_moves]; exact ⟨rfl, rfl⟩

end Sys2Proof.Machine
end

section
/-! ARM CAPTURE and STOP CAPTURE (9.2, 9.3, 9.7; R143, R147, R149): a set that stops closes its FILLING half, whichever of the two
it is, and then drains or, with no half FULL, is done at once. -/

namespace Sys2Proof.Machine

/-! ### One half of a set and the other (9.1) -/

section
variable (x : CaptureSet) (h : HalfName) (y : Half)

@[simp] theorem CaptureSet.half_setHalf_self : (x.setHalf h y).half h = y := by cases h <;> rfl

@[simp] theorem CaptureSet.half_setHalf_other : (x.setHalf h y).half h.other = x.half h.other := by cases h <;> rfl

theorem CaptureSet.filling?_of_half (hf : (x.half h).state = .filling) (ho : (x.half h.other).state ≠ .filling) :
    x.filling? = some h := by
  cases h with
  | a => exact if_pos hf
  | b => exact (if_neg ho).trans (if_pos hf)

theorem CaptureSet.filling?_eq_none (ha : x.halfA.state ≠ .filling) (hb : x.halfB.state ≠ .filling) :
    x.filling? = none := by
  rw [CaptureSet.filling?, if_neg ha, if_neg hb]

theorem CaptureSet.drained_iff_half :
    x.drained = true ↔ (x.half h).state ≠ .full ∧ (x.half h.other).state ≠ .full := by
  cases h with
  | a => simp [CaptureSet.drained, CaptureSet.half, HalfName.other]
  | b => simp [CaptureSet.drained, CaptureSet.half, HalfName.other, and_comm]

end

/-- The set waits for its FULL halves to drain (R147). -/
def CaptureSet.stopped (x : CaptureSet) : CaptureSet := { x with state := .draining, due := none }

@[simp] theorem CaptureSet.stopped_half (x : CaptureSet) (h : HalfName) : x.stopped.half h = x.half h := by
  cases h <;> rfl

/-- A FILLING half closed as EMPTY leaves no half FULL if the other is not. -/
theorem CaptureSet.stopped_emptied_drained_iff (x : CaptureSet) (h : HalfName) :
    (x.setHalf h (x.half h).emptied).stopped.drained = true ↔ (x.half h.other).state ≠ .full := by
  simp [CaptureSet.drained_iff_half _ h, Half.emptied]

/-! ### A set that stops (R147) -/

section
variable {s : State} {k : SetNo} {x : CaptureSet}

theorem State.setCapture_setCapture (s : State) (k : SetNo) (x y : CaptureSet) :
    (s.setCapture k x).setCapture k y = s.setCapture k y := by
  simp [State.setCapture]

theorem settleDrain_of_drained (hx : s.capture[k] = x) (hd : x.drained = true) :
    settleDrain k s = raise (.captureDone k) (s.setCapture k { x with state := .idle }) := by
  rw [settleDrain, hx, if_pos hd]

theorem settleDrain_of_not_drained (hx : s.capture[k] = x) (hd : ¬ x.drained = true) : settleDrain k s = s := by
  rw [settleDrain, hx, if_neg hd]

theorem stopCapture_of_not_active (hx : s.capture[k] = x) (ha : x.active = false) : stopCapture k s = s := by
  rw [stopCapture, hx, ha]; rfl

/-- The set drains from what closing its FILLING half leaves of it. -/
theorem stopCapture_of_closed {t : State} {y : CaptureSet} (hx : s.capture[k] = x) (ha : x.active = true)
    (hclose : closeFilling k s = t) (hy : t.capture[k] = y) :
    stopCapture k s = settleDrain k (t.setCapture k y.stopped) := by
  subst hx hy
  rw [stopCapture, if_pos ha, hclose]
  rfl

/-- A FILLING half with a record turns FULL, so the set drains. -/
theorem stopCapture_of_records {h : HalfName} (hx : s.capture[k] = x) (ha : x.active = true) (hf : x.filling? = some h)
    (hr : (x.half h).records ≠ []) :
    stopCapture k s
      = { s.setCapture k (x.setHalf h (x.half h).filled).stopped with
          tx := { s.tx with drain := s.tx.drain ++ [{ set := k, half := h, sent := 0 }] } } := by
  have hclose : closeFilling k s = fillHalf k h s := by simp only [closeFilling, hx, hf, if_neg hr]
  have hset : (fillHalf k h s).capture[k] = x.setHalf h (x.half h).filled :=
    hx ▸ State.capture_setCapture_self s k _
  have hfull : ¬ (x.setHalf h (x.half h).filled).stopped.drained = true := by
    simp [CaptureSet.drained_iff_half _ h, Half.filled]
  rw [stopCapture_of_closed hx ha hclose hset, settleDrain_of_not_drained (State.capture_setCapture_self _ k _) hfull]
  simp [fillHalf, State.setCapture]

/-- A FILLING half without a record turns EMPTY. -/
theorem stopCapture_of_no_records {h : HalfName} (hx : s.capture[k] = x) (ha : x.active = true)
    (hf : x.filling? = some h) (hr : (x.half h).records = []) :
    stopCapture k s = settleDrain k (s.setCapture k (x.setHalf h (x.half h).emptied).stopped) := by
  have hclose : closeFilling k s = s.setCapture k (x.setHalf h (x.half h).emptied) := by
    simp only [closeFilling, hx, hf, if_pos hr]
  rw [stopCapture_of_closed hx ha hclose (State.capture_setCapture_self _ k _), State.setCapture_setCapture]

/-- Without a FILLING half nothing is closed. -/
theorem stopCapture_of_none (hx : s.capture[k] = x) (ha : x.active = true) (hf : x.filling? = none) :
    stopCapture k s = settleDrain k (s.setCapture k x.stopped) :=
  stopCapture_of_closed hx ha (by simp only [closeFilling, hx, hf]) hx

end

/-! ### The two requests (R143, R149) -/

section
variable {s : State} {r : Request} {k : SetNo} {x : CaptureSet}

theorem exec_armCapture (hs : s.serves r) (hr : r.code = 19) :
    exec .armCapture s
      = .next ((armCaptureRequest r s.toHunt).state.answered r (armCaptureRequest r s.toHunt).status
          (armCaptureRequest r s.toHunt).data) :=
  request_serves hs (beq_iff_eq.2 hr)

theorem exec_stopCapture (hs : s.serves r) (hr : r.code = 20) :
    exec .stopCapture s
      = .next ((stopCaptureRequest r s.toHunt).state.answered r (stopCaptureRequest r s.toHunt).status
          (stopCaptureRequest r s.toHunt).data) :=
  request_serves hs (beq_iff_eq.2 hr)

theorem armCaptureRequest_noSet (h : 2 ≤ r.object) (s : State) : armCaptureRequest r s = refuse .noIndex s := by
  rw [armCaptureRequest, index?_eq_none h]

theorem stopCaptureRequest_noSet (h : 2 ≤ r.object) (s : State) : stopCaptureRequest r s = refuse .noIndex s := by
  rw [stopCaptureRequest, index?_eq_none h]

theorem armCaptureRequest_busy (hk : r.object = k.val) (hx : s.capture[k] = x) (hst : x.state ≠ .idle) :
    armCaptureRequest r s = refuse .busy s := by
  simp only [armCaptureRequest, hk, index?_val, hx, hst, if_false]

theorem armCaptureRequest_idle (hk : r.object = k.val) (hx : s.capture[k] = x) (hst : x.state = .idle) :
    armCaptureRequest r s = done [word ((armCapture k s).capture[k]).state.num] (armCapture k s) := by
  simp only [armCaptureRequest, hk, index?_val, hx, hst, if_true]

theorem stopCaptureRequest_set (hk : r.object = k.val) (hx : s.capture[k] = x) :
    stopCaptureRequest r s = done [word x.state.num] (stopRequested k s) := by
  simp only [stopCaptureRequest, hk, index?_val, hx]

/-- A set with a start watch waits for its fire. -/
theorem armCapture_of_watch {w : WatchNo} (hx : s.capture[k] = x) (hw : x.record.start = some w) :
    armCapture k s = s.setCapture k x.armedAnew := by
  simp only [armCapture, hx, hw, reduceCtorEq, if_false]

/-- A set without a start watch starts at once: half A opens (R143, R144). -/
theorem armCapture_of_no_watch (hx : s.capture[k] = x) (hw : x.record.start = none) :
    armCapture k s
      = s.setCapture k
          { x.armedAnew with state := .recording, halfA := x.armedAnew.halfA.opened, ticksToNext := 0, due := none } := by
  have hset : (s.setCapture k x.armedAnew).capture[k] = x.armedAnew := State.capture_setCapture_self s k _
  simp only [armCapture, hx, hw, if_true, startCapture, hset, State.setCapture_setCapture]

theorem stopRequested_of_armed (hx : s.capture[k] = x) (hst : x.state = .armed) :
    stopRequested k s = raise (.captureDone k) (s.setCapture k { x with state := .idle }) := by
  rw [stopRequested, hx, if_pos hst]

theorem stopRequested_of_not_armed (hx : s.capture[k] = x) (hst : x.state ≠ .armed) :
    stopRequested k s = stopCapture k s := by
  rw [stopRequested, hx, if_neg hst]

/-- What ARM CAPTURE comes to on an IDLE set whose arming makes it `y`. -/
theorem exec_armCapture_idle {y : CaptureSet} (hs : s.serves r) (hr : r.code = 19) (hk : r.object = k.val)
    (hst : (s.capture[k]).state = .idle) (harm : armCapture k s.toHunt = s.toHunt.setCapture k y) :
    exec .armCapture s = .next ((s.toHunt.setCapture k y).answered r .ok [word y.state.num]) := by
  have hset : (s.toHunt.setCapture k y).capture[k] = y := State.capture_setCapture_self _ k y
  rw [exec_armCapture hs hr, armCaptureRequest_idle (s := s.toHunt) hk rfl hst, harm, hset]
  rfl

/-- What STOP CAPTURE comes to on a set: its earlier state is answered. -/
theorem exec_stopCapture_set (hs : s.serves r) (hr : r.code = 20) (hk : r.object = k.val) :
    exec .stopCapture s
      = .next ((stopRequested k s.toHunt).answered r .ok [word (s.capture[k]).state.num]) := by
  rw [exec_stopCapture hs hr, stopCaptureRequest_set (s := s.toHunt) hk rfl]
  rfl

end

/-- Settles O36: each request by the state of the set, a RECORDING one by its FILLING half's records and the other half's state. -/
theorem captureRequestsArmAndStop : Obligations.CaptureRequestsArmAndStop := by
  intro s r hs
  refine ⟨fun hr habsent => ?armNoSet, fun hr habsent => ?stopNoSet, fun k hk => ?_⟩
  case armNoSet => rw [exec_armCapture hs hr, armCaptureRequest_noSet habsent]; rfl
  case stopNoSet => rw [exec_stopCapture hs hr, stopCaptureRequest_noSet habsent]; rfl
  intro x cleared
  have hx : s.toHunt.capture[k] = x := rfl
  refine ⟨fun hr hst => ?armBusy, fun hr hst w hw => ?armWatch, fun hr hst hw => ?armStart, fun hr hst => ?stopStill,
    fun hr hst => ?stopArmed, fun h hr hst hf ho => ?stopRecording, fun hr hst ha hb => ?stopOverrun⟩
  case armBusy => rw [exec_armCapture hs hr, armCaptureRequest_busy (s := s.toHunt) hk hx hst]; rfl
  case armWatch => exact exec_armCapture_idle hs hr hk hst (armCapture_of_watch hx hw)
  case armStart => exact exec_armCapture_idle hs hr hk hst (armCapture_of_no_watch hx hw)
  case stopStill =>
    have hna : x.state ≠ .armed := by rcases hst with hst | hst <;> simp [hst]
    have hact : x.active = false := by rcases hst with hst | hst <;> simp [CaptureSet.active, hst]
    rw [exec_stopCapture_set hs hr hk, stopRequested_of_not_armed hx hna, stopCapture_of_not_active hx hact]
  case stopArmed =>
    have hnum : (s.capture[k]).state.num = 1 := congrArg CaptureState.num hst
    rw [exec_stopCapture_set hs hr hk, stopRequested_of_armed hx hst, hnum]
    rfl
  case stopRecording =>
    have hact : x.active = true := by simp [CaptureSet.active, hst]
    have hna : x.state ≠ .armed := by simp [hst]
    have hnum : (s.capture[k]).state.num = 2 := congrArg CaptureState.num hst
    have hfill := x.filling?_of_half h hf ho
    rw [exec_stopCapture_set hs hr hk, stopRequested_of_not_armed hx hna, hnum]
    refine ⟨fun hrec => ?kept, fun hrec hfull => ?drains, fun hrec hvacant => ?doneAtOnce⟩
    case kept => rw [stopCapture_of_records hx hact hfill hrec]; rfl
    case drains =>
      have hd := (x.stopped_emptied_drained_iff h).not.2 (not_not.2 hfull)
      rw [stopCapture_of_no_records hx hact hfill hrec,
        settleDrain_of_not_drained (State.capture_setCapture_self _ k _) hd]
      rfl
    case doneAtOnce =>
      have hd := (x.stopped_emptied_drained_iff h).2 (by simp [hvacant])
      rw [stopCapture_of_no_records hx hact hfill hrec,
        settleDrain_of_drained (State.capture_setCapture_self _ k _) hd, State.setCapture_setCapture]
      rfl
  case stopOverrun =>
    have hact : x.active = true := by simp [CaptureSet.active, hst]
    have hna : x.state ≠ .armed := by simp [hst]
    have hnum : (s.capture[k]).state.num = 3 := congrArg CaptureState.num hst
    have hfill := x.filling?_eq_none (by simp [ha]) (by simp [hb])
    have hd : ¬ x.stopped.drained = true := by simp [CaptureSet.drained, CaptureSet.stopped, ha]
    rw [exec_stopCapture_set hs hr hk, stopRequested_of_not_armed hx hna, hnum, stopCapture_of_none hx hact hfill,
      settleDrain_of_not_drained (State.capture_setCapture_self _ k _) hd]
    rfl

end Sys2Proof.Machine
end

section
/-! What the written records are: every record a table's decoder takes from words is one its RANGE check allows (12.4). -/

namespace Sys2Proof.Machine

theorem bits_lt (w : Word) (lo len : Nat) : bits w lo len < 2 ^ len := Nat.mod_lt _ (by positivity)

theorem decodeAll_forall {α : Type} {f : List Word → Option α} {p : α → Prop} (hf : ∀ ws x, f ws = some x → p x) :
    ∀ {gs : List (List Word)} {xs : List α}, decodeAll f gs = some xs → ∀ x ∈ xs, p x
  | [], xs, h => by
    obtain rfl : [] = xs := by simpa [decodeAll] using h
    simp
  | g :: gs, xs, h => by
    unfold decodeAll at h
    split at h
    · rename_i y ys hy hys
      obtain rfl : y :: ys = xs := by simpa using h
      simpa using ⟨hf g y hy, decodeAll_forall hf hys⟩
    · simp at h

theorem clampSafe_between {lo hi : Word} (v : Word) (h : lo.toInt ≤ hi.toInt) :
    lo.toInt ≤ (clampSafe lo hi v).toInt ∧ (clampSafe lo hi v).toInt ≤ hi.toInt := by
  unfold clampSafe
  split_ifs <;> omega

theorem channelOf?_legal {ws : List Word} {r : ChannelRecord} (h : channelOf? ws = some r) : r.Legal := by
  simp only [channelOf?, Option.bind_eq_bind, Option.bind_eq_some_iff, Option.ite_none_left_eq_some, Option.some.injEq] at h
  obtain ⟨_, _, _, _, _, _, hlimits, htrim, rfl⟩ := h
  have := clampSafe_between (ws.getD 5 0) (not_lt.1 hlimits)
  simp only [ChannelRecord.Legal]
  omega

theorem overlayOf?_legal {ws : List Word} {r : OverlayRecord} (h : overlayOf? ws = some r) : r.Legal := by
  simp only [overlayOf?, Option.bind_eq_bind, Option.bind_eq_some_iff, Option.ite_none_left_eq_some, Option.some.injEq] at h
  obtain ⟨_, _, _, _, _, _, _, _, _, _, hgap, hcycle, rfl⟩ := h
  have := (ws.getD 7 0).isLt
  have := (ws.getD 8 0).isLt
  simp only [OverlayRecord.Legal]
  omega

theorem trackOf?_legal {ws : List Word} {d : TrackDescriptor} (h : trackOf? ws = some d) : d.Legal := by
  simp only [trackOf?, Option.bind_eq_bind, Option.bind_eq_some_iff, Option.ite_none_left_eq_some, Option.some.injEq] at h
  obtain ⟨_, _, _, _, _, _, hregion, rfl⟩ := h
  simp only [TrackDescriptor.Legal]
  split at hregion <;> split <;> omega

theorem captureOf?_channels {ws : List Word} {r : CaptureRecord} (h : captureOf? ws = some r) :
    1 ≤ r.channels ∧ r.channels ≤ 8 := by
  simp only [captureOf?, Option.bind_eq_bind, Option.bind_eq_some_iff, Option.ite_none_left_eq_some, Option.some.injEq] at h
  obtain ⟨_, _, _, _, _, _, hcount, _, rfl⟩ := h
  simp only
  omega

theorem clampNat_between {lo hi : Nat} (n : Nat) (h : lo ≤ hi) : lo ≤ clampNat lo hi n ∧ clampNat lo hi n ≤ hi := by
  unfold clampNat
  omega

theorem setupOf?_legal {ws : List Word} {x : Setup} (h : setupOf? ws = some x) : x.Legal := by
  simp only [setupOf?, Option.bind_eq_bind, Option.bind_eq_some_iff, Option.ite_none_left_eq_some, Option.some.injEq] at h
  obtain ⟨_, _, _, _, hranges, rfl⟩ := h
  have hstale := bits_lt (ws.getD 3 0) 8 8
  have hrecovery := bits_lt (ws.getD 3 0) 0 8
  refine ⟨clampNat_between _ (by decide), clampNat_between _ (by decide), ?_, ?_, ?_⟩ <;> simp only <;> omega

theorem mapDistinct_iff {m : Vector (Option Chan) 32} :
    mapDistinct m = true ↔ ∀ (i j : Fin 32) (c : Chan), m[i] = some c → m[j] = some c → i = j := by
  rw [mapDistinct, decide_eq_true_iff, List.Nodup, List.pairwise_filterMap, List.pairwise_iff_getElem]
  simp only [id_eq, Vector.getElem_toList, Vector.length_toList, Fin.getElem_fin]
  constructor
  · intro h i j c hi hj
    rcases Nat.lt_trichotomy i.val j.val with hlt | heq | hlt
    · exact absurd rfl (h i j i.isLt j.isLt hlt c hi c hj)
    · exact Fin.ext heq
    · exact absurd rfl (h j i j.isLt i.isLt hlt c hj c hi)
  · rintro h i j hi hj hlt c hci d hdj rfl
    exact hlt.ne (congrArg Fin.val (h ⟨i, hi⟩ ⟨j, hj⟩ c hci hdj))

theorem viewBase_legal (v : Word) : viewLegal (viewBase v) := by
  unfold viewLegal viewBase
  omega

end Sys2Proof.Machine
end

section
/-! What a command can do to the state: one inversion of the requests' meanings, and one of `exec` and `step`. -/

namespace Sys2Proof.Machine

/-! ### What serving a request can do -/

/-- The states a request can leave a state in, before its reply is queued. The data of each case are what the checks of the request
have established. -/
inductive Served (s : State) : State → Prop
  /-- A refusal, or a request that reads. -/
  | same : Served s s
  | channels (i : Nat) (rs : List ChannelRecord) (hlegal : ∀ r ∈ rs, r.Legal) : Served s (putChannels i rs s)
  | slotMap (m : Vector (Option Chan) 32) (hdistinct : mapDistinct m = true) :
      Served s { s with ingress := { s.ingress with slotMap := m } }
  | overlays (i : Nat) (rs : List OverlayRecord) (hlegal : ∀ r ∈ rs, r.Legal) : Served s (putOverlays i rs s)
  | blocks (a : Nat) (ws : List Word) :
      Served s { s with scenario := { s.scenario with blocks := Mem.writeAll s.scenario.blocks a ws } }
  | entries (a : Nat) (ws : List Word) :
      Served s { s with scenario := { s.scenario with entries := Mem.writeAll s.scenario.entries a ws } }
  | watches (i : Nat) (rs : List WatchRecord) : Served s (putWatches i rs s)
  | tracks (i : Nat) (ds : List TrackDescriptor) (hlegal : ∀ d ∈ ds, d.Legal)
      (hclash : regionsClash i ds.length (putAll s.replay.tracks i (ds.map Track.cleared)) = false) :
      Served s { s with replay := { s.replay with tracks := putAll s.replay.tracks i (ds.map Track.cleared) } }
  | captures (i : Nat) (rs : List CaptureRecord) (hcount : ∀ r ∈ rs, 1 ≤ r.channels ∧ r.channels ≤ 8)
      (hidle : ∀ k : SetNo, i ≤ k.val → k.val < i + rs.length → s.capture[k].state = .idle) :
      Served s { s with capture := Vector.ofFn fun k =>
        { s.capture[k] with record := (written? i rs k.val).getD s.capture[k].record } }
  | setup (x : Setup) (hlegal : x.Legal) : Served s (putSetup x s)
  | memory (a : Nat) (ws : List Word) :
      Served s { s with replay := { s.replay with mem := Mem.writeAll s.replay.mem a ws } }
  | standing (c : Chan) (o : Fin 256) : Served s (installBase c s.bank[o] s)
  | patch (c : Chan) (f : PatchField) (v : Word) : Served s (patchChannel c f v s)
  | views (a b : Word) :
      Served s { s with ingress := { s.ingress with view0 := viewBase a, view1 := viewBase b } }
  | look : Served s (lookAtPort s)
  | arm (n : SlotNo) (b : Nat) (hsafe : s.safe.asserted = false) (hidle : (s.slot n).state = .idle) :
      Served s (armSlot n b (s.block b) s)
  | abort (n : SlotNo) : Served s ((leaveChannel n s).setSlot n Slot.idle)
  | clear (n : SlotNo) (hfaulted : (s.slot n).state = .faulted) : Served s (s.setSlot n Slot.idle)
  | resetScenarios : Served s ((clearChannels s).mapSlots fun _ => Slot.idle)
  | play (t : TrackNo) : Served s (s.setTrack t (playTrack (s.track t)))
  | stop (t : TrackNo) : Served s (s.setTrack t (stopTrack (s.track t)))
  | append (t : TrackNo) (vs : List Word) (u : State) (hroom : vs.length ≤ (s.track t).desc.size - (s.track t).fill)
      (hmoves : EventsMoved (feedRing t vs s) u) (hu : u = feedRing t vs s ∨ ∃ n, u = advance (ctrAppendDropped t) n (feedRing t vs s)) :
      Served s u
  | armCapture (k : SetNo) (hidle : s.capture[k].state = .idle) : Served s (armCapture k s)
  | stopCapture (k : SetNo) : Served s (stopRequested k s)
  | rearm (w : WatchNo) : Served s (s.setWatch w { s.watchOf w with count := 0, spent := false, latched := false })
  | hits : Served s { s with watch := { s.watch with hits := 0 } }
  | counter (i : CounterNo) (v : Word) :
      Served s { s with events := { s.events with counters := s.events.counters.set i v } }
  | events :
      Served s { s with events := { s.events with flags := 0, summary := 0 }, tx := { s.tx with report := false } }
  | device : Served s (resetDevice s)

section
variable (r : Request) (s : State)

theorem readRecordRequest_served : Served s (readRecordRequest r s).state := by
  unfold readRecordRequest
  split
  · exact .same
  · split_ifs <;> exact .same

/-- A write that passes the checks every table shares comes to the table's own rule. -/
theorem writeTable_served {object size words : Nat} {store : Nat → List (List Word) → State → Answer}
    (h : ∀ i gs, Served s (store i gs s).state) : Served s (writeTable object size words store r s).state := by
  unfold writeTable
  split_ifs
  · exact .same
  · exact .same
  · exact .same
  · exact h _ _

/-- A table whose only check is RANGE stores records its decoder takes. -/
theorem storeDecoded_served {α : Type} {decode : List Word → Option α} {put : Nat → List α → State → State}
    {p : α → Prop} (hp : ∀ ws x, decode ws = some x → p x) (hput : ∀ i xs, (∀ x ∈ xs, p x) → Served s (put i xs s))
    (i : Nat) (gs : List (List Word)) : Served s (storeDecoded decode put i gs s).state := by
  unfold storeDecoded
  split
  · exact .same
  · rename_i xs hxs
    exact hput i xs (decodeAll_forall hp hxs)

theorem storeSlotMap_served (i : Nat) (gs : List (List Word)) : Served s (storeSlotMap i gs s).state := by
  unfold storeSlotMap
  split
  · exact .same
  · simp only
    split_ifs with hdistinct
    · exact .slotMap _ hdistinct
    · exact .same

theorem storeTracks_served (i : Nat) (gs : List (List Word)) : Served s (storeTracks i gs s).state := by
  unfold storeTracks
  split
  · exact .same
  · rename_i ds hds
    simp only
    split_ifs with _ hclash
    · exact .same
    · exact .same
    · exact .tracks i ds (decodeAll_forall (fun _ _ => trackOf?_legal) hds) (by simpa using hclash)

theorem storeCaptures_served (i : Nat) (gs : List (List Word)) : Served s (storeCaptures i gs s).state := by
  unfold storeCaptures
  split
  · exact .same
  · rename_i rs hrs
    split_ifs with _ hbusy
    · exact .same
    · exact .same
    · refine .captures i rs (decodeAll_forall (fun _ _ => captureOf?_channels) hrs) fun k hlo hhi => ?_
      simp only [List.any_eq_true, List.mem_finRange, true_and, Bool.and_eq_true, decide_eq_true_eq, not_exists,
        not_and, not_not] at hbusy
      exact hbusy k ⟨hlo, hhi⟩

theorem putSetups_served (i : Nat) (xs : List Setup) (h : ∀ x ∈ xs, x.Legal) : Served s (putSetups i xs s) := by
  cases xs with
  | nil => exact .same
  | cons x xs => exact .setup x (h x (List.mem_cons_self ..))

theorem readMemoryRequest_served : Served s (readMemoryRequest r s).state := by
  unfold readMemoryRequest
  split_ifs <;> exact .same

theorem writeMemoryRequest_served : Served s (writeMemoryRequest r s).state := by
  unfold writeMemoryRequest
  split_ifs
  · exact .same
  · exact .memory _ _

theorem setStandingRequest_served : Served s (setStandingRequest r s).state := by
  unfold setStandingRequest
  split
  · split_ifs
    · exact .same
    · exact .same
    · exact .standing _ _
  · exact .same

theorem patchRequest_served : Served s (patchRequest r s).state := by
  unfold patchRequest
  split
  · exact .same
  · split
    · split_ifs
      · exact .patch _ _ _
      · exact .same
    · exact .same

theorem setViewsRequest_served : Served s (setViewsRequest r s).state := by
  unfold setViewsRequest
  split
  · exact .views _ _
  · exact .same

theorem channelStatusRequest_served : Served s (channelStatusRequest r s).state := by
  unfold channelStatusRequest
  split
  · exact .same
  · exact .look

theorem armSlotRequest_served : Served s (armSlotRequest r s).state := by
  unfold armSlotRequest
  split
  · exact .same
  · rename_i n _
    split_ifs with _ hsafe hbusy hfaulted
    · exact .same
    · exact .same
    · exact .same
    · exact .same
    · split
      · exact .same
      · refine .arm n r.index (by simpa using hsafe) ?_
        cases hst : (s.slot n).state <;> simp_all [SlotState.busy]

theorem abortSlotRequest_served : Served s (abortSlotRequest r s).state := by
  unfold abortSlotRequest
  split
  · exact .same
  · exact .abort _

theorem clearSlotRequest_served : Served s (clearSlotRequest r s).state := by
  unfold clearSlotRequest
  split
  · exact .same
  · simp only
    split_ifs with _ hfaulted
    · exact .same
    · exact .clear _ hfaulted
    · exact .same

theorem slotStatusRequest_served : Served s (slotStatusRequest r s).state := by
  unfold slotStatusRequest
  split <;> exact .same

theorem playTrackRequest_served : Served s (playTrackRequest r s).state := by
  unfold playTrackRequest
  split
  · exact .same
  · split_ifs
    · exact .same
    · exact .play _

theorem stopTrackRequest_served : Served s (stopTrackRequest r s).state := by
  unfold stopTrackRequest
  split
  · exact .same
  · exact .stop _

theorem appendTrackRequest_served : Served s (appendTrackRequest r s).state := by
  unfold appendTrackRequest
  split
  · exact .same
  · rename_i t _
    have hroom : (r.data.take (min r.data.length ((s.track t).desc.size - (s.track t).fill))).length
        ≤ (s.track t).desc.size - (s.track t).fill := by rw [List.length_take]; omega
    simp only
    split_ifs
    · exact .same
    · exact .append t _ _ hroom (EventsMoved.refl _) (.inl rfl)
    · exact .append t _ _ hroom (advance_moves _ _ _) (.inr ⟨_, rfl⟩)

theorem trackStatusRequest_served : Served s (trackStatusRequest r s).state := by
  unfold trackStatusRequest
  split <;> exact .same

theorem armCaptureRequest_served : Served s (armCaptureRequest r s).state := by
  unfold armCaptureRequest
  split
  · exact .same
  · split_ifs with hidle
    · exact .armCapture _ hidle
    · exact .same

theorem stopCaptureRequest_served : Served s (stopCaptureRequest r s).state := by
  unfold stopCaptureRequest
  split
  · exact .same
  · exact .stopCapture _

theorem captureStatusRequest_served : Served s (captureStatusRequest r s).state := by
  unfold captureStatusRequest
  split <;> exact .same

theorem rearmWatchRequest_served : Served s (rearmWatchRequest r s).state := by
  unfold rearmWatchRequest
  split
  · exact .same
  · exact .rearm _

theorem readCountersRequest_served : Served s (readCountersRequest r s).state := by
  unfold readCountersRequest
  split_ifs <;> exact .same

theorem loadCounterRequest_served : Served s (loadCounterRequest r s).state := by
  unfold loadCounterRequest
  split
  · exact .same
  · split
    · exact .same
    · exact .counter _ _

end

/-! ### What a command can do -/

/-- The states a command can leave a state in. The phase is given where a command acts in normal running only. -/
inductive Effect (s : State) : State → Prop
  /-- The event does not occur (log 1). -/
  | same : Effect s s
  | word (w : Word) (hroom : s.rx.buffer.length < 64) :
      Effect s { s with rx := { s.rx with buffer := s.rx.buffer ++ [w] } }
  | start : Effect s { s with rx := { s.rx with framing := .frame, buffer := [] } }
  | discard (f : Framing) : Effect s (discardFrame f s)
  /-- A good FILL frame is ignored. -/
  | fill : Effect s s.toHunt
  /-- A frame is rejected, or a request dropped, and counted. -/
  | counted (i : CounterNo) : Effect s (advance i 1 s.toHunt)
  | sample (us : Nat) (o : CountOrder) (f : SampleFrame) (hrun : s.phase = .running) : Effect s (takeSample us o f s.toHunt)
  | served (r : Request) (st : Status) (data : List Word) (u : State) (hs : s.serves r) (hu : Served s.toHunt u) :
      Effect s (u.answered r st data)
  | tick (o : CountOrder) (y : FrameTimer) (hrun : s.phase = .running) : Effect s (tick o { s with timer := y })
  | delivered (d : Delivery) : Effect s (finishDelivery d s)
  | live : Effect s (flowLive s)
  | starved (y : FrameTimer) : Effect s (starved { s with timer := y })
  | spanEnd (t : TrackNo) : Effect s (spanEnd t s)
  | fire (w : WatchNo) (hrun : s.phase = .running) : Effect s (takeFire w s)
  | delay (n : SlotNo) (hrun : s.phase = .running) (hdue : (s.slot n).delayDue = true) :
      Effect s (actSlots (entriesDue s) ((delaysDue s).erase n) (claim n (countSlots s)))
  | duration (n : SlotNo) (hrun : s.phase = .running) (hdue : (s.slot n).entryDue = true) :
      Effect s (actSlots (n :: (entriesDue s).erase n) (delaysDue s) (countSlots s))
  | record (k : SetNo) (hrun : s.phase = .running) : Effect s (recordDue k s)
  | length (k : SetNo) (hrun : s.phase = .running) : Effect s (lengthReached k s)
  | choose : Effect s (choose s)
  | sent (f : UpFrame) (hline : s.tx.line = some f) (hcounts : s.tx.lineCounts = true) : Effect s (Machine.choose (settleSent f s))
  | held : Effect s (holdReset s)
  | init : Effect s (initStart s)
  | ready (hinit : s.phase = .init) : Effect s (initEnd s)
  | safe : Effect s (assertSafe (s.setLow true))
  | low (b : Bool) : Effect s (s.setLow b)
  | release (hrun : s.phase = .running) : Effect s (releaseSafe s)

theorem State.taken?_running {s : State} {f : TakenFrame} (h : s.taken? = some f) : s.phase = .running := by
  unfold State.taken? at h
  split_ifs at h with hrun
  exact hrun.1

/-- A request row comes to what its meaning can do. -/
theorem request_effect {row : Request → Bool} {meaning : Request → State → Answer} {s t : State}
    (h : request row meaning s = .next t) (hm : ∀ r u, Served u (meaning r u).state) : Effect s t := by
  rcases request_cases row meaning s with ⟨r, hs, -, heq⟩ | ⟨r, -, -, -, heq⟩ | heq
    <;> obtain rfl := Host.Outcome.next.inj (heq.symm.trans h)
  · exact .served r _ _ _ hs (hm r _)
  · exact .counted _
  · exact .same

theorem if_next_effect {p : Prop} [Decidable p] {s a t : State}
    (h : (.next (if p then a else s) : Host.Outcome State Fault Refusal) = .next t) (ha : p → Effect s a) : Effect s t := by
  obtain rfl := Host.Outcome.next.inj h
  split_ifs with hp
  · exact ha hp
  · exact .same

/-- What any command can do. -/
theorem exec_effect {c : Instr} {s t : State} (h : exec c s = .next t) : Effect s t := by
  cases c with
  | wordReceived w =>
    obtain rfl := Host.Outcome.next.inj h
    split_ifs with _ hroom
    · exact .same
    · exact .word w hroom
    · exact .discard _
  | startMark =>
    obtain rfl := Host.Outcome.next.inj h
    split_ifs
    · exact .same
    · exact .discard _
    · exact .start
  | codeViolation => exact if_next_effect h fun _ => .discard _
  | frameRejected =>
    obtain rfl := Host.Outcome.next.inj h
    split
    · exact .counted _
    · exact .counted _
    · exact .same
  | sampleFrame us o =>
    obtain rfl := Host.Outcome.next.inj h
    split
    · exact .sample us o _ (State.taken?_running ‹_›)
    · exact .same
  | fillFrame =>
    obtain rfl := Host.Outcome.next.inj h
    split
    · exact .fill
    · exact .same
  | unknownRequest => exact request_effect h fun _ _ => .same
  | readRecord => exact request_effect h readRecordRequest_served
  | writeRecordChannel =>
    exact request_effect h fun r s => writeTable_served r s <|
      storeDecoded_served s (fun _ _ => channelOf?_legal) fun i rs hrs => .channels i rs hrs
  | writeRecordSlotmap => exact request_effect h fun r s => writeTable_served r s (storeSlotMap_served s)
  | writeRecordOverlay =>
    exact request_effect h fun r s => writeTable_served r s <|
      storeDecoded_served s (fun _ _ => overlayOf?_legal) fun i rs hrs => .overlays i rs hrs
  | writeRecordBlock => exact request_effect h fun r s => writeTable_served r s fun _ _ => .blocks _ _
  | writeRecordEpisode => exact request_effect h fun r s => writeTable_served r s fun _ _ => .entries _ _
  | writeRecordWatch =>
    exact request_effect h fun r s => writeTable_served r s <|
      storeDecoded_served s (p := fun _ => True) (fun _ _ _ => trivial) fun i rs _ => .watches i rs
  | writeRecordTrack => exact request_effect h fun r s => writeTable_served r s (storeTracks_served s)
  | writeRecordCapture => exact request_effect h fun r s => writeTable_served r s (storeCaptures_served s)
  | writeRecordSetup =>
    exact request_effect h fun r s => writeTable_served r s <|
      storeDecoded_served s (fun _ _ => setupOf?_legal) (putSetups_served s)
  | readMemory => exact request_effect h readMemoryRequest_served
  | writeMemory => exact request_effect h writeMemoryRequest_served
  | setStanding => exact request_effect h setStandingRequest_served
  | patch => exact request_effect h patchRequest_served
  | setViews => exact request_effect h setViewsRequest_served
  | channelStatus => exact request_effect h channelStatusRequest_served
  | armSlot => exact request_effect h armSlotRequest_served
  | abortSlot => exact request_effect h abortSlotRequest_served
  | clearSlot => exact request_effect h clearSlotRequest_served
  | slotStatus => exact request_effect h slotStatusRequest_served
  | slotSummary => exact request_effect h fun _ _ => .same
  | resetScenarios => exact request_effect h fun _ _ => .resetScenarios
  | playTrack => exact request_effect h playTrackRequest_served
  | stopTrack => exact request_effect h stopTrackRequest_served
  | appendTrack => exact request_effect h appendTrackRequest_served
  | trackStatus => exact request_effect h trackStatusRequest_served
  | armCapture => exact request_effect h armCaptureRequest_served
  | stopCapture => exact request_effect h stopCaptureRequest_served
  | captureStatus => exact request_effect h captureStatusRequest_served
  | rearmWatch => exact request_effect h rearmWatchRequest_served
  | readHits => exact request_effect h fun _ _ => .hits
  | readCounters => exact request_effect h readCountersRequest_served
  | loadCounter => exact request_effect h loadCounterRequest_served
  | readEvents => exact request_effect h fun _ _ => .events
  | resetDevice => exact request_effect h fun _ _ => .device
  | frameTimerExpiry o => exact if_next_effect h fun hp => .tick o _ hp.1
  | heldTickRelease o => exact if_next_effect h fun hp => .tick o _ hp.1
  | deliveryComplete =>
    simp only [exec, execDeliveryComplete] at h
    split at h
    · exact if_next_effect h fun _ => .delivered _
    · obtain rfl := Host.Outcome.next.inj h
      exact .same
  | flowLive => exact if_next_effect h fun _ => .live
  | flowStarved => exact if_next_effect h fun _ => .starved s.timer
  | starveTimerExpiry => exact if_next_effect h fun _ => .starved _
  | trackSpanEnd t =>
    simp only [exec, execTrackSpanEnd] at h
    split at h
    · cases h
    · exact if_next_effect h fun _ => .spanEnd _
  | watchFire w =>
    simp only [exec, execWatchFire] at h
    split at h
    · cases h
    · exact if_next_effect h fun hrun => .fire _ hrun
  | slotDelayExpiry n =>
    simp only [exec, execSlotDelayExpiry] at h
    split at h
    · cases h
    · exact if_next_effect h fun hp => .delay _ hp.1 hp.2
  | entryDurationExpiry n =>
    simp only [exec, execEntryDurationExpiry] at h
    split at h
    · cases h
    · exact if_next_effect h fun hp => .duration _ hp.1 hp.2
  | captureRecordDue k =>
    simp only [exec, execCaptureRecordDue] at h
    split at h
    · cases h
    · exact if_next_effect h fun hrun => .record _ hrun
  | captureLengthReached k =>
    simp only [exec, execCaptureLengthReached] at h
    split at h
    · cases h
    · exact if_next_effect h fun hrun => .length _ hrun
  | upstreamFrameEnd =>
    obtain rfl := Host.Outcome.next.inj h
    split
    · split_ifs with hcounts
      · exact .sent _ ‹_› hcounts
      · exact .choose
    · exact .same
  | resetNAssert => obtain rfl := Host.Outcome.next.inj h; exact .held
  | initStart => obtain rfl := Host.Outcome.next.inj h; exact .init
  | initEnd => exact if_next_effect h fun hinit => .ready hinit
  | safeNAssert =>
    obtain rfl := Host.Outcome.next.inj h
    split_ifs
    · exact .safe
    · exact .low _
  | safeNRelease =>
    obtain rfl := Host.Outcome.next.inj h
    split_ifs with hp
    · exact .release hp.1
    · exact .low _
  | safeDeliveryComplete =>
    simp only [exec, execSafeDeliveryComplete] at h
    split at h
    · exact if_next_effect h fun _ => .delivered _
    · obtain rfl := Host.Outcome.next.inj h
      exact .same

/-- A law that says nothing of the queue of commands, and that every effect keeps, is kept by every step. -/
theorem step_keeps {P : State → Prop} (hqueue : ∀ s q, P s → P (s.withPending q)) (heffect : ∀ s t, P s → Effect s t → P t)
    {s t : State} (hs : P s) (h : step s = .next t) : P t := by
  unfold step at h
  split at h
  · exact Host.Outcome.next.inj h ▸ hs
  · exact heffect _ _ (hqueue s _ hs) (exec_effect h)

end Sys2Proof.Machine
end

section
/-! The arithmetic laws of contexts (4.1 to 4.7): every operation on a context keeps its run state within its bounds. -/

namespace Sys2Proof.Machine

/-! ### Ranges -/

theorem transformRange_zero : transformRange 0 := by unfold transformRange; omega

theorem transformRange_word (v : Word) : transformRange v.toInt := by
  have := word_toInt_range v
  unfold transformRange
  omega

theorem round8_range {n : Nat} {d : Int} (hlo : -((n : Int) * 256) ≤ d) (hhi : d ≤ (n : Int) * 256) :
    -(n : Int) ≤ round8 d ∧ round8 d ≤ n := by
  unfold round8
  omega

theorem limitDrift_range (limit : Nat) (d : Int) :
    -((limit : Int) * 256) ≤ limitDrift limit d ∧ limitDrift limit d ≤ (limit : Int) * 256 := by
  unfold limitDrift
  split_ifs <;> omega

/-! ### Contexts -/

theorem OverlayRecord.initial_legal : OverlayRecord.initial.Legal := by
  unfold OverlayRecord.Legal
  decide

section
variable {x : Context} {r : OverlayRecord} {L : Int}

theorem Context.Legal.fields_legal (h : x.Legal) : x.fields.Legal := h.1

theorem Context.Legal.drift_range (h : x.Legal) :
    -((x.fields.limit : Int) * 256) ≤ x.drift ∧ x.drift ≤ (x.fields.limit : Int) * 256 := h.2.1

theorem Context.Legal.freeze_range (h : x.Legal) : ∀ f ∈ x.freeze, transformRange f := h.2.2.2.2.1

theorem Context.Legal.gapHeld_range (h : x.Legal) : ∀ g ∈ x.gapHeld, transformRange g := h.2.2.2.2.2

theorem contextOf_legal (h : r.Legal) (owner : Option SlotNo) (p : Int) : (contextOf r owner p).Legal := by
  obtain ⟨-, ⟨hon, -⟩, ⟨hoff, -⟩, -, hlength, -⟩ := id h
  refine ⟨h, ?_, ?_, ?_, ?_, ?_⟩ <;> simp only [contextOf, Option.mem_def, reduceCtorEq, IsEmpty.forall_iff, implies_true] <;> omega

theorem getD_range {o : Option Int} (hL : transformRange L) (ho : ∀ f ∈ o, transformRange f) :
    transformRange (o.getD L) := by
  cases o with
  | none => exact hL
  | some f => exact ho f rfl

theorem settle_legal (hL : transformRange L) (h : x.Legal) : (settle L x).Legal := by
  obtain ⟨hfields, hdrift, hgap, hindex, hfreeze, hheld⟩ := h
  refine ⟨hfields, hdrift, hgap, hindex, ?_, ?_⟩
  · rintro _ ⟨⟩
    exact getD_range hL hfreeze
  · rintro _ ⟨⟩
    exact getD_range hL hheld

theorem adopted_legal (h : x.Legal) : (adopted x).Legal := h

theorem patchWrite_legal (f : PatchField) (v : Word) (h : x.Legal) : (patchWrite f v x).Legal := by
  cases f <;> exact h

theorem standing_legal (hL : transformRange L) : (Context.standing L).Legal :=
  settle_legal hL (contextOf_legal OverlayRecord.initial_legal none (-1))

/-- The transform of a context within its bounds (R67): the widest kind is RAMP, a rounded product with offset and drift. -/
theorem transformOn_range (hL : transformRange L) (h : x.Legal) (w v : Word) : transformRange (transformOn x L w v) := by
  cases hkind : x.fields.kind <;> simp only [transformOn, hkind]
  case pass => exact transformRange_word v
  case fixed => exact transformRange_word _
  case freeze => exact getD_range hL h.freeze_range
  case track => exact transformRange_word w
  case gap =>
    split_ifs
    · exact transformRange_word v
    · exact getD_range hL h.gapHeld_range
  case coarse =>
    have hle : x.fields.coarse ≤ 12 := h.fields_legal.2.2.2.1.2
    have hdvd : (2 : Int) ^ x.fields.coarse ∣ 32768 := pow_dvd_pow (2 : Int) (show x.fields.coarse ≤ 15 by omega)
    have hpos : (0 : Int) < 2 ^ x.fields.coarse := by positivity
    have := word_floor_range v hpos hdvd
    unfold transformRange
    omega
  all_goals
    have hproduct := word_product_range v x.fields.gain
    have hround := round12_range hproduct.1 hproduct.2
    have hoffset := word_toInt_range x.fields.offset
    have hdrift := round8_range h.drift_range.1 h.drift_range.2
    have hlimit : x.fields.limit ≤ 32767 := h.fields_legal.1
    unfold transformRange
    omega

theorem transform_range (hL : transformRange L) (h : x.Legal) (w v : Word) : transformRange (transform x L w v) := by
  unfold transform
  split_ifs
  · exact transformOn_range hL h w v
  · exact transformRange_word v

theorem advanceContext_legal (v : Word) (h : x.Legal) : (advanceContext v x).Legal := by
  obtain ⟨hfields, -, -, -, hfreeze, hheld⟩ := id h
  obtain ⟨-, ⟨hon, -⟩, -, -, hlength, -⟩ := id hfields
  refine ⟨hfields, limitDrift_range _ _, Nat.mod_lt _ ?_, Nat.mod_lt _ hlength, hfreeze, ?_⟩
  · omega
  · intro g hg
    simp only [advanceContext] at hg
    split_ifs at hg
    · cases hg
      exact transformRange_word v
    · exact hheld g hg

end

/-! ### Channels -/

/-- The contexts of one channel are legal. -/
def Ownership.ContextsLegal (o : Ownership) : Prop :=
  o.base.Legal ∧ (∀ x ∈ o.active, x.Legal) ∧ ∀ x ∈ o.stack, x.Legal

section
variable {o : Ownership}

theorem Ownership.ContextsLegal.current (h : o.ContextsLegal) : o.current.Legal := by
  obtain ⟨hbase, hactive, -⟩ := h
  unfold Ownership.current
  cases ha : o.active with
  | none => exact hbase
  | some x => exact hactive x ha

theorem Ownership.ContextsLegal.setCurrent {x : Context} (h : o.ContextsLegal) (hx : x.Legal) :
    (o.setCurrent x).ContextsLegal := by
  obtain ⟨hbase, hactive, hstack⟩ := h
  unfold Ownership.setCurrent
  split
  · exact ⟨hbase, by rintro _ ⟨⟩; exact hx, hstack⟩
  · exact ⟨hx, hactive, hstack⟩

theorem Ownership.initial_contextsLegal : Ownership.initial.ContextsLegal :=
  ⟨standing_legal transformRange_zero, by rintro _ ⟨⟩, by rintro _ ⟨⟩⟩

end

section
variable {s : State}

theorem State.contextsLegal_iff :
    s.ContextsLegal ↔ (∀ i : Fin 256, s.bank[i].Legal)
      ∧ ∀ c : Chan, transformRange s.channels.last[c] ∧ s.own[c].ContextsLegal := Iff.rfl

theorem State.ContextsLegal.bank (h : s.ContextsLegal) (i : Fin 256) : s.bank[i].Legal := h.1 i
theorem State.ContextsLegal.last (h : s.ContextsLegal) (c : Chan) : transformRange s.channels.last[c] := (h.2 c).1
theorem State.ContextsLegal.own (h : s.ContextsLegal) (c : Chan) : s.own[c].ContextsLegal := (h.2 c).2

end

/-- What a channel's tick offers to L and to its context is legal. -/
theorem channelTick_legal {s : State} (h : s.ContextsLegal) (c : Chan) :
    (∀ y ∈ (channelTick s c).y, transformRange y) ∧ ∀ x ∈ (channelTick s c).context, x.Legal := by
  have hheld (r : ChannelRecord) (v : Word) (p : PinCondition) :
      (∀ y ∈ (heldTick r v p).y, transformRange y) ∧ ∀ x ∈ (heldTick r v p).context, x.Legal :=
    ⟨by rintro _ ⟨⟩, by rintro _ ⟨⟩⟩
  unfold channelTick
  simp only
  split
  · exact hheld _ _ _
  · split
    · exact hheld _ _ _
    · split_ifs
      · exact hheld _ _ _
      · refine ⟨?_, ?_⟩
        · rintro _ ⟨⟩
          exact transform_range (h.last c) (h.own c).current _ _
        · rintro _ ⟨⟩
          exact advanceContext_legal _ (h.own c).current

end Sys2Proof.Machine
end

section
/-! Tracks at a tick and between ticks (8.2 to 8.6): each track's event moves that track alone, and keeps it within its region. -/

namespace Sys2Proof.Machine

/-! ### A fold over objects, each step of which changes its own object alone -/

/-- Each object is changed once, by `g` of what the steps leave alone. -/
theorem foldl_finRange_get {σ β γ : Type} {n : Nat} (f : σ → Fin n → σ) (get : σ → Fin n → β) (inv : σ → γ)
    (g : γ → Fin n → β → β) (hself : ∀ s i, get (f s i) i = g (inv s) i (get s i))
    (hne : ∀ s i j, i ≠ j → get (f s i) j = get s j) (hinv : ∀ s i, inv (f s i) = inv s) (s : σ) (j : Fin n) :
    get ((List.finRange n).foldl f s) j = g (inv s) j (get s j) := by
  have hfold : ∀ (l : List (Fin n)) (s : σ), l.Nodup →
      get (l.foldl f s) j = if j ∈ l then g (inv s) j (get s j) else get s j := by
    intro l
    induction l with
    | nil => simp
    | cons i l ih =>
      intro s hl
      obtain ⟨hi, hl⟩ := List.nodup_cons.1 hl
      rw [List.foldl_cons, ih _ hl, hinv]
      by_cases hij : i = j
      · subst hij
        simp [hi, hself]
      · simp [Ne.symm hij, hne _ _ _ hij]
  rw [hfold _ _ (List.nodup_finRange n), if_pos (List.mem_finRange j)]

/-! ### The end of a span -/

/-- The span of the track ends (R131, R133). -/
def endSpan (x : Track) : Track :=
  match x.desc.mode with
  | .stored => endStoredSpan x
  | .fed => endFedSpan x

/-- The track, past the end of its span if its phase has reached the divider. -/
def Track.passed (x : Track) : Track := if x.spanOver then endSpan x else x

theorem spanEnd_of_over {u : TrackNo} {s : State} (h : (s.track u).spanOver = true) :
    spanEnd u s = raise? (spanEvent? u (endSpan (s.track u))) (s.setTrack u (endSpan (s.track u))) := by
  unfold spanEnd
  exact if_pos h

theorem spanEnd_of_not_over {u : TrackNo} {s : State} (h : (s.track u).spanOver = false) : spanEnd u s = s := by
  simp [spanEnd, h]

@[simp] theorem raise?_replay (e : Option Event) (s : State) : (raise? e s).replay = s.replay := by
  cases e <;> rfl

@[simp] theorem raise?_setup (e : Option Event) (s : State) : (raise? e s).setup = s.setup := by
  cases e <;> rfl

@[simp] theorem raise?_track (e : Option Event) (s : State) (u : TrackNo) : (raise? e s).track u = s.track u := by
  simp only [State.track, raise?_replay]

theorem advance_track (i : CounterNo) (n : Nat) (s : State) (u : TrackNo) : (advance i n s).track u = s.track u := by
  simp only [State.track, (advance_moves i n s).replay]

@[simp] theorem spanEnd_track_self (u : TrackNo) (s : State) : (spanEnd u s).track u = (s.track u).passed := by
  by_cases h : (s.track u).spanOver = true
  · rw [spanEnd_of_over h, raise?_track, State.track_setTrack_self, Track.passed, if_pos h]
  · rw [spanEnd_of_not_over (by simpa using h), Track.passed, if_neg h]

theorem spanEnd_track_ne {u v : TrackNo} (huv : u ≠ v) (s : State) : (spanEnd u s).track v = s.track v := by
  by_cases h : (s.track u).spanOver = true
  · rw [spanEnd_of_over h, raise?_track, State.track_setTrack_ne _ _ _ _ huv]
  · rw [spanEnd_of_not_over (by simpa using h)]

/-! ### The tick's event of a track (R129) -/

/-- The track after its event of a tick: it has settled, moved its phase and ended its span. -/
def Track.ticked (m : Mem) (x : Track) : Track := (stepPhase (settleTrack m x)).passed

theorem trackTick_track_self (u : TrackNo) (s : State) :
    (trackTick u s).track u = (s.track u).ticked s.replay.mem := by
  unfold trackTick
  simp only [spanEnd_track_self, Track.ticked]
  split_ifs
  · rw [advance_track, State.track_setTrack_self]
  · rw [State.track_setTrack_self]

theorem trackTick_track_ne {u v : TrackNo} (huv : u ≠ v) (s : State) : (trackTick u s).track v = s.track v := by
  unfold trackTick
  simp only [spanEnd_track_ne huv]
  split_ifs
  · rw [advance_track, State.track_setTrack_ne _ _ _ _ huv]
  · rw [State.track_setTrack_ne _ _ _ _ huv]

theorem tracksTick_track (s : State) (u : TrackNo) : (tracksTick s).track u = (s.track u).ticked s.replay.mem :=
  foldl_finRange_get (fun s t => trackTick t s) State.track (fun s => s.replay.mem) (fun m _ x => x.ticked m)
    (fun s i => trackTick_track_self i s) (fun s _ _ h => trackTick_track_ne h s)
    (fun s i => (trackTick_moves i s).replay_mem) s u

/-! ### Tracks within their regions -/

section
variable {d : TrackDescriptor} {x : Track}

theorem TrackDescriptor.Legal.size_pos (h : d.Legal) : 0 < d.size := h.1

theorem TrackDescriptor.Legal.divider_pos (h : d.Legal) : 0 < d.divider := h.2.2.1

theorem TrackDescriptor.Legal.forward_within (h : d.Legal) (p r : Nat) :
    d.base ≤ d.forward p r ∧ d.forward p r < d.base + d.size := by
  have := Nat.mod_lt (p - d.base + r) h.size_pos
  unfold TrackDescriptor.forward
  omega

/-- The place a point of the region has 0 places forward of itself. -/
theorem TrackDescriptor.forward_zero {p : Nat} (hlo : d.base ≤ p) (hhi : p < d.base + d.size) : d.forward p 0 = p := by
  unfold TrackDescriptor.forward
  rw [Nat.add_zero, Nat.mod_eq_of_lt] <;> omega

theorem Track.Legal.desc_legal (h : x.Legal) : x.desc.Legal := h.1

theorem Track.cleared_legal (h : d.Legal) : (Track.cleared d).Legal := by
  have hsize := h.size_pos
  have hdiv := h.divider_pos
  have hregion : d.base < d.base + d.size := by omega
  exact ⟨h, hsize, hdiv, Nat.zero_le _, ⟨le_rfl, hregion⟩, (TrackDescriptor.forward_zero le_rfl hregion).symm⟩

theorem TrackDescriptor.initial_legal (u : TrackNo) : (TrackDescriptor.initial u).Legal := by
  unfold TrackDescriptor.Legal
  revert u
  decide

/-- A legal track whose state, playhead and phase are changed within their bounds. -/
theorem Track.Legal.rerun (h : x.Legal) (st : TrackState) {i j : Nat} (hi : i < x.desc.size) (hj : j < x.desc.divider)
    (v : Word) : Track.Legal { x with state := st, playhead := i, phase := j, presented := v } := by
  obtain ⟨hdesc, -, -, hring⟩ := h
  exact ⟨hdesc, hi, hj, hring⟩

theorem playTrack_legal (h : x.Legal) : (playTrack x).Legal := by
  have hsize := h.desc_legal.size_pos
  have hdiv := h.desc_legal.divider_pos
  unfold playTrack
  split
  · exact h.rerun .playing hsize hdiv x.presented
  · split_ifs
    · exact h
    · exact h.rerun .playing h.2.1 hdiv x.presented

@[simp] theorem playTrack_desc (x : Track) : (playTrack x).desc = x.desc := by
  unfold playTrack
  split
  · rfl
  · split_ifs <;> rfl

theorem stopTrack_legal (h : x.Legal) : (stopTrack x).Legal := h.rerun .stopped h.2.1 h.2.2.1 x.presented

theorem settleTrack_legal (m : Mem) (h : x.Legal) : (settleTrack m x).Legal := h.rerun x.state h.2.1 h.2.2.1 _

theorem endStoredSpan_desc (x : Track) : (endStoredSpan x).desc = x.desc := by
  unfold endStoredSpan
  split_ifs <;> rfl

theorem endFedSpan_desc (x : Track) : (endFedSpan x).desc = x.desc := by
  unfold endFedSpan
  split_ifs <;> rfl

@[simp] theorem endSpan_desc (x : Track) : (endSpan x).desc = x.desc := by
  unfold endSpan
  split
  · exact endStoredSpan_desc x
  · exact endFedSpan_desc x

@[simp] theorem Track.passed_desc (x : Track) : x.passed.desc = x.desc := by
  unfold Track.passed
  split_ifs
  · exact endSpan_desc x
  · rfl

@[simp] theorem stepPhase_desc (x : Track) : (stepPhase x).desc = x.desc := by
  unfold stepPhase
  split_ifs <;> rfl

@[simp] theorem Track.ticked_desc (m : Mem) (x : Track) : (x.ticked m).desc = x.desc := by
  simp only [Track.ticked, Track.passed_desc, stepPhase_desc]
  rfl

theorem endStoredSpan_legal (h : x.Legal) : (endStoredSpan x).Legal := by
  have hsize := h.desc_legal.size_pos
  have hdiv := h.desc_legal.divider_pos
  unfold endStoredSpan
  split_ifs
  · exact h.rerun x.state ‹_› hdiv x.presented
  · exact h.rerun x.state hsize hdiv x.presented
  · exact h.rerun .ended (Nat.sub_lt hsize Nat.one_pos) hdiv x.presented

/-- A sample consumed moves the read point on, and the write point stays the first free place. -/
theorem endFedSpan_legal (h : x.Legal) : (endFedSpan x).Legal := by
  have hdiv := h.desc_legal.divider_pos
  unfold endFedSpan
  split_ifs with hfill
  · obtain ⟨hdesc, hplay, -, hle, -, hwrite⟩ := h
    refine ⟨hdesc, hplay, hdiv, ?_, hdesc.forward_within _ _, ?_⟩
    · simp only
      omega
    · simp only [TrackDescriptor.forward_forward, hwrite]
      congr 1
      omega
  · exact h.rerun .underrun h.2.1 (Nat.sub_lt hdiv Nat.one_pos) x.presented

theorem endSpan_legal (h : x.Legal) : (endSpan x).Legal := by
  unfold endSpan
  split
  · exact endStoredSpan_legal h
  · exact endFedSpan_legal h

theorem endStoredSpan_phase (x : Track) (j : Nat) : endStoredSpan { x with phase := j } = endStoredSpan x := by
  unfold endStoredSpan
  split_ifs <;> rfl

theorem endFedSpan_phase (x : Track) (j : Nat) : endFedSpan { x with phase := j } = endFedSpan x := by
  unfold endFedSpan
  split_ifs <;> rfl

/-- The end of a span does not look at the phase it sets. -/
theorem endSpan_phase (x : Track) (j : Nat) : endSpan { x with phase := j } = endSpan x := by
  unfold endSpan
  simp only [endStoredSpan_phase, endFedSpan_phase]

/-- Between ticks no legal track is past the end of its span. -/
theorem Track.Legal.not_over (h : x.Legal) : x.spanOver = false := by
  have hphase : x.phase < x.desc.divider := h.2.2.1
  simp [Track.spanOver, hphase]

theorem Track.Legal.passed_eq (h : x.Legal) : x.passed = x := by
  simp [Track.passed, h.not_over]

/-- A phase moved on stays below the divider, or the span ends and sets it anew. -/
theorem stepPhase_passed_legal (h : x.Legal) : (stepPhase x).passed.Legal := by
  by_cases hp : x.state = .playing
  · have hstep : stepPhase x = { x with phase := x.phase + 1 } := if_pos hp
    rw [hstep, Track.passed, endSpan_phase]
    split_ifs with hover
    · exact endSpan_legal h
    · refine h.rerun x.state h.2.1 ?_ x.presented
      simpa [Track.spanOver, hp] using hover
  · have hstep : stepPhase x = x := if_neg hp
    rw [hstep, h.passed_eq]
    exact h

theorem Track.ticked_legal (m : Mem) (h : x.Legal) : (x.ticked m).Legal := stepPhase_passed_legal (settleTrack_legal m h)

theorem resumeFed_legal (h : x.Legal) : (resumeFed x).Legal := by
  rw [resumeFed_eq]
  exact h.rerun _ h.2.1 h.2.2.1 x.presented

end

/-- Samples for which the ring has room leave the track legal. -/
theorem appendAll_legal {u : TrackNo} {vs : List Word} {s : State} (h : (s.track u).Legal)
    (hroom : vs.length ≤ (s.track u).desc.size - (s.track u).fill) : ((appendAll u vs s).track u).Legal := by
  rw [appendAll_track_self vs h.writesAtFill]
  obtain ⟨hdesc, hplay, hphase, hle, hread, -⟩ := h
  exact ⟨hdesc, hplay, hphase, by simp only; omega, hread, rfl⟩

theorem feedRing_desc (u v : TrackNo) (vs : List Word) (s : State) : ((feedRing u vs s).track v).desc = (s.track v).desc := by
  have happend : ∀ (vs : List Word) (s : State), ((appendAll u vs s).track u).desc = (s.track u).desc := by
    intro vs
    induction vs with
    | nil => exact fun _ => rfl
    | cons w vs ih => intro s; rw [appendAll_cons, ih, appendOne_track_self]
  by_cases huv : u = v
  · subst huv
    rw [feedRing_track_self, resumeFed_eq]
    exact happend vs s
  · rw [feedRing_track_ne huv]

end Sys2Proof.Machine
end

section
/-! The laws of events, tracks and contexts (O52, O54, O55), carried together through every operation: each operation is a chain of
steps of which each moves one unit. -/

namespace Sys2Proof.Machine

/-- Every law of events, tracks and contexts that holds in `s` holds in `t`. -/
structure LawsKept (s t : State) : Prop where
  events : s.EventsConsistent → t.EventsConsistent
  tracks : s.TracksLegal → t.TracksLegal
  contexts : s.ContextsLegal → t.ContextsLegal

namespace LawsKept

theorem refl (s : State) : LawsKept s s := ⟨id, id, id⟩

theorem trans {s t u : State} (h : LawsKept s t) (k : LawsKept t u) : LawsKept s u :=
  ⟨k.events ∘ h.events, k.tracks ∘ h.tracks, k.contexts ∘ h.contexts⟩

theorem foldl {β : Type} (f : State → β → State) (h : ∀ s b, LawsKept s (f s b)) (l : List β) (s : State) :
    LawsKept s (l.foldl f s) :=
  foldl_moves LawsKept .refl (fun _ _ _ => .trans) f h l s

end LawsKept

/-! ### What each law reads -/

section
variable {s t : State}

theorem State.EventsConsistent.congr (h : s.EventsConsistent) (hf : t.events.flags = s.events.flags)
    (hs : t.events.summary = s.events.summary) (hr : t.tx.report = s.tx.report) (hl : t.tx.line = s.tx.line) :
    t.EventsConsistent := by
  unfold State.EventsConsistent at *
  rwa [hf, hs, hr, hl]

theorem State.TracksLegal.congr (h : s.TracksLegal) (ht : t.replay.tracks = s.replay.tracks) : t.TracksLegal := by
  unfold State.TracksLegal State.track at *
  rwa [ht]

theorem State.ContextsLegal.congr (h : s.ContextsLegal) (hb : t.bank = s.bank) (hl : t.channels.last = s.channels.last)
    (ho : t.own = s.own) : t.ContextsLegal := by
  unfold State.ContextsLegal at *
  rwa [hb, hl, ho]

/-- Tracks that keep their descriptors and stay within them keep the law. -/
theorem State.TracksLegal.of_desc (h : s.TracksLegal)
    (ht : ∀ u : TrackNo, (s.track u).Legal → (t.track u).Legal ∧ (t.track u).desc = (s.track u).desc) : t.TracksLegal := by
  obtain ⟨hlegal, hfed⟩ := h
  refine ⟨fun u => (ht u (hlegal u)).1, fun u v huv => ?_⟩
  rw [(ht u (hlegal u)).2, (ht v (hlegal v)).2]
  exact hfed u v huv

/-! ### The elementary steps -/

/-- A change that no law reads. -/
theorem LawsKept.untouched (hf : t.events.flags = s.events.flags) (hs : t.events.summary = s.events.summary)
    (hr : t.tx.report = s.tx.report) (hl : t.tx.line = s.tx.line) (ht : t.replay.tracks = s.replay.tracks)
    (hb : t.bank = s.bank) (hlast : t.channels.last = s.channels.last) (ho : t.own = s.own) : LawsKept s t :=
  ⟨fun h => h.congr hf hs hr hl, fun h => h.congr ht, fun h => h.congr hb hlast ho⟩

end

theorem flagged_or_iff (flags : BitVec 123) (e : Event) (c : Nat) :
    flagged (flags ||| BitVec.twoPow 123 e.flag) c ↔ flagged flags c ∨ c = e.category := by
  unfold flagged
  simp only [BitVec.getLsbD_or, BitVec.getLsbD_twoPow, Bool.or_eq_true, Bool.and_eq_true, decide_eq_true_eq]
  constructor
  · rintro ⟨f, hlt, hcat, hset | ⟨-, rfl⟩⟩
    · exact .inl ⟨f, hlt, hcat, hset⟩
    · exact .inr hcat.symm
  · rintro (⟨f, hlt, hcat, hset⟩ | rfl)
    · exact ⟨f, hlt, hcat, .inl hset⟩
    · exact ⟨e.flag, e.flag_lt, rfl, .inr ⟨e.flag_lt, rfl⟩⟩

theorem or_twoPow_ne_zero (x : BitVec 8) {c : Nat} (hc : c < 8) : x ||| BitVec.twoPow 8 c ≠ 0 := by
  intro h
  have := congrArg (fun y => y.getLsbD c) h
  simp [hc] at this

/-- An event sets its flag and its category together, and with them the summary is not empty. -/
theorem raise_eventsConsistent (e : Event) {s : State} (h : s.EventsConsistent) : (raise e s).EventsConsistent := by
  cases hm : masked e s with
  | true => rwa [raise_masked hm]
  | false =>
    obtain ⟨hpending, -, hline⟩ := h
    rw [raise_unmasked hm]
    refine ⟨fun c hc => ?_, fun _ => or_twoPow_ne_zero _ e.category_lt, hline⟩
    rw [flagged_or_iff, ← hpending c hc, BitVec.getLsbD_or, BitVec.getLsbD_twoPow]
    simp only [e.category_lt, Bool.or_eq_true, Bool.and_eq_true, decide_eq_true_eq, true_and, @eq_comm _ e.category c]

section
variable (s : State)

theorem raise_laws (e : Event) : LawsKept s (raise e s) :=
  ⟨raise_eventsConsistent e, fun h => h.congr rfl, fun h => h.congr rfl rfl rfl⟩

theorem bumpCounter_laws (i : CounterNo) (n : Nat) : LawsKept s (bumpCounter i n s) :=
  .untouched rfl rfl rfl rfl rfl rfl rfl rfl

theorem advance_laws (i : CounterNo) (n : Nat) : LawsKept s (advance i n s) := by
  unfold advance
  split_ifs
  · exact (bumpCounter_laws s i n).trans (raise_laws _ _)
  · exact bumpCounter_laws s i n

theorem setSlot_laws (n : SlotNo) (x : Slot) : LawsKept s (s.setSlot n x) := .untouched rfl rfl rfl rfl rfl rfl rfl rfl

theorem mapSlots_laws (f : Slot → Slot) : LawsKept s (s.mapSlots f) := .untouched rfl rfl rfl rfl rfl rfl rfl rfl

theorem setCapture_laws (k : SetNo) (x : CaptureSet) : LawsKept s (s.setCapture k x) :=
  .untouched rfl rfl rfl rfl rfl rfl rfl rfl

theorem setWatch_laws (w : WatchNo) (x : Watch) : LawsKept s (s.setWatch w x) := .untouched rfl rfl rfl rfl rfl rfl rfl rfl

theorem toHunt_laws : LawsKept s s.toHunt := .untouched rfl rfl rfl rfl rfl rfl rfl rfl

/-- A channel's ownership is replaced by contexts that are legal where those of before are. -/
theorem setOwn_laws (c : Chan) (o : Ownership) (h : s.ContextsLegal → o.ContextsLegal) : LawsKept s (s.setOwn c o) := by
  refine ⟨fun hs => hs.congr rfl rfl rfl rfl, fun hs => hs.congr rfl, fun hs => ⟨hs.bank, fun d => ⟨hs.last d, ?_⟩⟩⟩
  change (s.setOwn c o).own[d.val].ContextsLegal
  rw [State.own_setOwn]
  split_ifs
  · exact h hs
  · exact hs.own d

/-- A track stays within its descriptor. -/
theorem setTrack_laws (u : TrackNo) (x : Track) (h : (s.track u).Legal → x.Legal) (hd : x.desc = (s.track u).desc) :
    LawsKept s (s.setTrack u x) := by
  refine ⟨fun hs => hs.congr rfl rfl rfl rfl, fun hs => hs.of_desc fun v hv => ?_, fun hs => hs.congr rfl rfl rfl⟩
  by_cases huv : u = v
  · subst huv
    rw [State.track_setTrack_self]
    exact ⟨h hv, hd⟩
  · rw [State.track_setTrack_ne _ _ _ _ huv]
    exact ⟨hv, rfl⟩

end

/-! ### Ownership and the scenario side (chapters 5 and 6) -/

section
variable (s : State)

theorem activateBase_laws (c : Chan) : LawsKept s (activateBase c s) :=
  setOwn_laws s c _ fun h => ⟨settle_legal (h.last c) (h.own c).1, by rintro _ ⟨⟩, (h.own c).2.2⟩

theorem clearChannel_laws (c : Chan) : LawsKept s (clearChannel c s) :=
  setOwn_laws s c _ fun h => ⟨settle_legal (h.last c) (h.own c).1, by rintro _ ⟨⟩, by rintro _ ⟨⟩⟩

theorem removeWaiter_laws (n : SlotNo) (c : Chan) : LawsKept s (removeWaiter n c s) := setOwn_laws s c _ fun h => h.own c

theorem dropActive_laws (c : Chan) : LawsKept s (dropActive c s) :=
  setOwn_laws s c _ fun h => ⟨(h.own c).1, by rintro _ ⟨⟩, (h.own c).2.2⟩

theorem adopt_laws (c : Chan) : LawsKept s (adopt c s) :=
  setOwn_laws s c _ fun h => ⟨adopted_legal (h.own c).current, (h.own c).2⟩

theorem installEntry_laws (n : SlotNo) (e : Entry) (r : OverlayRecord) (hr : s.ContextsLegal → r.Legal) :
    LawsKept s (installEntry n e r s) := by
  refine (setOwn_laws s (s.slot n).latch.target _ fun h => ?_).trans (setSlot_laws _ _ _)
  refine ⟨(h.own _).1, ?_, (h.own _).2.2⟩
  rintro _ ⟨⟩
  exact settle_legal (h.last _) (contextOf_legal (hr h) _ _)

theorem cueTrack_laws (u : TrackNo) : LawsKept s (cueTrack u s) :=
  setTrack_laws s u _ playTrack_legal (playTrack_desc _)

theorem cueOf_laws (r : OverlayRecord) : LawsKept s (cueOf r s) := by
  unfold cueOf
  split_ifs
  · exact cueTrack_laws s _
  · exact .refl s

theorem faultFetch_laws (n : SlotNo) (f : FaultCode) : LawsKept s (faultFetch n f s) :=
  (setSlot_laws s _ _).trans (raise_laws _ _)

theorem fetch_laws (n : SlotNo) : LawsKept s (fetch n s).1 := by
  unfold fetch
  simp only
  split
  · exact faultFetch_laws s _ _
  · exact (installEntry_laws s _ _ _ fun h => h.bank _).trans (cueOf_laws _ _)

/-- A fetch's state, read off its result. -/
theorem fetch_laws_of {n : SlotNo} {t : State} {b : Bool} (h : fetch n s = (t, b)) : LawsKept s t := by
  have := fetch_laws s n
  rwa [h] at this

theorem setOwnerState_laws (x : Context) (st : SlotState) : LawsKept s (setOwnerState x st s) := by
  unfold setOwnerState
  split
  · exact setSlot_laws s _ _
  · exact .refl s

theorem pushActive_laws (c : Chan) : LawsKept s (pushActive c s) := by
  unfold pushActive
  split
  · rename_i x hx
    have hsaved (h : s.ContextsLegal) (y : Context) (hy : y ∈ x :: s.own[c].stack) : y.Legal := by
      rcases List.mem_cons.1 hy with rfl | hy
      · exact (h.own c).2.1 y hx
      · exact (h.own c).2.2 y hy
    exact (setOwn_laws s c { s.own[c] with active := none, stack := x :: s.own[c].stack }
      fun h => ⟨(h.own c).1, by rintro _ ⟨⟩, hsaved h⟩).trans (setOwnerState_laws _ _ _)
  · exact .refl s

theorem popOrBase_laws (c : Chan) : LawsKept s (popOrBase c s) := by
  unfold popOrBase
  split
  · rename_i x xs hx
    have hmem (h : s.ContextsLegal) (y : Context) (hy : y ∈ x :: xs) : y.Legal := (h.own c).2.2 y (hx ▸ hy)
    refine (setOwn_laws s c { s.own[c] with active := some x, stack := xs }
      fun h => ⟨(h.own c).1, ?_, fun y hy => hmem h y (List.mem_cons_of_mem _ hy)⟩).trans (setOwnerState_laws _ _ _)
    rintro _ ⟨⟩
    exact hmem h x (List.mem_cons_self ..)
  · exact activateBase_laws s c

theorem resolve_laws (k : Nat) (c : Chan) : LawsKept s (resolve k c s) := by
  induction k generalizing s with
  | zero => exact popOrBase_laws s c
  | succ k ih =>
    unfold resolve
    split
    · split_ifs
      · split
        · exact (removeWaiter_laws s _ _).trans (fetch_laws_of _ ‹_›)
        · exact ((removeWaiter_laws s _ _).trans (fetch_laws_of _ ‹_›)).trans (ih _)
      · exact popOrBase_laws s c
    · exact popOrBase_laws s c

theorem resolveAll_laws (c : Chan) : LawsKept s (resolveAll c s) := resolve_laws s _ c

theorem reexamine_laws (k : Nat) (c : Chan) : LawsKept s (reexamine k c s) := by
  induction k generalizing s with
  | zero => exact .refl s
  | succ k ih =>
    unfold reexamine
    split
    · rename_i w _
      have hpush := (pushActive_laws s c).trans (removeWaiter_laws _ w.slot c)
      split_ifs
      · split
        · exact (hpush.trans (fetch_laws_of _ ‹_›)).trans (ih _)
        · exact ((hpush.trans (fetch_laws_of _ ‹_›)).trans (resolveAll_laws _ c)).trans (ih _)
      · exact .refl s
    · exact .refl s

theorem reexamineAll_laws (c : Chan) : LawsKept s (reexamineAll c s) := reexamine_laws s _ c

theorem vacate_laws (c : Chan) : LawsKept s (vacate c s) := (resolveAll_laws s c).trans (reexamineAll_laws _ c)

theorem release_laws (c : Chan) : LawsKept s (release c s) := (dropActive_laws s c).trans (vacate_laws _ c)

theorem takeOver_laws (n : SlotNo) : LawsKept s (takeOver n s) := by
  unfold takeOver
  split
  · exact fetch_laws_of s ‹_›
  · exact (fetch_laws_of s ‹_›).trans (vacate_laws _ _)

theorem waitFor_laws (n : SlotNo) : LawsKept s (waitFor n s) :=
  (setOwn_laws s (s.slot n).latch.target
    { s.own[(s.slot n).latch.target] with
      waiting := joinWaiting { slot := n, priority := (s.slot n).latch.priority } s.own[(s.slot n).latch.target].waiting }
    fun h => h.own _).trans (setSlot_laws _ _ _)

theorem claim_laws (n : SlotNo) : LawsKept s (claim n s) := by
  unfold claim
  simp only
  split
  · exact takeOver_laws s n
  · split_ifs
    · exact (pushActive_laws s _).trans (takeOver_laws _ n)
    · exact waitFor_laws s n

theorem withdraw_laws (n : SlotNo) (c : Chan) : LawsKept s (withdraw n c s) := by
  refine (setOwn_laws s c { s.own[c] with stack := s.own[c].stack.filter fun x => x.owner != some n }
    fun h => ⟨(h.own c).1, (h.own c).2.1, fun x hx => ?_⟩).trans (reexamineAll_laws _ c)
  exact (h.own c).2.2 x (List.mem_filter.1 hx).1

theorem startSlot_laws (n : SlotNo) : LawsKept s (startSlot n s) := by
  unfold startSlot
  simp only
  split
  · exact claim_laws s n
  · split_ifs
    · exact claim_laws s n
    · exact setSlot_laws s _ _
  · exact setSlot_laws s _ _

theorem armSlot_laws (n : SlotNo) (b : Nat) (x : Block) : LawsKept s (armSlot n b x s) :=
  (setSlot_laws s _ _).trans (startSlot_laws _ n)

theorem followOn_laws (n : SlotNo) (b : Nat) : LawsKept s (followOn n b s) := by
  unfold followOn
  split
  · exact (setSlot_laws s _ _).trans (raise_laws _ _)
  · exact armSlot_laws s _ _ _

theorem leaveBlock_laws (n : SlotNo) : LawsKept s (leaveBlock n s) := by
  unfold leaveBlock
  simp only
  split
  · exact (adopt_laws s _).trans (release_laws _ _)
  · exact release_laws s _

theorem finishBlock_laws (n : SlotNo) (next : Option Nat) : LawsKept s (finishBlock n next s) := by
  unfold finishBlock
  split
  · exact (setSlot_laws s _ _).trans (raise_laws _ _)
  · exact followOn_laws s _ _

theorem blockEnd_laws (n : SlotNo) : LawsKept s (blockEnd n s) := (leaveBlock_laws s n).trans (finishBlock_laws _ _ _)

theorem fetchInPlace_laws (n : SlotNo) : LawsKept s (fetchInPlace n s) := by
  unfold fetchInPlace
  split
  · exact fetch_laws_of s ‹_›
  · exact (fetch_laws_of s ‹_›).trans (release_laws _ _)

theorem endEntry_laws (n : SlotNo) : LawsKept s (endEntry n s) := by
  unfold endEntry
  split
  · exact (setSlot_laws s _ _).trans (fetchInPlace_laws _ n)
  · exact blockEnd_laws s n

/-- A saved context is replaced by one that is legal where the contexts are. -/
theorem mapSaved_laws (n : SlotNo) (c : Chan) (x : Context) (hx : s.ContextsLegal → x.Legal) :
    LawsKept s (mapSaved n c (fun _ => x) s) := by
  refine setOwn_laws s c _ fun h => ⟨(h.own c).1, (h.own c).2.1, fun y hy => ?_⟩
  obtain ⟨z, hz, rfl⟩ := List.mem_map.1 hy
  split_ifs
  · exact hx h
  · exact (h.own c).2.2 z hz

theorem fetchSaved_laws (n : SlotNo) : LawsKept s (fetchSaved n s) := by
  unfold fetchSaved
  simp only
  split
  · exact (faultFetch_laws s _ _).trans (withdraw_laws _ _ _)
  · refine ((mapSaved_laws s n _ _ fun h => ?_).trans (setSlot_laws _ _ _)).trans (cueOf_laws _ _)
    exact settle_legal (h.last _) (contextOf_legal (h.bank _) _ _)

theorem adoptSaved_laws (n : SlotNo) (c : Chan) : LawsKept s (adoptSaved n c s) := by
  unfold adoptSaved
  split
  · rename_i y hy
    exact setOwn_laws s c _ fun h => ⟨adopted_legal ((h.own c).2.2 y (List.mem_of_find?_eq_some hy)), (h.own c).2⟩
  · exact .refl s

theorem leaveSaved_laws (n : SlotNo) : LawsKept s (leaveSaved n s) := by
  unfold leaveSaved
  simp only
  split
  · exact (adoptSaved_laws s _ _).trans (withdraw_laws _ _ _)
  · exact withdraw_laws s _ _

theorem endSaved_laws (n : SlotNo) : LawsKept s (endSaved n s) := by
  unfold endSaved
  split
  · exact (setSlot_laws s _ _).trans (fetchSaved_laws _ n)
  · exact (leaveSaved_laws s n).trans (finishBlock_laws _ _ _)

theorem entryRunsOut_laws (n : SlotNo) : LawsKept s (entryRunsOut n s) := by
  unfold entryRunsOut
  split
  · exact endEntry_laws s n
  · exact endSaved_laws s n
  all_goals exact .refl s

theorem actSlots_laws (ends claims : List SlotNo) : LawsKept s (actSlots ends claims s) :=
  (LawsKept.foldl _ entryRunsOut_laws ends s).trans (.foldl _ claim_laws claims _)

theorem scenarioTick_laws : LawsKept s (scenarioTick s) := (mapSlots_laws s _).trans (actSlots_laws _ _ _)

theorem fireStart_laws (n : SlotNo) : LawsKept s (fireStart n s) := by
  unfold fireStart
  simp only
  split_ifs
  · exact (setSlot_laws s _ _).trans (claim_laws _ n)
  · exact setSlot_laws s _ _

theorem fireSlot_laws (n : SlotNo) : LawsKept s (fireSlot n s) := by
  unfold fireSlot
  split_ifs
  · exact fireStart_laws s n
  · exact endEntry_laws s n

theorem fireSlots_laws (w : WatchNo) : LawsKept s (fireSlots w s) := by
  refine LawsKept.foldl _ (fun t n => ?_) _ _
  split_ifs
  · exact fireSlot_laws t n
  · exact .refl t

theorem leaveChannel_laws (n : SlotNo) : LawsKept s (leaveChannel n s) := by
  unfold leaveChannel
  simp only
  split
  · exact removeWaiter_laws s _ _
  · exact release_laws s _
  · exact withdraw_laws s _ _
  all_goals exact .refl s

theorem clearChannels_laws : LawsKept s (clearChannels s) := .foldl _ clearChannel_laws _ _

theorem faultOn_laws (c : Chan) (n : SlotNo) : LawsKept s (faultOn c n s) := by
  unfold faultOn
  split_ifs
  · exact (setSlot_laws s _ _).trans (raise_laws _ _)
  · exact .refl s

theorem disableChannel_laws (c : Chan) : LawsKept s (disableChannel c s) :=
  (LawsKept.foldl _ (fun s n => faultOn_laws s c n) _ s).trans (clearChannel_laws _ c)

theorem disableWritten_laws (old : Vector ChannelRecord 32) : LawsKept s (disableWritten old s) := by
  refine LawsKept.foldl _ (fun t c => ?_) _ _
  split_ifs
  · exact disableChannel_laws t c
  · exact .refl t

theorem abortSafe_laws (n : SlotNo) : LawsKept s (abortSafe n s) := by
  unfold abortSafe
  split_ifs
  · exact (setSlot_laws s _ _).trans (raise_laws _ _)
  · exact .refl s

/-! ### The Capture Unit and the watches (chapters 7 and 9) -/

theorem fillHalf_laws (k : SetNo) (h : HalfName) : LawsKept s (fillHalf k h s) :=
  .untouched rfl rfl rfl rfl rfl rfl rfl rfl

theorem settleDrain_laws (k : SetNo) : LawsKept s (settleDrain k s) := by
  unfold settleDrain
  split_ifs
  · exact (setCapture_laws s _ _).trans (raise_laws _ _)
  · exact .refl s

theorem closeFilling_laws (k : SetNo) : LawsKept s (closeFilling k s) := by
  unfold closeFilling
  simp only
  split
  · split_ifs
    · exact setCapture_laws s _ _
    · exact fillHalf_laws s _ _
  · exact .refl s

theorem stopCapture_laws (k : SetNo) : LawsKept s (stopCapture k s) := by
  unfold stopCapture
  split_ifs
  · exact ((closeFilling_laws s k).trans (setCapture_laws _ _ _)).trans (settleDrain_laws _ k)
  · exact .refl s

theorem turnHalf_laws (k : SetNo) (h : HalfName) : LawsKept s (turnHalf k h s) := by
  unfold turnHalf
  simp only
  split_ifs
  · exact (fillHalf_laws s k h).trans (setCapture_laws _ _ _)
  · exact ((fillHalf_laws s k h).trans (setCapture_laws _ _ _)).trans (raise_laws _ _)

theorem takeRecord_laws (k : SetNo) (r : List Word) : LawsKept s (takeRecord k r s) := by
  unfold takeRecord
  simp only
  split
  · exact setCapture_laws s _ _
  · split_ifs
    · exact (setCapture_laws s _ _).trans (turnHalf_laws _ _ _)
    · exact setCapture_laws s _ _

theorem recordDue_laws (k : SetNo) : LawsKept s (recordDue k s) := by
  unfold recordDue
  simp only
  split
  · exact .refl s
  · split_ifs
    · exact takeRecord_laws s _ _
    · exact (setCapture_laws s _ _).trans (advance_laws _ _ _)
    · exact setCapture_laws s _ _

theorem lengthReached_laws (k : SetNo) : LawsKept s (lengthReached k s) := by
  unfold lengthReached
  split_ifs
  · exact stopCapture_laws s k
  · exact .refl s

theorem captureTick_laws (vs : TickValues) (k : SetNo) : LawsKept s (captureTick vs k s) :=
  ((setCapture_laws s _ _).trans (recordDue_laws _ k)).trans (lengthReached_laws _ k)

theorem capturesTick_laws (vs : TickValues) : LawsKept s (capturesTick vs s) :=
  (captureTick_laws s vs 0).trans (captureTick_laws _ vs 1)

theorem startCapture_laws (k : SetNo) : LawsKept s (startCapture k s) := setCapture_laws s _ _

theorem fireCapture_laws (w : WatchNo) (k : SetNo) : LawsKept s (fireCapture w k s) := by
  unfold fireCapture
  simp only
  split_ifs
  · exact startCapture_laws s k
  · exact stopCapture_laws s k
  · exact .refl s

theorem halfDrained_laws (k : SetNo) (h : HalfName) : LawsKept s (halfDrained k h s) := by
  unfold halfDrained
  simp only
  split
  · exact setCapture_laws s _ _
  · exact (setCapture_laws s _ _).trans (settleDrain_laws _ _)
  all_goals exact setCapture_laws s _ _

theorem armCapture_laws (k : SetNo) : LawsKept s (armCapture k s) := by
  unfold armCapture
  simp only
  split_ifs
  · exact (setCapture_laws s _ _).trans (startCapture_laws _ _)
  · exact setCapture_laws s _ _

theorem stopRequested_laws (k : SetNo) : LawsKept s (stopRequested k s) := by
  unfold stopRequested
  split_ifs
  · exact (setCapture_laws s _ _).trans (raise_laws _ _)
  · exact stopCapture_laws s k

theorem noteFire_laws (w : WatchNo) (v : Word) : LawsKept s (noteFire w v s) := by
  have hjoin : LawsKept s (joinHits w (s.setWatch w ((s.watchOf w).stored v s.timer.ticks))) :=
    .untouched rfl rfl rfl rfl rfl rfl rfl rfl
  unfold noteFire
  simp only
  split_ifs
  · exact (hjoin.trans (advance_laws _ _ _)).trans (raise_laws _ _)
  · exact hjoin.trans (advance_laws _ _ _)

theorem takeFire_laws (w : WatchNo) : LawsKept s (takeFire w s) := by
  unfold takeFire
  split
  · exact ((noteFire_laws s _ _).trans (fireSlots_laws _ w)).trans
      ((fireCapture_laws _ w 0).trans (fireCapture_laws _ w 1))
  · exact .refl s

theorem takeFires_laws : LawsKept s (takeFires s) := .foldl _ takeFire_laws _ _

theorem takeFiresOf_laws (i n : Nat) : LawsKept s (takeFiresOf i n s) := by
  refine LawsKept.foldl _ (fun t w => ?_) _ _
  split_ifs
  · exact takeFire_laws t w
  · exact .refl t

end

/-! ### A tick (2.4, 2.5) -/

/-- L and the active contexts take a tick's values (R67, R71). -/
def putValues (vs : TickValues) (s : State) : State :=
  { s with
    channels := { s.channels with last := Vector.ofFn fun c => vs[c].y.getD s.channels.last[c] }
    own := Vector.ofFn fun c => s.own[c].setCurrent (vs[c].context.getD s.own[c].current) }

@[simp] theorem putValues_bank (vs : TickValues) (s : State) : (putValues vs s).bank = s.bank := by
  unfold putValues
  rfl

theorem takeValues_eq (vs : TickValues) (s : State) : takeValues vs s = countClips vs (putValues vs s) := by
  unfold takeValues putValues
  rfl

theorem putValues_last (vs : TickValues) (s : State) (c : Chan) :
    (putValues vs s).channels.last[c] = vs[c].y.getD s.channels.last[c] := by
  simp [putValues]

theorem putValues_own (vs : TickValues) (s : State) (c : Chan) :
    (putValues vs s).own[c] = s.own[c].setCurrent (vs[c].context.getD s.own[c].current) := by
  simp [putValues]

section
variable (s : State)

theorem flowLive_laws : LawsKept s (flowLive s) := by
  refine LawsKept.trans (t := { s with ingress := _, timer := _ }) ?_ (raise_laws _ .linkLive)
  exact .untouched rfl rfl rfl rfl rfl rfl rfl rfl

theorem starved_laws : LawsKept s (starved s) := by
  refine LawsKept.trans (t := { s with ingress := _ }) ?_ (raise_laws _ .linkStarved)
  exact .untouched rfl rfl rfl rfl rfl rfl rfl rfl

theorem takeFlow_laws : LawsKept s (takeFlow s) := by
  unfold takeFlow
  split
  · exact flowLive_laws s
  · exact starved_laws s
  · exact .refl s

theorem ingress_laws (y : Ingress) : LawsKept s { s with ingress := y } := .untouched rfl rfl rfl rfl rfl rfl rfl rfl

theorem timer_laws (y : FrameTimer) : LawsKept s { s with timer := y } := .untouched rfl rfl rfl rfl rfl rfl rfl rfl

theorem staleLive_laws : LawsKept s (staleLive s) := (ingress_laws s _).trans (advance_laws _ ctrStaleTicks 1)

theorem judgeRuns_laws (b : Bool) : LawsKept s (judgeRuns b s) := by
  unfold judgeRuns
  split
  · exact ingress_laws s _
  · split
    · exact staleLive_laws s
    · exact .refl s
  · exact ingress_laws s _
  · exact ingress_laws s _

theorem judge_laws : LawsKept s (judge s) :=
  ((ingress_laws s _).trans (judgeRuns_laws _ _)).trans (takeFlow_laws _)

theorem clearPort_laws : LawsKept s (clearPort s) := by
  have h := clearPort_moves s
  exact .untouched (by rw [h.events]) (by rw [h.events]) (by rw [h.tx]) (by rw [h.tx]) (by rw [h.replay]) h.bank
    (by rw [h.channels]) h.own

/-- The span end of a track, where it does not stand between the phase and its divider. -/
theorem spanEnd_laws (u : TrackNo) : LawsKept s (spanEnd u s) := by
  by_cases hover : (s.track u).spanOver = true
  · rw [spanEnd_of_over hover]
    have hset := setTrack_laws s u _ (fun h => endSpan_legal h) (endSpan_desc _)
    unfold raise?
    split
    · exact hset.trans (raise_laws _ _)
    · exact hset
  · rw [spanEnd_of_not_over (by simpa using hover)]
    exact .refl s

/-- The track's law holds again at the end of its event, not between: the phase may meet the divider on the way. -/
theorem trackTick_laws (u : TrackNo) : LawsKept s (trackTick u s) := by
  refine ⟨fun h => ?_, fun h => h.of_desc fun v hv => ?_, fun h => ?_⟩
  · unfold trackTick
    simp only
    refine (spanEnd_laws _ u).events ?_
    split_ifs
    · exact (advance_laws _ _ _).events (h.congr rfl rfl rfl rfl)
    · exact h.congr rfl rfl rfl rfl
  · by_cases huv : u = v
    · subst huv
      rw [trackTick_track_self]
      exact ⟨Track.ticked_legal _ hv, Track.ticked_desc _ _⟩
    · rw [trackTick_track_ne huv]
      exact ⟨hv, rfl⟩
  · have hm := trackTick_moves u s
    exact h.congr hm.bank (by rw [hm.channels]) hm.own

theorem tracksTick_laws : LawsKept s (tracksTick s) := .foldl _ trackTick_laws _ _

theorem countClips_laws (vs : TickValues) : LawsKept s (countClips vs s) := by
  refine LawsKept.foldl _ (fun t c => ?_) _ _
  split_ifs
  · exact advance_laws t _ _
  · exact .refl t

/-- What a tick's values offer to L and to the contexts is legal. -/
def TickValues.Legal (vs : TickValues) : Prop :=
  ∀ c : Chan, (∀ y ∈ vs[c].y, transformRange y) ∧ ∀ x ∈ vs[c].context, x.Legal

theorem tickValues_legal (h : s.ContextsLegal) : TickValues.Legal (tickValues s) := fun c => by
  rw [tickValues, Fin.getElem_fin, Vector.getElem_ofFn]
  exact channelTick_legal h c

theorem putValues_contextsLegal {vs : TickValues} (hvs : vs.Legal) (h : s.ContextsLegal) : (putValues vs s).ContextsLegal := by
  refine State.contextsLegal_iff.2 ⟨fun i => ?_, fun c => ?_⟩
  · rw [putValues_bank]
    exact h.bank i
  · obtain ⟨hy, hx⟩ := hvs c
    rw [putValues_last, putValues_own]
    refine ⟨getD_range (h.last c) hy, (h.own c).setCurrent ?_⟩
    cases hc : vs[c].context with
    | none => exact (h.own c).current
    | some x => exact hx x hc

theorem takeValues_laws {vs : TickValues} (hvs : s.ContextsLegal → vs.Legal) : LawsKept s (takeValues vs s) := by
  have hput : LawsKept s (putValues vs s) :=
    ⟨fun h => h.congr (by unfold putValues; rfl) (by unfold putValues; rfl) (by unfold putValues; rfl)
        (by unfold putValues; rfl),
      fun h => h.congr (by unfold putValues; rfl), fun h => putValues_contextsLegal s (hvs h) h⟩
  exact hput.trans (countClips_laws _ _)

theorem watchesTick_beginDelivery_laws (vs : TickValues) : LawsKept s (watchesTick vs (beginDelivery vs s)) := by
  unfold watchesTick beginDelivery
  exact .untouched rfl rfl rfl rfl rfl rfl rfl rfl

theorem deliverTick_laws {vs : TickValues} (hvs : s.ContextsLegal → vs.Legal) : LawsKept s (deliverTick vs s) := by
  unfold deliverTick meetTick
  exact (((takeValues_laws s hvs).trans (watchesTick_beginDelivery_laws _ vs)).trans (capturesTick_laws _ vs)).trans (mapSlots_laws _ _)

theorem closeTick_laws : LawsKept s (closeTick s) := (scenarioTick_laws s).trans (takeFires_laws _)

theorem judged_laws : LawsKept s s.judged :=
  ((((closeTick_laws s).trans (clearPort_laws _)).trans (timer_laws _ _)).trans (judge_laws _)).trans (tracksTick_laws _)

theorem tick_laws (o : CountOrder) : LawsKept s (tick o s) := by
  have hcore : LawsKept s (tickCore s) := (judged_laws s).trans (deliverTick_laws _ (tickValues_legal _))
  cases o with
  | countFirst => exact hcore.trans (scenarioTick_laws _)
  | eventsFirst => exact hcore

end

end Sys2Proof.Machine
end

section
/-! Records written from an index on (10.2). -/

namespace Sys2Proof.Machine

section
variable {α : Type} {n : Nat} (v : Vector α n) (i : Nat) (xs : List α)

theorem written?_mem {i k : Nat} {xs : List α} {x : α} (h : written? i xs k = some x) : x ∈ xs := by
  unfold written? at h
  split_ifs at h
  exact List.mem_of_getElem? h

theorem written?_eq_none_iff {i k : Nat} {xs : List α} : written? i xs k = none ↔ ¬ (i ≤ k ∧ k < i + xs.length) := by
  unfold written?
  split_ifs with h
  · rw [List.getElem?_eq_none_iff]
    omega
  · simp [h]

/-- Record k after the write: the one the write carries for it, or the one before. -/
theorem getElem_putAll (k : Fin n) : (putAll v i xs)[k] = (written? i xs k.val).getD v[k] := by
  simp [putAll]

theorem getElem_putAll_of_not_written {k : Fin n} (h : ¬ (i ≤ k.val ∧ k.val < i + xs.length)) : (putAll v i xs)[k] = v[k] := by
  rw [getElem_putAll, written?_eq_none_iff.2 h]
  rfl

/-- A predicate that holds of every record before and of every record written holds of every record after. -/
theorem putAll_forall {p : α → Prop} (hv : ∀ k : Fin n, p v[k]) (hxs : ∀ x ∈ xs, p x) (k : Fin n) : p (putAll v i xs)[k] := by
  rw [getElem_putAll]
  cases hw : written? i xs k.val with
  | none => exact hv k
  | some x => exact hxs x (written?_mem hw)

end

/-! ### Regions (8.2, R126) -/

theorem regionsMeet_comm (d e : TrackDescriptor) : regionsMeet d e = regionsMeet e d := by
  unfold regionsMeet
  exact Bool.and_comm _ _

/-- Check 4 of R126: no written FED region meets another. -/
theorem regionsClash_eq_false_iff {i n : Nat} {xs : Vector Track 8} :
    regionsClash i n xs = false ↔ ∀ u v : TrackNo, (i ≤ u.val ∧ u.val < i + n) → v ≠ u → xs[u].desc.mode = .fed →
      xs[v].desc.mode = .fed → regionsMeet xs[u].desc xs[v].desc = false := by
  rw [regionsClash, ← Bool.not_eq_true]
  simp only [List.any_eq_true, List.mem_finRange, true_and, Bool.and_eq_true, decide_eq_true_eq, not_exists, not_and,
    Bool.not_eq_true]
  constructor
  · intro h u v hu huv hm hm'
    exact h u ⟨hu, hm⟩ v ⟨huv, hm'⟩
  · intro h u hu v huv
    exact h u v hu.1 huv.1 hu.2 huv.2

/-- Legal descriptors that pass check 4 keep the law of tracks. -/
theorem putTracks_legal {s : State} {i : Nat} {ds : List TrackDescriptor} (hs : s.TracksLegal) (hd : ∀ d ∈ ds, d.Legal)
    (hclash : regionsClash i ds.length (putAll s.replay.tracks i (ds.map Track.cleared)) = false) :
    State.TracksLegal { s with replay := { s.replay with tracks := putAll s.replay.tracks i (ds.map Track.cleared) } } := by
  obtain ⟨hlegal, hfed⟩ := hs
  rw [regionsClash_eq_false_iff] at hclash
  refine ⟨putAll_forall _ _ _ hlegal ?_, fun u v huv hu hv => ?_⟩
  · simp only [List.mem_map, forall_exists_index, and_imp, forall_apply_eq_imp_iff₂]
    exact fun d hmem => Track.cleared_legal (hd d hmem)
  · by_cases hwu : i ≤ u.val ∧ u.val < i + ds.length
    · exact hclash u v hwu (Ne.symm huv) hu hv
    by_cases hwv : i ≤ v.val ∧ v.val < i + ds.length
    · rw [regionsMeet_comm]
      exact hclash v u hwv huv hv hu
    have hkeep {w : TrackNo} (hw : ¬ (i ≤ w.val ∧ w.val < i + ds.length)) :
        (putAll s.replay.tracks i (ds.map Track.cleared))[w] = s.replay.tracks[w] :=
      getElem_putAll_of_not_written _ _ _ (by simpa using hw)
    simp only [State.track, hkeep hwu, hkeep hwv] at hu hv ⊢
    exact hfed u v huv hu hv

end Sys2Proof.Machine
end

section
/-! Every step keeps the laws of events, of tracks and of contexts (O52, O54, O55). -/

namespace Sys2Proof.Machine

/-! ### Samples (2.1 to 2.3) -/

section
variable (s : State)

theorem setCurrent_laws (c : Chan) (x : Context) (hx : s.ContextsLegal → x.Legal) :
    LawsKept s (s.setOwn c (s.own[c].setCurrent x)) := setOwn_laws s c _ fun h => (h.own c).setCurrent (hx h)

theorem patchChannel_laws (c : Chan) (f : PatchField) (v : Word) : LawsKept s (patchChannel c f v s) :=
  setCurrent_laws s c _ fun h => patchWrite_legal f v (h.own c).current

theorem applyPatch_laws (p : PatchWord) : LawsKept s (applyPatch p s) := by
  unfold applyPatch
  split
  · split_ifs
    · exact patchChannel_laws s _ _ _
    · exact .refl s
  · exact .refl s

theorem countMissing_laws (d : Nat) : LawsKept s (countMissing d s) := by
  unfold countMissing
  split_ifs
  · exact .refl s
  · exact advance_laws s _ _

theorem storeSamples_laws (f : SampleFrame) : LawsKept s (storeSamples f s) := by
  have hhold (x : Receiver) (y : Ingress) : LawsKept s { s with rx := x, ingress := y } :=
    .untouched rfl rfl rfl rfl rfl rfl rfl rfl
  unfold storeSamples
  simp only
  split_ifs
  · exact (hhold _ _).trans (advance_laws _ _ _)
  · exact hhold _ _

theorem markFresh_laws : LawsKept s (markFresh s) := by
  unfold markFresh
  simp only
  split_ifs
  · exact (advance_laws s _ _).trans (ingress_laws _ _)
  · exact ingress_laws s _

theorem acceptSamples_laws (f : SampleFrame) : LawsKept s (acceptSamples f s) :=
  ((storeSamples_laws s f).trans (.foldl _ applyPatch_laws _ _)).trans (markFresh_laws _)

theorem askTick_laws (us : Nat) (o : CountOrder) : LawsKept s (askTick us o s) := by
  unfold askTick
  simp only
  split_ifs
  · exact timer_laws s _
  · exact (timer_laws s _).trans (tick_laws _ o)
  · exact timer_laws s _
  · exact .refl s

theorem takeSample_laws (us : Nat) (o : CountOrder) (f : SampleFrame) : LawsKept s (takeSample us o f s) := by
  unfold takeSample
  split
  · split_ifs
    · exact advance_laws s _ _
    · exact ((countMissing_laws s _).trans (acceptSamples_laws _ f)).trans (askTick_laws _ us o)
  · exact (acceptSamples_laws s f).trans (askTick_laws _ us o)

/-! ### Requests (chapter 10) -/

theorem LawsKept.ite {p : Prop} [Decidable p] {s t u : State} (ht : LawsKept s t) (hu : LawsKept s u) :
    LawsKept s (if p then t else u) := by
  split_ifs
  · exact ht
  · exact hu

theorem putChannels_laws (i : Nat) (rs : List ChannelRecord) : LawsKept s (putChannels i rs s) := by
  refine LawsKept.trans (t := { s with channels := { s.channels with records := putAll s.channels.records i rs } }) ?_
    (disableWritten_laws _ _)
  exact .untouched rfl rfl rfl rfl rfl rfl rfl rfl

theorem putOverlays_laws (i : Nat) (rs : List OverlayRecord) (hrs : ∀ r ∈ rs, r.Legal) : LawsKept s (putOverlays i rs s) := by
  unfold putOverlays
  exact ⟨fun h => h.congr rfl rfl rfl rfl, fun h => h.congr rfl,
    fun h => State.contextsLegal_iff.2 ⟨putAll_forall s.bank i rs h.bank hrs, h.2⟩⟩

theorem putWatches_laws (i : Nat) (rs : List WatchRecord) : LawsKept s (putWatches i rs s) := by
  refine (takeFiresOf_laws s i rs.length).trans ?_
  exact .untouched rfl rfl rfl rfl rfl rfl rfl rfl

theorem changeSource_laws : LawsKept s (changeSource s) := .untouched rfl rfl rfl rfl rfl rfl rfl rfl

/-- Lifting report hold requests a report only while the summary is not empty (R165). -/
theorem releaseHold_laws : LawsKept s (releaseHold s) := by
  refine ⟨fun ⟨hpending, hreport, hline⟩ => ⟨hpending, fun hr => ?_, hline⟩, fun h => h.congr rfl, fun h => h.congr rfl rfl rfl⟩
  rcases (Bool.or_eq_true _ _).mp hr with hr | hr
  · exact hreport hr
  · exact bne_iff_ne.1 hr

theorem putSetup_laws (x : Setup) : LawsKept s (putSetup x s) := by
  have hset : LawsKept s { s with setup := x } := .untouched rfl rfl rfl rfl rfl rfl rfl rfl
  have hsource := LawsKept.ite (p := x.source = s.setup.source) hset (hset.trans (changeSource_laws _))
  exact .ite (hsource.trans (releaseHold_laws _)) hsource

theorem installBase_laws (c : Chan) (r : OverlayRecord) (hr : s.ContextsLegal → r.Legal) : LawsKept s (installBase c r s) := by
  refine setOwn_laws s c { s.own[c] with base := match s.own[c].active with
    | some _ => contextOf r none (-1) | none => settle s.channels.last[c] (contextOf r none (-1)) } fun h => ⟨?_, (h.own c).2⟩
  have hfresh := contextOf_legal (hr h) none (-1)
  change (match s.own[c].active with
    | some _ => contextOf r none (-1) | none => settle s.channels.last[c] (contextOf r none (-1))).Legal
  split
  · exact hfresh
  · exact settle_legal (h.last c) hfresh

theorem lookAtPort_laws : LawsKept s (lookAtPort s) := by
  unfold lookAtPort
  split
  · exact .untouched rfl rfl rfl rfl rfl rfl rfl rfl
  · exact .refl s

theorem feedRing_laws (u : TrackNo) (vs : List Word) (hroom : vs.length ≤ (s.track u).desc.size - (s.track u).fill) :
    LawsKept s (feedRing u vs s) := by
  refine ⟨fun h => ?_, fun h => h.of_desc fun v hv => ⟨?_, feedRing_desc u v vs s⟩, fun h => ?_⟩
  · rw [feedRing_moves]
    exact h.congr rfl rfl rfl rfl
  · by_cases huv : u = v
    · subst huv
      rw [feedRing_track_self]
      exact resumeFed_legal (appendAll_legal hv hroom)
    · rwa [feedRing_track_ne huv]
  · rw [feedRing_moves]
    exact h.congr rfl rfl rfl

/-- No flag is set and no category pending where both are cleared. -/
theorem cleared_eventsConsistent {t : State} (hf : t.events.flags = 0) (hs : t.events.summary = 0) (hr : t.tx.report = false)
    (hl : ∀ sm tk, t.tx.line = some (.report sm tk) → sm ≠ 0) : t.EventsConsistent := by
  refine ⟨fun c _ => ?_, by simp [hr], hl⟩
  simp [hf, hs, flagged]

theorem readEvents_laws :
    LawsKept s { s with events := { s.events with flags := 0, summary := 0 }, tx := { s.tx with report := false } } :=
  ⟨fun h => cleared_eventsConsistent rfl rfl rfl h.2.2, fun h => h.congr rfl, fun h => h.congr rfl rfl rfl⟩

theorem replicate_own_legal {t : State} (hb : ∀ i : Fin 256, t.bank[i].Legal) (hl : t.channels.last = Vector.replicate 32 0)
    (ho : t.own = Vector.replicate 32 Ownership.initial) : t.ContextsLegal := by
  refine State.contextsLegal_iff.2 ⟨hb, fun c => ?_⟩
  rw [hl, ho]
  simp only [Fin.getElem_fin, Vector.getElem_replicate]
  exact ⟨transformRange_zero, Ownership.initial_contextsLegal⟩

/-- Tracks whose run state is reset keep the law. -/
theorem State.TracksLegal.cleared {s t : State} (h : s.TracksLegal) (ht : ∀ u, t.track u = Track.cleared (s.track u).desc) :
    t.TracksLegal := by
  refine h.of_desc fun u hu => ?_
  rw [ht]
  exact ⟨Track.cleared_legal hu.desc_legal, rfl⟩

theorem resetUnits_laws : LawsKept s (resetUnits s) := by
  refine ⟨fun h => ?_, fun h => h.cleared fun u => ?_, fun h => ?_⟩
  · exact cleared_eventsConsistent rfl rfl rfl h.2.2
  · simp [State.track, resetUnits]
  · exact replicate_own_legal h.bank rfl rfl

theorem resetDevice_laws : LawsKept s (resetDevice s) := .ite ((resetUnits_laws s).trans (raise_laws _ _)) (resetUnits_laws s)

theorem resetScenarios_laws : LawsKept s ((clearChannels s).mapSlots fun _ => Slot.idle) :=
  (clearChannels_laws s).trans (mapSlots_laws _ _)

/-- Serving a request keeps the laws. -/
theorem Served.laws {s t : State} (h : Served s t) : LawsKept s t := by
  cases h with
  | same => exact .refl s
  | channels i rs => exact putChannels_laws s i rs
  | slotMap | blocks | entries | captures | memory | views | hits | counter =>
    exact .untouched rfl rfl rfl rfl rfl rfl rfl rfl
  | overlays i rs hlegal => exact putOverlays_laws s i rs hlegal
  | watches i rs => exact putWatches_laws s i rs
  | tracks i ds hlegal hclash =>
    exact ⟨fun h => h.congr rfl rfl rfl rfl, fun h => putTracks_legal h hlegal hclash, fun h => h.congr rfl rfl rfl⟩
  | setup x => exact putSetup_laws s x
  | standing c o => exact installBase_laws s c _ fun h => h.bank o
  | patch c f v => exact patchChannel_laws s c f v
  | look => exact lookAtPort_laws s
  | arm n b => exact armSlot_laws s n b _
  | abort n => exact (leaveChannel_laws s n).trans (setSlot_laws _ _ _)
  | clear n => exact setSlot_laws s n _
  | resetScenarios => exact resetScenarios_laws s
  | play u => exact cueTrack_laws s u
  | stop u => exact setTrack_laws s u _ stopTrack_legal rfl
  | append u vs _ hroom _ hu =>
    rcases hu with rfl | ⟨n, rfl⟩
    · exact feedRing_laws s u vs hroom
    · exact (feedRing_laws s u vs hroom).trans (advance_laws _ _ _)
  | armCapture k => exact armCapture_laws s k
  | stopCapture k => exact stopRequested_laws s k
  | rearm w => exact setWatch_laws s w _
  | events => exact readEvents_laws s
  | device => exact resetDevice_laws s

/-! ### The line, power-on and the safe line (chapters 1 and 3) -/

theorem discardFrame_laws (f : Framing) : LawsKept s (discardFrame f s) := by
  refine LawsKept.trans (t := { s with rx := { s.rx with framing := f, buffer := [] } }) ?_ (advance_laws _ _ _)
  exact .untouched rfl rfl rfl rfl rfl rfl rfl rfl

theorem finishDelivery_laws (d : Delivery) : LawsKept s (finishDelivery d s) := .untouched rfl rfl rfl rfl rfl rfl rfl rfl

/-- A frame goes onto the line; a REPORT frame shows a summary that is not empty. -/
theorem putOnLine_eventsConsistent {s : State} (h : s.EventsConsistent) (f : UpFrame) (b : Bool)
    (hf : ∀ sm tk, f = .report sm tk → sm ≠ 0) : (putOnLine f b s).EventsConsistent := by
  obtain ⟨hpending, hreport, -⟩ := h
  exact ⟨hpending, hreport, fun sm tk hl => hf sm tk (Option.some.inj hl)⟩

theorem choose_laws : LawsKept s (choose s) := by
  refine ⟨fun h => ?_, fun h => h.congr ?_, fun h => ?_⟩
  · obtain ⟨hpending, hreport, hline⟩ := id h
    unfold choose
    split
    · rename_i rs _
      exact putOnLine_eventsConsistent (s := { s with tx := { s.tx with replies := rs } }) ⟨hpending, hreport, hline⟩ _ false
        (by simp)
    · split_ifs with hr
      · refine putOnLine_eventsConsistent (s := { s with tx := { s.tx with report := false } })
          ⟨hpending, nofun, hline⟩ _ false ?_
        rintro _ _ ⟨⟩
        exact hreport hr
      · split
        · exact putOnLine_eventsConsistent h _ _ (by simp [captureFrame])
        · exact putOnLine_eventsConsistent h _ _ (by simp)
  · unfold choose
    split
    · rfl
    · split_ifs
      · rfl
      · split <;> rfl
  · unfold choose
    split
    · exact h.congr rfl rfl rfl
    · split_ifs
      · exact h.congr rfl rfl rfl
      · split <;> exact h.congr rfl rfl rfl

theorem settleSent_laws (f : UpFrame) : LawsKept s (settleSent f s) := by
  unfold settleSent
  split
  · simp only
    split_ifs
    · refine LawsKept.trans (t := { s with tx := { s.tx with drain := _ } }) ?_ (halfDrained_laws _ _ _)
      exact .untouched rfl rfl rfl rfl rfl rfl rfl rfl
    · exact .untouched rfl rfl rfl rfl rfl rfl rfl rfl
  · exact .refl s

theorem holdReset_laws : LawsKept s (holdReset s) :=
  ⟨fun h => ⟨h.1, by simp [holdReset], by simp [holdReset]⟩, fun h => h.congr rfl, fun h => h.congr rfl rfl rfl⟩

theorem initial_tracksLegal {t : State} (ht : ∀ u, t.track u = Track.cleared (TrackDescriptor.initial u)) : t.TracksLegal := by
  refine ⟨fun u => ?_, fun u v _ hu => ?_⟩
  · rw [ht]
    exact Track.cleared_legal (TrackDescriptor.initial_legal u)
  · rw [ht] at hu
    cases hu

theorem initStart_laws : LawsKept s (initStart s) := by
  refine ⟨fun _ => ?_, fun _ => initial_tracksLegal fun u => ?_, fun _ => ?_⟩
  · exact cleared_eventsConsistent rfl rfl rfl (by simp [initStart])
  · simp [State.track, initStart]
  · refine replicate_own_legal (fun i => ?_) rfl rfl
    simp only [initStart, Fin.getElem_fin, Vector.getElem_replicate]
    exact OverlayRecord.initial_legal

theorem initEnd_laws : LawsKept s (initEnd s) := by
  have hunits : LawsKept s (initUnits s) := .untouched rfl rfl rfl rfl rfl rfl rfl rfl
  exact .ite ((hunits.trans (raise_laws _ _)).trans (raise_laws _ _)) (hunits.trans (raise_laws _ _))

theorem stopTracks_laws : LawsKept s (stopTracks s) := by
  refine ⟨fun h => h.congr rfl rfl rfl rfl, fun h => h.of_desc fun u hu => ?_, fun h => h.congr rfl rfl rfl⟩
  have ht : (stopTracks s).track u = stopTrack (s.track u) := by simp [stopTracks, State.track]
  rw [ht]
  exact ⟨stopTrack_legal hu, rfl⟩

theorem clearAllToPass_laws : LawsKept s (clearAllToPass s) := by
  unfold clearAllToPass
  refine ⟨fun h => h.congr rfl rfl rfl rfl, fun h => h.congr rfl, fun h => State.contextsLegal_iff.2 ⟨h.bank, fun c => ⟨h.last c, ?_⟩⟩⟩
  simp only [Fin.getElem_fin, Vector.getElem_ofFn]
  exact ⟨standing_legal (h.last c), by rintro _ ⟨⟩, by rintro _ ⟨⟩⟩

theorem startSafeDelivery_laws : LawsKept s (startSafeDelivery s) := by
  unfold startSafeDelivery
  split <;> exact .untouched rfl rfl rfl rfl rfl rfl rfl rfl

theorem safeLine_laws (y : SafeLine) : LawsKept s { s with safe := y } := .untouched rfl rfl rfl rfl rfl rfl rfl rfl

theorem assertSafe_laws : LawsKept s (assertSafe s) :=
  (((((LawsKept.foldl _ abortSafe_laws _ s).trans (safeLine_laws _ _)).trans (clearAllToPass_laws _)).trans
    (stopTracks_laws _)).trans (startSafeDelivery_laws _)).trans (raise_laws _ _)

theorem releaseSafe_laws : LawsKept s (releaseSafe s) :=
  ((takeFires_laws s).trans (safeLine_laws _ _)).trans (raise_laws _ _)

end

/-- Every effect of a command keeps the laws. -/
theorem Effect.laws {s t : State} (h : Effect s t) : LawsKept s t := by
  cases h with
  | same => exact .refl s
  | word | start => exact .untouched rfl rfl rfl rfl rfl rfl rfl rfl
  | discard f => exact discardFrame_laws s f
  | fill => exact toHunt_laws s
  | counted i => exact (toHunt_laws s).trans (advance_laws _ i 1)
  | sample us o f => exact (toHunt_laws s).trans (takeSample_laws _ us o f)
  | served r st data u _ hu =>
    exact ((toHunt_laws s).trans hu.laws).trans (.untouched rfl rfl rfl rfl rfl rfl rfl rfl)
  | tick o y => exact (timer_laws s y).trans (tick_laws _ o)
  | delivered d => exact finishDelivery_laws s d
  | live => exact flowLive_laws s
  | starved y => exact (timer_laws s y).trans (starved_laws _)
  | spanEnd u => exact spanEnd_laws s u
  | fire w => exact takeFire_laws s w
  | delay n => exact ((mapSlots_laws s _).trans (claim_laws _ n)).trans (actSlots_laws _ _ _)
  | duration n => exact (mapSlots_laws s _).trans (actSlots_laws _ _ _)
  | record k => exact recordDue_laws s k
  | length k => exact lengthReached_laws s k
  | choose => exact choose_laws s
  | sent f => exact (settleSent_laws s f).trans (choose_laws _)
  | held => exact holdReset_laws s
  | init => exact initStart_laws s
  | ready => exact initEnd_laws s
  | safe => exact (safeLine_laws s _).trans (assertSafe_laws _)
  | low b => exact safeLine_laws s _
  | release => exact releaseSafe_laws s

/-- Settles O52: events set flag and category together, and a frame shows the summary that requested it. -/
theorem stepKeepsEventsConsistent : Obligations.StepKeepsEventsConsistent :=
  fun _ _ => step_keeps (fun _ _ h => h) fun _ _ h he => he.laws.events h

/-- Settles O54: tracks run within their descriptors, and a descriptor is written only where no FED region meets another. -/
theorem stepKeepsTracksLegal : Obligations.StepKeepsTracksLegal :=
  fun _ _ => step_keeps (fun _ _ h => h) fun _ _ h he => he.laws.tracks h

/-- Settles O55: every context comes from a legal record and L, and every operation on it keeps its bounds. -/
theorem stepKeepsContextsLegal : Obligations.StepKeepsContextsLegal :=
  fun _ _ => step_keeps (fun _ _ h => h) fun _ _ h he => he.laws.contexts h

end Sys2Proof.Machine
end

section
/-! Every step keeps the tables, the stores, the queues and the settings legal (O53): most operations leave all of them as they
stand, and the writes store what the checks have let through. -/

namespace Sys2Proof.Machine

/-- The two states agree in everything the law of tables reads. -/
structure TablesAgree (s t : State) : Prop where
  records : t.channels.records = s.channels.records
  slotMap : t.ingress.slotMap = s.ingress.slotMap
  view0 : t.ingress.view0 = s.ingress.view0
  view1 : t.ingress.view1 = s.ingress.view1
  blocks : t.scenario.blocks = s.scenario.blocks
  entries : t.scenario.entries = s.scenario.entries
  mem : t.replay.mem = s.replay.mem
  setup : t.setup = s.setup
  buffer : t.rx.buffer = s.rx.buffer
  replies : t.tx.replies = s.tx.replies

namespace TablesAgree

variable {s t u : State}

theorem refl (s : State) : TablesAgree s s := ⟨rfl, rfl, rfl, rfl, rfl, rfl, rfl, rfl, rfl, rfl⟩

theorem trans (h : TablesAgree s t) (k : TablesAgree t u) : TablesAgree s u :=
  ⟨k.records.trans h.records, k.slotMap.trans h.slotMap, k.view0.trans h.view0, k.view1.trans h.view1,
    k.blocks.trans h.blocks, k.entries.trans h.entries, k.mem.trans h.mem, k.setup.trans h.setup,
    k.buffer.trans h.buffer, k.replies.trans h.replies⟩

/-- The law holds in both states or in neither. -/
theorem legal (h : TablesAgree s t) (hs : s.TablesLegal) : t.TablesLegal := by
  unfold State.TablesLegal State.LimitsHold State.MapDistinct State.StoresCanonical State.QueuesBounded at *
  rwa [h.records, h.slotMap, h.view0, h.view1, h.blocks, h.entries, h.mem, h.setup, h.buffer, h.replies]

end TablesAgree

section
variable {s t : State}

theorem FireMoved.tables (h : FireMoved s t) : TablesAgree s t :=
  ⟨by rw [h.channels], by rw [h.ingress], by rw [h.ingress], by rw [h.ingress], h.scenario_blocks, h.scenario_entries,
    h.replay_mem, h.setup, by rw [h.rx], h.tx_replies⟩

theorem ScenarioMoved.tables (h : ScenarioMoved s t) : TablesAgree s t := h.asFire.tables

theorem CaptureMoved.tables (h : CaptureMoved s t) : TablesAgree s t := h.asFire.tables

theorem EventsMoved.tables (h : EventsMoved s t) : TablesAgree s t := h.asScenario.tables

theorem FlowMoved.tables (h : FlowMoved s t) : TablesAgree s t :=
  ⟨by rw [h.channels], h.ingress_slotMap, h.ingress_view0, h.ingress_view1, by rw [h.scenario], by rw [h.scenario],
    by rw [h.replay], h.setup, by rw [h.rx], h.tx_replies⟩

theorem AcceptMoved.tables (h : AcceptMoved s t) : TablesAgree s t := by
  unfold AcceptMoved at h
  constructor <;> rw [h]

theorem timer_tables (s : State) (y : FrameTimer) : TablesAgree s { s with timer := y } :=
  ⟨rfl, rfl, rfl, rfl, rfl, rfl, rfl, rfl, rfl, rfl⟩

theorem tick_tables (o : CountOrder) (s : State) : TablesAgree s (tick o s) := by
  obtain ⟨hingress, -, hrecords, -, hsetup, hrx, -, hmem, hblocks, hentries, hreplies, -⟩ := tick_keeps o s
  exact ⟨hrecords, by rw [hingress, judged_ingress_slotMap], by rw [hingress, judged_ingress_view0],
    by rw [hingress, judged_ingress_view1], hblocks, hentries, hmem, hsetup, by rw [hrx], hreplies⟩

end

/-! ### Samples (2.1, 2.4) -/

/-- A frame's tick occurs at once, is held, or is not asked for. -/
theorem askTick_cases (us : Nat) (o : CountOrder) (s : State) :
    (∃ y, askTick us o s = { s with timer := y }) ∨ ∃ y, askTick us o s = tick o { s with timer := y } := by
  unfold askTick
  simp only
  split_ifs
  · exact .inl ⟨_, rfl⟩
  · exact .inr ⟨_, rfl⟩
  · exact .inl ⟨_, rfl⟩
  · exact .inl ⟨s.timer, rfl⟩

/-- A SAMPLE frame is discarded whole, or accepted and then asks for its tick. -/
theorem takeSample_cases (us : Nat) (o : CountOrder) (f : SampleFrame) (s : State) :
    takeSample us o f s = advance ctrSeqBackward 1 s ∨ takeSample us o f s = askTick us o (s.accepting f) := by
  cases he : s.ahead? f.seq with
  | none => exact .inr (by simp only [takeSample, State.accepting, he])
  | some d =>
    by_cases hd : 32767 < d
    · exact .inl (by simp only [takeSample, he, if_pos hd])
    · exact .inr (by simp only [takeSample, State.accepting, he, if_neg hd])

theorem askTick_tables (us : Nat) (o : CountOrder) (s : State) : TablesAgree s (askTick us o s) := by
  rcases askTick_cases us o s with ⟨y, h⟩ | ⟨y, h⟩ <;> rw [h]
  · exact timer_tables s y
  · exact (timer_tables s y).trans (tick_tables o _)

theorem takeSample_tables (us : Nat) (o : CountOrder) (f : SampleFrame) (s : State) : TablesAgree s (takeSample us o f s) := by
  rcases takeSample_cases us o f s with h | h <;> rw [h]
  · exact (advance_moves _ _ _).tables
  · exact (accepting_moves f s).tables.trans (askTick_tables us o _)

/-! ### Requests -/

section
variable {s : State}

/-- A law kept, and the reply queue as it stood. -/
def TablesKept (s t : State) : Prop := (s.TablesLegal → t.TablesLegal) ∧ t.tx.replies = s.tx.replies

theorem TablesAgree.kept {t : State} (h : TablesAgree s t) : TablesKept s t := ⟨h.legal, h.replies⟩

theorem State.TablesLegal.setRecords {v : Vector ChannelRecord 32} (h : s.TablesLegal) (hv : ∀ c : Chan, v[c].Legal) :
    State.TablesLegal { s with channels := { s.channels with records := v } } := by
  obtain ⟨-, hrest⟩ := h
  exact ⟨hv, hrest⟩

theorem putChannels_kept {i : Nat} {rs : List ChannelRecord} (hrs : ∀ r ∈ rs, r.Legal) : TablesKept s (putChannels i rs s) := by
  have hmoved := (disableWritten_scenario s.channels.records
    { s with channels := { s.channels with records := putAll s.channels.records i rs } }).tables
  exact ⟨fun h => hmoved.legal (h.setRecords (putAll_forall _ i rs h.1 hrs)), hmoved.replies⟩

theorem watch_tables (s : State) (y : WatchUnit) : TablesAgree s { s with watch := y } :=
  ⟨rfl, rfl, rfl, rfl, rfl, rfl, rfl, rfl, rfl, rfl⟩

theorem putWatches_tables (i : Nat) (rs : List WatchRecord) : TablesAgree s (putWatches i rs s) :=
  (takeFiresOf_fire i rs.length s).tables.trans (watch_tables _ _)

/-- What a Setup write leaves but the record itself. -/
theorem putSetup_kept {x : Setup} (hx : x.Legal) : TablesKept s (putSetup x s) := by
  have hset : TablesKept s { s with setup := x } := by
    refine ⟨?_, rfl⟩
    rintro ⟨hlimits, hmap, hstores, hqueues, -, hviews⟩
    exact ⟨hlimits, hmap, hstores, hqueues, hx, hviews⟩
  have hagree : TablesAgree { s with setup := x } (putSetup x s) := by
    unfold putSetup
    simp only
    split_ifs <;> exact ⟨rfl, rfl, rfl, rfl, rfl, rfl, rfl, rfl, rfl, rfl⟩
  exact ⟨hagree.legal ∘ hset.1, hagree.replies⟩

theorem feedRing_kept (u : TrackNo) (vs : List Word) : TablesKept s (feedRing u vs s) := by
  have hmem : ∀ (vs : List Word) (s : State), Mem.Wf s.replay.mem → Mem.Wf (appendAll u vs s).replay.mem := by
    intro vs
    induction vs with
    | nil => exact fun _ h => h
    | cons v vs ih => exact fun s h => ih _ (Mem.write_wf h _ _)
  refine ⟨?_, by rw [feedRing_moves]⟩
  rintro ⟨hlimits, hmap, ⟨hblocks, hentries, hwf⟩, hrest⟩
  rw [feedRing_moves]
  exact ⟨hlimits, hmap, ⟨hblocks, hentries, hmem vs s hwf⟩, hrest⟩

theorem lookAtPort_tables : TablesAgree s (lookAtPort s) := by
  unfold lookAtPort
  split <;> exact ⟨rfl, rfl, rfl, rfl, rfl, rfl, rfl, rfl, rfl, rfl⟩

theorem resetDevice_tables : TablesAgree s (resetDevice s) := by
  have hunits : TablesAgree s (resetUnits s) := ⟨rfl, rfl, rfl, rfl, rfl, rfl, rfl, rfl, rfl, rfl⟩
  unfold resetDevice
  split_ifs
  · exact hunits.trans (raise_moves _ _).tables
  · exact hunits

theorem Served.tables {t : State} (h : Served s t) : TablesKept s t := by
  cases h with
  | same => exact (TablesAgree.refl s).kept
  | channels i rs hlegal => exact putChannels_kept hlegal
  | slotMap m hdistinct =>
    exact ⟨fun ⟨hlimits, _, hrest⟩ => ⟨hlimits, mapDistinct_iff.1 hdistinct, hrest⟩, rfl⟩
  | blocks a ws =>
    exact ⟨fun ⟨hlimits, hmap, ⟨hblocks, hrest⟩, hqueues⟩ => ⟨hlimits, hmap, ⟨Mem.writeAll_wf ws hblocks a, hrest⟩, hqueues⟩, rfl⟩
  | entries a ws =>
    exact ⟨fun ⟨hlimits, hmap, ⟨hblocks, hentries, hmem⟩, hqueues⟩ =>
      ⟨hlimits, hmap, ⟨hblocks, Mem.writeAll_wf ws hentries a, hmem⟩, hqueues⟩, rfl⟩
  | memory a ws =>
    exact ⟨fun ⟨hlimits, hmap, ⟨hblocks, hentries, hmem⟩, hqueues⟩ =>
      ⟨hlimits, hmap, ⟨hblocks, hentries, Mem.writeAll_wf ws hmem a⟩, hqueues⟩, rfl⟩
  | views a b =>
    exact ⟨fun ⟨hlimits, hmap, hstores, hqueues, hsetup, _⟩ =>
      ⟨hlimits, hmap, hstores, hqueues, hsetup, viewBase_legal a, viewBase_legal b⟩, rfl⟩
  | overlays i rs =>
    unfold putOverlays
    exact TablesAgree.kept ⟨rfl, rfl, rfl, rfl, rfl, rfl, rfl, rfl, rfl, rfl⟩
  | tracks | captures | clear | play | stop | rearm | hits | counter | events =>
    exact TablesAgree.kept ⟨rfl, rfl, rfl, rfl, rfl, rfl, rfl, rfl, rfl, rfl⟩
  | watches i rs => exact (putWatches_tables i rs).kept
  | setup x hlegal => exact putSetup_kept hlegal
  | standing c o => exact (setOwn_scenario _ _ s).tables.kept
  | patch c f v => exact (setOwn_scenario _ _ s).tables.kept
  | look => exact lookAtPort_tables.kept
  | arm n b => exact (armSlot_scenario n b _ s).tables.kept
  | abort n => exact ((leaveChannel_scenario n s).trans (setSlot_scenario _ _ _)).tables.kept
  | resetScenarios => exact ((clearChannels_scenario s).trans (mapSlots_scenario _ _)).tables.kept
  | append u vs _ _ hmoves =>
    have hfeed := feedRing_kept (s := s) u vs
    exact ⟨hmoves.tables.legal ∘ hfeed.1, hmoves.tables.replies.trans hfeed.2⟩
  | armCapture k => exact (armCapture_moves k s).tables.kept
  | stopCapture k => exact (stopRequested_moves k s).tables.kept
  | device => exact resetDevice_tables.kept

end

/-! ### The queues and power-on -/

section
variable {s : State}

/-- A law that survives a change of the queues to ones within their bounds. -/
theorem State.TablesLegal.queues {t : State} (h : s.TablesLegal) (hrecords : t.channels.records = s.channels.records)
    (hingress : t.ingress = s.ingress) (hscenario : t.scenario = s.scenario) (hreplay : t.replay = s.replay)
    (hsetup : t.setup = s.setup) (hqueues : t.QueuesBounded) : t.TablesLegal := by
  obtain ⟨hlimits, hmap, hstores, -, hlegal, hviews⟩ := h
  unfold State.TablesLegal State.LimitsHold State.MapDistinct State.StoresCanonical at *
  rw [hrecords, hingress, hscenario, hreplay, hsetup]
  exact ⟨hlimits, hmap, hstores, hqueues, hlegal, hviews⟩

theorem State.TablesLegal.bounded (h : s.TablesLegal) : s.QueuesBounded := h.2.2.2.1

theorem toHunt_tablesLegal (h : s.TablesLegal) : s.toHunt.TablesLegal :=
  h.queues rfl rfl rfl rfl rfl ⟨h.bounded.1, Nat.zero_le _⟩

theorem choose_tablesLegal (h : s.TablesLegal) : (choose s).TablesLegal := by
  obtain ⟨hreplies, hbuffer⟩ := id h.bounded
  unfold choose
  split
  · rename_i r rs hrs
    rw [hrs, List.length_cons] at hreplies
    exact h.queues rfl rfl rfl rfl rfl ⟨Nat.le_of_succ_le hreplies, hbuffer⟩
  · split_ifs
    · exact TablesAgree.legal ⟨rfl, rfl, rfl, rfl, rfl, rfl, rfl, rfl, rfl, rfl⟩ h
    · split <;> exact TablesAgree.legal ⟨rfl, rfl, rfl, rfl, rfl, rfl, rfl, rfl, rfl, rfl⟩ h

theorem settleSent_tables (f : UpFrame) : TablesAgree s (settleSent f s) := by
  have hdrain (q : List DrainEntry) : TablesAgree s { s with tx := { s.tx with drain := q } } :=
    ⟨rfl, rfl, rfl, rfl, rfl, rfl, rfl, rfl, rfl, rfl⟩
  unfold settleSent
  split
  · simp only
    split_ifs
    · exact (hdrain _).trans (halfDrained_moves _ _ _).tables
    · exact hdrain _
  · exact .refl s

theorem ChannelRecord.initial_legal : ChannelRecord.initial.Legal := by
  unfold ChannelRecord.Legal
  decide

theorem Setup.initial_legal : Setup.initial.Legal := by
  unfold Setup.Legal
  decide

theorem initStart_tablesLegal (h : s.TablesLegal) : (initStart s).TablesLegal := by
  obtain ⟨-, -, hstores, ⟨-, hbuffer⟩, -, hviews⟩ := h
  refine ⟨fun c => ?_, fun i j c hi hj => ?_, hstores, ⟨Nat.zero_le _, hbuffer⟩, Setup.initial_legal, hviews⟩
  · simp only [initStart, Fin.getElem_fin, Vector.getElem_replicate]
    exact ChannelRecord.initial_legal
  · simp only [initStart, Fin.getElem_fin, Vector.getElem_ofFn, Option.some.injEq] at hi hj
    exact hi.trans hj.symm

theorem initEnd_tablesLegal (h : s.TablesLegal) : (initEnd s).TablesLegal := by
  have hunits : (initUnits s).TablesLegal := by
    obtain ⟨hlimits, hmap, -, ⟨hreplies, -⟩, hsetup, -⟩ := h
    exact ⟨hlimits, hmap, reset_stores_wf, ⟨hreplies, Nat.zero_le _⟩, hsetup, .inl rfl, .inr (.inl rfl)⟩
  have hready := (raise_moves .ready (initUnits s)).tables.legal hunits
  unfold initEnd
  simp only
  split_ifs
  · exact (raise_moves _ _).tables.legal hready
  · exact hready

theorem safeLine_tables (s : State) (y : SafeLine) : TablesAgree s { s with safe := y } :=
  ⟨rfl, rfl, rfl, rfl, rfl, rfl, rfl, rfl, rfl, rfl⟩

theorem own_tables (s : State) (v : Vector Ownership 32) : TablesAgree s { s with own := v } :=
  ⟨rfl, rfl, rfl, rfl, rfl, rfl, rfl, rfl, rfl, rfl⟩

theorem clearAllToPass_tables (s : State) : TablesAgree s (clearAllToPass s) := own_tables s _

theorem tracks_tables (s : State) (v : Vector Track 8) : TablesAgree s { s with replay := { s.replay with tracks := v } } :=
  ⟨rfl, rfl, rfl, rfl, rfl, rfl, rfl, rfl, rfl, rfl⟩

theorem stopTracks_tables (s : State) : TablesAgree s (stopTracks s) := tracks_tables s _

theorem startSafeDelivery_tables (s : State) : TablesAgree s (startSafeDelivery s) := by
  unfold startSafeDelivery
  split <;> exact ⟨rfl, rfl, rfl, rfl, rfl, rfl, rfl, rfl, rfl, rfl⟩

theorem assertSafe_tables : TablesAgree s (assertSafe s) := by
  have habort := (ScenarioMoved.foldl _ (fun s n => abortSafe_scenario n s) (List.finRange 8) s).tables
  exact ((((habort.trans (safeLine_tables _ _)).trans (clearAllToPass_tables _)).trans (stopTracks_tables _)).trans
    (startSafeDelivery_tables _)).trans (raise_moves _ _).tables

theorem releaseSafe_tables : TablesAgree s (releaseSafe s) :=
  ((takeFires_fire s).tables.trans (safeLine_tables _ _)).trans (raise_moves _ _).tables

end

/-- Every effect of a command keeps the law of tables. -/
theorem Effect.tablesLegal {s t : State} (h : Effect s t) (hs : s.TablesLegal) : t.TablesLegal := by
  cases h with
  | same => exact hs
  | word w hroom =>
    refine hs.queues rfl rfl rfl rfl rfl ⟨hs.bounded.1, ?_⟩
    simpa using hroom
  | start => exact hs.queues rfl rfl rfl rfl rfl ⟨hs.bounded.1, Nat.zero_le _⟩
  | discard f =>
    exact (advance_moves ctrBadFrames 1 _).tables.legal (hs.queues rfl rfl rfl rfl rfl ⟨hs.bounded.1, Nat.zero_le _⟩)
  | fill => exact toHunt_tablesLegal hs
  | counted i => exact (advance_moves i 1 _).tables.legal (toHunt_tablesLegal hs)
  | sample us o f => exact (takeSample_tables us o f _).legal (toHunt_tablesLegal hs)
  | served r st data u hserves hu =>
    obtain ⟨hlegal, hreplies⟩ := hu.tables
    have hu := hlegal (toHunt_tablesLegal hs)
    refine hu.queues rfl rfl rfl rfl rfl ⟨?_, hu.bounded.2⟩
    rw [State.answered, hreplies]
    simpa using hserves.room
  | tick o y => exact ((timer_tables s y).trans (tick_tables o _)).legal hs
  | delivered d => exact TablesAgree.legal ⟨rfl, rfl, rfl, rfl, rfl, rfl, rfl, rfl, rfl, rfl⟩ hs
  | live => exact (flowLive_moves s).tables.legal hs
  | starved y => exact ((timer_tables s y).trans (starved_moves _).tables).legal hs
  | spanEnd u => exact (spanEnd_scenario u s).tables.legal hs
  | fire w => exact (takeFire_fire w s).tables.legal hs
  | delay n =>
    exact (((countSlots_scenario s).trans (claim_scenario n _)).trans (actSlots_scenario _ _ _)).tables.legal hs
  | duration n => exact ((countSlots_scenario s).trans (actSlots_scenario _ _ _)).tables.legal hs
  | record k => exact (recordDue_moves k s).tables.legal hs
  | length k => exact (lengthReached_moves k s).tables.legal hs
  | choose => exact choose_tablesLegal hs
  | sent f => exact choose_tablesLegal ((settleSent_tables f).legal hs)
  | held => exact hs.queues rfl rfl rfl rfl rfl ⟨Nat.zero_le _, hs.bounded.2⟩
  | init => exact initStart_tablesLegal hs
  | ready => exact initEnd_tablesLegal hs
  | safe =>
    exact (TablesAgree.trans (t := s.setLow true) ⟨rfl, rfl, rfl, rfl, rfl, rfl, rfl, rfl, rfl, rfl⟩ assertSafe_tables).legal hs
  | low b => exact TablesAgree.legal ⟨rfl, rfl, rfl, rfl, rfl, rfl, rfl, rfl, rfl, rfl⟩ hs
  | release => exact releaseSafe_tables.legal hs

/-- Settles O53: a write stores what its checks let through, and everything else leaves tables, stores and settings alone. -/
theorem stepKeepsTablesLegal : Obligations.StepKeepsTablesLegal :=
  fun _ _ => step_keeps (fun _ _ h => h) fun _ _ h he => he.tablesLegal h

end Sys2Proof.Machine
end

section
/-! Places on channels (chapters 5 and 6): the law of the Ownership Unit as an agreement of slots with the places the channels
hold, and what the elementary moves of a slot and of a context leave of it. -/

namespace Sys2Proof.Machine

/-! ### Places -/

/-- What a channel holds for a slot: the owner named, the priority, and the state the slot has there. -/
structure Place where
  owner : Option SlotNo
  priority : Int
  state : SlotState

def Context.place (st : SlotState) (x : Context) : Place := { owner := x.owner, priority := x.priority, state := st }

def Waiter.place (w : Waiter) : Place := { owner := some w.slot, priority := w.priority, state := .waiting }

/-- Every place of a channel: the active slot context's, the stack's and the waiting set's. -/
def Ownership.places (o : Ownership) : List Place :=
  o.active.toList.map (Context.place .running) ++ o.stack.map (Context.place .suspended) ++ o.waiting.map Waiter.place

/-- The states in which a slot has a place (6.2). -/
def SlotState.placed : SlotState → Bool
  | .running | .suspended | .waiting => true
  | .idle | .armed | .faulted => false

section
variable {o : Ownership} {p : Place}

theorem Ownership.mem_places :
    p ∈ o.places ↔ (∃ x ∈ o.active, x.place .running = p) ∨ (∃ x ∈ o.stack, x.place .suspended = p)
      ∨ ∃ w ∈ o.waiting, w.place = p := by
  simp [Ownership.places]

/-- What orders a channel's contexts and waiting slots (R73), whoever is active. -/
structure Ownership.Ordered (o : Ownership) : Prop where
  base : o.base.priority = -1
  room : o.stack.length ≤ 4
  stack : (o.stack.map Context.priority).Pairwise fun x y => y < x
  waiting : (o.waiting.map Waiter.slot).Pairwise fun m n => m < n
  top : ∀ a ∈ o.active, ∀ x ∈ o.stack, x.priority < a.priority

/-- The waiting law (R74); without an active slot context nothing is saved and nothing waits. -/
def Ownership.Quiet (o : Ownership) : Prop :=
  match o.active with
  | none => o.stack = [] ∧ o.waiting = []
  | some a => ∀ w ∈ o.waiting, (w.priority : Int) ≤ a.priority ∨ o.stack.length = 4

theorem Ownership.lawful_iff : o.Lawful ↔ o.Ordered ∧ o.Quiet := by
  unfold Ownership.Lawful Ownership.Quiet
  cases ha : o.active with
  | none =>
    refine ⟨fun ⟨hbase, hroom, hstack, hwaiting, hquiet⟩ => ⟨⟨hbase, hroom, hstack, hwaiting, ?_⟩, hquiet⟩,
      fun ⟨⟨hbase, hroom, hstack, hwaiting, _⟩, hquiet⟩ => ⟨hbase, hroom, hstack, hwaiting, hquiet⟩⟩
    rw [ha]
    rintro _ ⟨⟩
  | some a =>
    refine ⟨fun ⟨hbase, hroom, hstack, hwaiting, htop, hquiet⟩ => ⟨⟨hbase, hroom, hstack, hwaiting, ?_⟩, hquiet⟩,
      fun ⟨⟨hbase, hroom, hstack, hwaiting, htop⟩, hquiet⟩ => ⟨hbase, hroom, hstack, hwaiting, htop a ha, hquiet⟩⟩
    rw [ha]
    rintro _ ⟨⟩
    exact htop

theorem Ownership.Quiet.of_none (h : o.Quiet) (ha : o.active = none) : o.stack = [] ∧ o.waiting = [] := by
  simpa [Ownership.Quiet, ha] using h

theorem Ownership.Quiet.of_some {a : Context} (h : o.Quiet) (ha : o.active = some a) :
    ∀ w ∈ o.waiting, (w.priority : Int) ≤ a.priority ∨ o.stack.length = 4 := by
  simpa [Ownership.Quiet, ha] using h

theorem Ownership.quiet_none (ha : o.active = none) (hs : o.stack = []) (hw : o.waiting = []) : o.Quiet := by
  simp [Ownership.Quiet, ha, hs, hw]

theorem Ownership.quiet_some {a : Context} (ha : o.active = some a)
    (h : ∀ w ∈ o.waiting, (w.priority : Int) ≤ a.priority ∨ o.stack.length = 4) : o.Quiet := by
  simpa [Ownership.Quiet, ha] using h

theorem Ownership.quiet_of_no_waiting (hw : o.waiting = []) (hs : o.active = none → o.stack = []) : o.Quiet := by
  cases ha : o.active with
  | none => exact Ownership.quiet_none ha (hs ha) hw
  | some a => exact Ownership.quiet_some ha (by simp [hw])

end

/-! ### Channels of one shape -/

/-- What the law reads of a context. -/
def Context.key (x : Context) : Option SlotNo × Int := (x.owner, x.priority)

/-- Two ownerships in which the same slots stand at the same places with the same priorities. -/
structure Ownership.SameShape (o o' : Ownership) : Prop where
  base : o'.base.priority = o.base.priority
  active : o'.active.map Context.key = o.active.map Context.key
  stack : o'.stack.map Context.key = o.stack.map Context.key
  waiting : o'.waiting = o.waiting

namespace Ownership.SameShape

variable {o o' : Ownership}

theorem refl (o : Ownership) : o.SameShape o := ⟨rfl, rfl, rfl, rfl⟩

theorem places (h : o.SameShape o') : o'.places = o.places := by
  have hplace (st : SlotState) : Context.place st = (fun k : Option SlotNo × Int => Place.mk k.1 k.2 st) ∘ Context.key := rfl
  have hactive : o'.active.toList.map Context.key = o.active.toList.map Context.key := by
    rw [← Option.toList_map, ← Option.toList_map, h.active]
  unfold Ownership.places
  rw [hplace, hplace, ← List.map_map, ← List.map_map, ← List.map_map, ← List.map_map, hactive, h.stack, h.waiting]

theorem stack_priorities (h : o.SameShape o') : o'.stack.map Context.priority = o.stack.map Context.priority := by
  have := congrArg (List.map Prod.snd) h.stack
  rwa [List.map_map, List.map_map] at this

theorem active_priorities (h : o.SameShape o') : o'.active.map Context.priority = o.active.map Context.priority := by
  have := congrArg (Option.map Prod.snd) h.active
  rwa [Option.map_map, Option.map_map] at this

theorem stack_length (h : o.SameShape o') : o'.stack.length = o.stack.length := by
  have := congrArg List.length h.stack
  rwa [List.length_map, List.length_map] at this

theorem ordered (h : o.SameShape o') (ho : o.Ordered) : o'.Ordered := by
  obtain ⟨hbase, hroom, hstack, hwaiting, htop⟩ := ho
  have htop' : ∀ p ∈ o.active.map Context.priority, ∀ q ∈ o.stack.map Context.priority, q < p := by
    simpa using htop
  refine ⟨h.base.trans hbase, h.stack_length ▸ hroom, h.stack_priorities ▸ hstack, h.waiting ▸ hwaiting, fun a ha x hx => ?_⟩
  rw [← h.active_priorities, ← h.stack_priorities] at htop'
  exact htop' _ (Option.mem_map_of_mem _ ha) _ (List.mem_map_of_mem hx)

theorem quiet (h : o.SameShape o') (ho : o.Quiet) : o'.Quiet := by
  have hactive := h.active_priorities
  cases ha : o.active with
  | none =>
    obtain ⟨hs, hw⟩ := ho.of_none ha
    have hs' := h.stack_length
    rw [hs, List.length_nil, List.length_eq_zero_iff] at hs'
    refine Ownership.quiet_none ?_ hs' (h.waiting.trans hw)
    simpa [ha] using hactive
  | some a =>
    obtain ⟨a', ha', heq⟩ : ∃ a', o'.active = some a' ∧ a'.priority = a.priority := by simpa [ha] using hactive
    refine Ownership.quiet_some ha' ?_
    rw [heq, h.waiting, h.stack_length]
    exact ho.of_some ha

end Ownership.SameShape

/-! ### Slots and places agree -/

/-- Some slot holds the place `p` of channel c. -/
def State.holds (s : State) (c : Chan) (p : Place) : Prop :=
  ∃ n, p.owner = some n ∧ s.holdsPlace n c p.priority p.state

theorem State.placesHeld_iff {s : State} {c : Chan} : s.placesHeld c ↔ ∀ p ∈ s.own[c].places, s.holds c p := by
  simp only [State.placesHeld, Ownership.mem_places]
  constructor
  · rintro ⟨hactive, hstack, hwaiting⟩ p (⟨x, hx, rfl⟩ | ⟨x, hx, rfl⟩ | ⟨w, hw, rfl⟩)
    · exact hactive x hx
    · exact hstack x hx
    · exact ⟨w.slot, rfl, hwaiting w hw⟩
  · intro h
    refine ⟨fun x hx => h _ (.inl ⟨x, hx, rfl⟩), fun x hx => h _ (.inr (.inl ⟨x, hx, rfl⟩)), fun w hw => ?_⟩
    obtain ⟨n, hn, hplace⟩ := h _ (.inr (.inr ⟨w, hw, rfl⟩))
    cases hn
    exact hplace

theorem State.hasPlace_iff {s : State} {n : SlotNo} :
    s.hasPlace n ↔ ((s.slot n).state.placed = true →
      ∃ p ∈ s.own[(s.slot n).latch.target].places, p.owner = some n ∧ p.state = (s.slot n).state) := by
  simp only [State.hasPlace, Ownership.mem_places]
  cases hst : (s.slot n).state <;> simp only [SlotState.placed, reduceCtorEq, IsEmpty.forall_iff, forall_const]
  case running =>
    constructor
    · rintro ⟨x, hx, ho⟩
      exact ⟨_, .inl ⟨x, hx, rfl⟩, ho, rfl⟩
    · rintro ⟨_, ⟨x, hx, rfl⟩ | ⟨x, _, rfl⟩ | ⟨w, _, rfl⟩, ho, hrun⟩
      · exact ⟨x, hx, ho⟩
      · cases hrun
      · cases hrun
  case suspended =>
    constructor
    · rintro ⟨x, hx, ho⟩
      exact ⟨_, .inr (.inl ⟨x, hx, rfl⟩), ho, rfl⟩
    · rintro ⟨_, ⟨x, _, rfl⟩ | ⟨x, hx, rfl⟩ | ⟨w, _, rfl⟩, ho, hsus⟩
      · cases hsus
      · exact ⟨x, hx, ho⟩
      · cases hsus
  case waiting =>
    constructor
    · rintro ⟨w, hw, rfl⟩
      exact ⟨_, .inr (.inr ⟨w, hw, rfl⟩), rfl, rfl⟩
    · rintro ⟨_, ⟨x, _, rfl⟩ | ⟨x, _, rfl⟩ | ⟨w, hw, rfl⟩, ho, hwait⟩
      · cases hwait
      · cases hwait
      · exact ⟨w, hw, Option.some.inj ho⟩

/-- No channel holds a place for slot n. -/
def State.placeless (s : State) (n : SlotNo) : Prop := ∀ c : Chan, ∀ p ∈ s.own[c].places, p.owner ≠ some n

/-- Places and slots agree, but for the slots of `away`, which have no place whatever their state says. -/
structure State.Placed (s : State) (away : Set SlotNo) : Prop where
  held : ∀ c : Chan, ∀ p ∈ s.own[c].places, s.holds c p
  has : ∀ n ∉ away, (s.slot n).state.placed = true →
    ∃ c : Chan, ∃ p ∈ s.own[c].places, p.owner = some n ∧ p.state = (s.slot n).state
  away : ∀ n ∈ away, s.placeless n

/-- The law of the Ownership Unit, but that channel `c` may be in want of an owner and the slots of `away` have no place. -/
structure State.LawfulBut (s : State) (c : Option Chan) (away : Set SlotNo) : Prop where
  placed : s.Placed away
  ordered : ∀ d : Chan, s.own[d].Ordered
  quiet : ∀ d : Chan, some d ≠ c → s.own[d].Quiet

theorem State.ownershipLawful_iff {s : State} : s.OwnershipLawful ↔ s.LawfulBut none ∅ := by
  constructor
  · rintro ⟨hchan, hslot⟩
    exact ⟨⟨fun c => State.placesHeld_iff.1 (hchan c).2, fun n _ hst => ⟨_, State.hasPlace_iff.1 (hslot n) hst⟩,
      fun n h => h.elim⟩, fun c => (Ownership.lawful_iff.1 (hchan c).1).1, fun c _ => (Ownership.lawful_iff.1 (hchan c).1).2⟩
  · rintro ⟨⟨hheld, hhas, -⟩, hordered, hquiet⟩
    refine ⟨fun c => ⟨Ownership.lawful_iff.2 ⟨hordered c, hquiet c (by simp)⟩, State.placesHeld_iff.2 (hheld c)⟩,
      fun n => State.hasPlace_iff.2 fun hst => ?_⟩
    obtain ⟨c, p, hp, hpn, hpst⟩ := hhas n (Set.notMem_empty n) hst
    obtain ⟨m, hm, -, rfl, -⟩ := hheld c p hp
    obtain rfl := Option.some.inj (hpn.symm.trans hm)
    exact ⟨p, hp, hpn, hpst⟩

/-! ### One channel or one slot changed -/

section
variable {s t : State}

theorem State.own_setOwn_fin (s : State) (c d : Chan) (x : Ownership) :
    (s.setOwn c x).own[d] = if c = d then x else s.own[d] := s.own_setOwn c d x

/-- A channel's new ownership has the property, and the others' keep it. -/
theorem State.forall_own_setOwn {P : Chan → Ownership → Prop} {c : Chan} {o : Ownership} (ho : P c o)
    (h : ∀ d : Chan, d ≠ c → P d s.own[d]) (d : Chan) : P d (s.setOwn c o).own[d] := by
  rw [State.own_setOwn_fin]
  split_ifs with hcd
  · exact hcd ▸ ho
  · exact h d (Ne.symm hcd)

/-- The law reads of a slot its state and its latched block, and of a channel its shape. -/
theorem State.LawfulBut.congr {c : Option Chan} {A : Set SlotNo} (h : s.LawfulBut c A)
    (ho : ∀ d : Chan, s.own[d].SameShape t.own[d])
    (hs : ∀ n, (t.slot n).state = (s.slot n).state ∧ (t.slot n).latch = (s.slot n).latch) : t.LawfulBut c A := by
  obtain ⟨⟨hheld, hhas, haway⟩, hordered, hquiet⟩ := h
  refine ⟨⟨fun d p hp => ?_, fun n hn hst => ?_, fun n hn d p hp => ?_⟩, fun d => (ho d).ordered (hordered d),
    fun d hd => (ho d).quiet (hquiet d hd)⟩
  · rw [(ho d).places] at hp
    obtain ⟨n, hn, hplace⟩ := hheld d p hp
    refine ⟨n, hn, ?_⟩
    unfold State.holdsPlace at *
    rwa [(hs n).1, (hs n).2]
  · rw [(hs n).1] at hst
    obtain ⟨d, p, hp, hpn⟩ := hhas n hn hst
    rw [← (ho d).places] at hp
    exact ⟨d, p, hp, (hs n).1 ▸ hpn⟩
  · rw [(ho d).places] at hp
    exact haway n hn d p hp

theorem State.LawfulBut.congr_eq {c : Option Chan} {A : Set SlotNo} (h : s.LawfulBut c A) (ho : t.own = s.own)
    (hs : ∀ n, t.slot n = s.slot n) : t.LawfulBut c A :=
  h.congr (fun d => by rw [ho]; exact .refl _) fun n => by rw [hs n]; exact ⟨rfl, rfl⟩

/-- A slot that holds a place is not away. -/
theorem State.Placed.not_away {A : Set SlotNo} (h : s.Placed A) {c : Chan} {p : Place} {n : SlotNo} (hp : p ∈ s.own[c].places)
    (hn : p.owner = some n) : n ∉ A := fun hA => h.away n hA c p hp hn

/-- Whose place it is: the slot's state, channel and priority are the place's. -/
theorem State.Placed.holder {A : Set SlotNo} (h : s.Placed A) {c : Chan} {p : Place} {n : SlotNo} (hp : p ∈ s.own[c].places)
    (hn : p.owner = some n) :
    (s.slot n).state = p.state ∧ (s.slot n).latch.target = c ∧ p.priority = ((s.slot n).latch.priority : Int) := by
  obtain ⟨m, hm, hplace⟩ := h.held c p hp
  obtain rfl := Option.some.inj (hn.symm.trans hm)
  exact hplace

/-- A slot in a state without a place has none. -/
theorem State.Placed.placeless {A : Set SlotNo} (h : s.Placed A) {n : SlotNo} (hn : (s.slot n).state.placed = false) :
    s.placeless n := fun c p hp hpn => by
  have hst := (h.holder hp hpn).1
  rw [hst] at hn
  rcases Ownership.mem_places.1 hp with ⟨x, -, rfl⟩ | ⟨x, -, rfl⟩ | ⟨w, -, rfl⟩ <;> cases hn

theorem State.Placed.insert {A : Set SlotNo} (h : s.Placed A) {n : SlotNo} (hn : s.placeless n) : s.Placed (insert n A) := by
  refine ⟨h.held, fun m hm => h.has m fun hA => hm (Set.mem_insert_of_mem n hA), fun m hm => ?_⟩
  rcases Set.mem_insert_iff.1 hm with rfl | hA
  · exact hn
  · exact h.away m hA

/-- Slot n leaves its places on its channel. -/
theorem State.Placed.leave {A : Set SlotNo} (h : s.Placed A) {c : Chan} {n : SlotNo} {o : Ownership}
    (hn : (s.slot n).latch.target = c) (ho : ∀ p, p ∈ o.places ↔ p ∈ s.own[c].places ∧ p.owner ≠ some n) :
    (s.setOwn c o).Placed (Insert.insert n A) := by
  refine ⟨?_, fun m hm hst => ?_, fun m hm => ?_⟩
  · exact State.forall_own_setOwn (P := fun d o => ∀ p ∈ o.places, (s.setOwn c _).holds d p)
      (fun p hp => h.held c p ((ho p).1 hp).1) fun d _ => h.held d
  · obtain ⟨hmn, hmA⟩ := not_or.1 (Set.mem_insert_iff.not.1 hm)
    obtain ⟨d, p, hp, hpm, hpst⟩ := h.has m hmA hst
    refine ⟨d, p, ?_, hpm, hpst⟩
    rw [State.own_setOwn_fin]
    split_ifs with hc
    · subst hc
      exact (ho p).2 ⟨hp, by rw [hpm]; simpa using hmn⟩
    · exact hp
  · refine State.forall_own_setOwn (P := fun _ o => ∀ p ∈ o.places, p.owner ≠ some m) (fun p hp hpm => ?_) fun d hd p hp hpm => ?_
    · rcases Set.mem_insert_iff.1 hm with rfl | hA
      · exact ((ho p).1 hp).2 hpm
      · exact h.away m hA c p ((ho p).1 hp).1 hpm
    · rcases Set.mem_insert_iff.1 hm with rfl | hA
      · exact hd ((h.holder hp hpm).2.1.symm.trans hn)
      · exact h.away m hA d p hp hpm

/-- Slot n, away, takes a place on channel c. -/
theorem State.Placed.arrive {A : Set SlotNo} {n : SlotNo} (h : s.Placed (Insert.insert n A)) (hA : n ∉ A) {c : Chan} {o : Ownership}
    {x : Slot} (hx : x.latch.target = c)
    (ho : ∀ p, p ∈ o.places ↔ p ∈ s.own[c].places ∨ p = { owner := some n, priority := x.latch.priority, state := x.state }) :
    ((s.setOwn c o).setSlot n x).Placed A := by
  have hnew : ((s.setOwn c o).setSlot n x).holds c { owner := some n, priority := x.latch.priority, state := x.state } :=
    ⟨n, rfl, by simp [State.holdsPlace, hx]⟩
  have hold {d : Chan} {p : Place} (hp : p ∈ s.own[d].places) : ((s.setOwn c o).setSlot n x).holds d p := by
    obtain ⟨m, hm, hplace⟩ := h.held d p hp
    have hmn : n ≠ m := fun heq => h.away n (Set.mem_insert n A) d p hp (heq ▸ hm)
    refine ⟨m, hm, ?_⟩
    unfold State.holdsPlace
    rw [State.slot_setSlot_ne _ _ _ _ hmn]
    exact hplace
  refine ⟨?_, fun m hm hst => ?_, fun m hm => ?_⟩
  · refine State.forall_own_setOwn (P := fun d o' => ∀ p ∈ o'.places, ((s.setOwn c o).setSlot n x).holds d p) (fun p hp => ?_)
      fun d _ p hp => hold hp
    rcases (ho p).1 hp with hp | rfl
    · exact hold hp
    · exact hnew
  · by_cases hmn : n = m
    · subst hmn
      rw [State.slot_setSlot_self]
      refine ⟨c, { owner := some n, priority := x.latch.priority, state := x.state }, ?_, rfl, rfl⟩
      change _ ∈ (s.setOwn c o).own[c].places
      rw [State.own_setOwn_fin, if_pos rfl]
      exact (ho _).2 (.inr rfl)
    · rw [State.slot_setSlot_ne _ _ _ _ hmn] at hst ⊢
      obtain ⟨d, p, hp, hpm, hpst⟩ := h.has m (by simp [hm, Ne.symm hmn]) hst
      refine ⟨d, p, ?_, hpm, hpst⟩
      change _ ∈ (s.setOwn c o).own[d].places
      rw [State.own_setOwn_fin]
      split_ifs with hc
      · subst hc
        exact (ho p).2 (.inl hp)
      · exact hp
  · have hmn : m ≠ n := fun heq => hA (heq ▸ hm)
    refine State.forall_own_setOwn (P := fun _ o => ∀ p ∈ o.places, p.owner ≠ some m) (fun p hp => ?_) fun d _ p hp => ?_
    · rcases (ho p).1 hp with hp | rfl
      · exact h.away m (Set.mem_insert_of_mem n hm) c p hp
      · simpa using Ne.symm hmn
    · exact h.away m (Set.mem_insert_of_mem n hm) d p hp

/-- Slot n, away, comes to a state without a place. -/
theorem State.Placed.settle {A : Set SlotNo} {n : SlotNo} (h : s.Placed (Insert.insert n A)) (ho : t.own = s.own)
    (hn : (t.slot n).state.placed = false) (hs : ∀ m, m ≠ n → t.slot m = s.slot m) : t.Placed A := by
  refine ⟨fun c p hp => ?_, fun m hm hst => ?_, fun m hm c p hp => ?_⟩
  · rw [ho] at hp
    obtain ⟨m, hm, hplace⟩ := h.held c p hp
    have hmn : m ≠ n := fun heq => h.away n (Set.mem_insert n A) c p hp (heq ▸ hm)
    refine ⟨m, hm, ?_⟩
    unfold State.holdsPlace
    rw [hs m hmn]
    exact hplace
  · have hmn : m ≠ n := fun heq => by rw [heq, hn] at hst; cases hst
    rw [hs m hmn] at hst ⊢
    rw [ho]
    exact h.has m (by simp [hm, hmn]) hst
  · rw [ho] at hp
    exact h.away m (Set.mem_insert_of_mem n hm) c p hp

end

end Sys2Proof.Machine
end

section
/-! The Ownership Unit keeps its law (5.1 to 5.4): waiting sets, pushes, resumptions, fetches, claims, releases and withdrawals. -/

namespace Sys2Proof.Machine

/-! ### Waiting sets -/

theorem mem_leaveWaiting {n : SlotNo} {ws : List Waiter} {w : Waiter} : w ∈ leaveWaiting n ws ↔ w ∈ ws ∧ w.slot ≠ n := by
  simp [leaveWaiting]

/-- A slot that waits leaves a shorter set. -/
theorem length_leaveWaiting_lt {ws : List Waiter} {w : Waiter} (h : w ∈ ws) : (leaveWaiting w.slot ws).length < ws.length :=
  List.length_filter_lt_length_iff_exists.2 ⟨w, h, by simp⟩

theorem length_leaveWaiting_le (n : SlotNo) (ws : List Waiter) : (leaveWaiting n ws).length ≤ ws.length :=
  List.length_filter_le _ _

theorem bestWaiter?_eq_none {ws : List Waiter} (h : bestWaiter? ws = none) : ws = [] := by
  cases ws with
  | nil => rfl
  | cons v ws =>
    unfold bestWaiter? at h
    split at h
    · cases h
    · split_ifs at h

/-- The slot chosen waits, and none that waits goes before it. -/
theorem bestWaiter?_spec {ws : List Waiter} : ∀ {w : Waiter}, bestWaiter? ws = some w →
    w ∈ ws ∧ ∀ v ∈ ws, v.priority < w.priority ∨ (v.priority = w.priority ∧ w.slot ≤ v.slot) := by
  induction ws with
  | nil => simp [bestWaiter?]
  | cons u ws ih =>
    intro w h
    unfold bestWaiter? at h
    split at h
    · rename_i hnone
      obtain rfl := bestWaiter?_eq_none hnone
      cases h
      simp
    · rename_i b hb
      obtain ⟨hmem, hbest⟩ := ih hb
      have hbefore : b.before u = true ↔ u.priority < b.priority ∨ (b.priority = u.priority ∧ b.slot < u.slot) := by
        simp [Waiter.before]
      split_ifs at h with hbu
      · cases h
        refine ⟨List.mem_cons_of_mem _ hmem, fun v hv => ?_⟩
        rcases List.mem_cons.1 hv with rfl | hv
        · rcases hbefore.1 hbu with hlt | ⟨heq, hlt⟩
          · exact .inl hlt
          · exact .inr ⟨heq.symm, hlt.le⟩
        · exact hbest v hv
      · cases h
        refine ⟨List.mem_cons_self .., fun v hv => ?_⟩
        rcases List.mem_cons.1 hv with rfl | hv
        · exact .inr ⟨rfl, le_rfl⟩
        · rw [hbefore] at hbu
          rcases hbest v hv with hlt | ⟨heq, hle⟩
          · left
            omega
          · by_cases hub : b.priority < u.priority
            · left
              omega
            · right
              have : ¬ b.slot < u.slot := fun hs => hbu (.inr ⟨by omega, hs⟩)
              exact ⟨by omega, (not_lt.1 this).trans hle⟩

theorem bestWaiter?_mem {ws : List Waiter} {w : Waiter} (h : bestWaiter? ws = some w) : w ∈ ws := (bestWaiter?_spec h).1

theorem bestWaiter?_max {ws : List Waiter} {w : Waiter} (h : bestWaiter? ws = some w) : ∀ v ∈ ws, v.priority ≤ w.priority :=
  fun v hv => by
    rcases (bestWaiter?_spec h).2 v hv with hlt | ⟨heq, -⟩
    · exact hlt.le
    · exact heq.le

theorem mem_joinWaiting {w v : Waiter} {ws : List Waiter} (h : ∀ u ∈ ws, u.slot ≠ w.slot) :
    v ∈ joinWaiting w ws ↔ v = w ∨ v ∈ ws := by
  induction ws with
  | nil => simp [joinWaiting]
  | cons u us ih =>
    have hu : ¬ w.slot = u.slot := fun heq => h u (List.mem_cons_self ..) heq.symm
    unfold joinWaiting
    split_ifs
    · simp
    · rw [List.mem_cons, ih fun x hx => h x (List.mem_cons_of_mem _ hx), List.mem_cons, or_left_comm]

theorem joinWaiting_sorted {w : Waiter} {ws : List Waiter} (hs : (ws.map Waiter.slot).Pairwise fun m n => m < n) :
    ((joinWaiting w ws).map Waiter.slot).Pairwise fun m n => m < n := by
  induction ws with
  | nil => simp [joinWaiting]
  | cons u us ih =>
    rw [List.map_cons, List.pairwise_cons] at hs
    obtain ⟨hu, hus⟩ := hs
    unfold joinWaiting
    split_ifs with hlt heq
    · rw [List.map_cons, List.map_cons, List.pairwise_cons, List.pairwise_cons]
      refine ⟨fun n hn => ?_, hu, hus⟩
      rcases List.mem_cons.1 hn with rfl | hn
      · exact hlt
      · exact hlt.trans (hu n hn)
    · rw [List.map_cons, List.pairwise_cons, heq]
      exact ⟨hu, hus⟩
    · rw [List.map_cons, List.pairwise_cons]
      refine ⟨fun n hn => ?_, ih hus⟩
      have hmem : ∀ (vs : List Waiter) (x : Waiter), x ∈ joinWaiting w vs → x = w ∨ x ∈ vs := by
        intro vs
        induction vs with
        | nil => simp [joinWaiting]
        | cons y ys ihy =>
          intro x hx
          unfold joinWaiting at hx
          split_ifs at hx
          · simpa using hx
          · rcases List.mem_cons.1 hx with rfl | hx
            · exact .inl rfl
            · exact .inr (List.mem_cons_of_mem _ hx)
          · rcases List.mem_cons.1 hx with rfl | hx
            · exact .inr (List.mem_cons_self ..)
            · exact (ihy x hx).imp_right (List.mem_cons_of_mem _)
      obtain ⟨x, hx, rfl⟩ := List.mem_map.1 hn
      rcases hmem us x hx with rfl | hx
      · exact lt_of_le_of_ne (not_lt.1 hlt) (Ne.symm heq)
      · exact hu _ (List.mem_map_of_mem hx)

/-! ### Fetches -/

section
variable {n : SlotNo} {s : State}

/-- A fetch that fails its check faults the slot. -/
theorem fetch_of_fault {x : Slot} {code : FaultCode} (hx : s.slot n = x)
    (h : fetchFault? x.latch.target (s.entry x.entryIndex) s.bank[(s.entry x.entryIndex).overlay] = some code) :
    fetch n s = (faultFetch n code s, false) := by
  subst hx
  simp only [fetch, h]

/-- A fetch that passes its check makes the slot run the entry. -/
theorem fetch_of_ok {x : Slot} (hx : s.slot n = x)
    (h : fetchFault? x.latch.target (s.entry x.entryIndex) s.bank[(s.entry x.entryIndex).overlay] = none) :
    fetch n s
      = (cueOf s.bank[(s.entry x.entryIndex).overlay]
          (installEntry n (s.entry x.entryIndex) s.bank[(s.entry x.entryIndex).overlay] s), true) := by
  subst hx
  simp only [fetch, h]

theorem fetch_cases (n : SlotNo) (s : State) :
    (∃ code, fetch n s = (faultFetch n code s, false)) ∨ ∃ e r, fetch n s = (cueOf r (installEntry n e r s), true) := by
  cases h : fetchFault? (s.slot n).latch.target (s.entry (s.slot n).entryIndex)
      s.bank[(s.entry (s.slot n).entryIndex).overlay] with
  | some code => exact .inl ⟨code, fetch_of_fault rfl h⟩
  | none => exact .inr ⟨_, _, fetch_of_ok rfl h⟩

@[simp] theorem cueOf_slot (r : OverlayRecord) (s : State) (m : SlotNo) : (cueOf r s).slot m = s.slot m := by
  unfold cueOf
  split_ifs <;> rfl

@[simp] theorem cueOf_own (r : OverlayRecord) (s : State) : (cueOf r s).own = s.own := by
  unfold cueOf
  split_ifs <;> rfl

theorem raise_slot (e : Event) (s : State) (m : SlotNo) : (raise e s).slot m = s.slot m := rfl

theorem faultFetch_own (n : SlotNo) (f : FaultCode) (s : State) : (faultFetch n f s).own = s.own := rfl

theorem faultFetch_slot_self (n : SlotNo) (f : FaultCode) (s : State) :
    (faultFetch n f s).slot n
      = { s.slot n with
          state := .faulted, ticksLeft := 0, fault := f, entryAtFault := some (s.slot n).entryIndex, endWatch := none,
          counts := false } := by
  rw [faultFetch, raise_slot, State.slot_setSlot_self]

theorem faultFetch_slot_ne {m : SlotNo} (h : m ≠ n) (f : FaultCode) (s : State) : (faultFetch n f s).slot m = s.slot m := by
  rw [faultFetch, raise_slot, State.slot_setSlot_ne _ _ _ _ (Ne.symm h)]

theorem fetch_slot_ne {m : SlotNo} (h : m ≠ n) (s : State) : (fetch n s).1.slot m = s.slot m := by
  rcases fetch_cases n s with ⟨f, hf⟩ | ⟨e, r, hf⟩ <;> rw [hf]
  · exact faultFetch_slot_ne h f s
  · rw [cueOf_slot]
    exact State.slot_setSlot_ne _ _ _ _ (Ne.symm h)

end

/-! ### The elementary moves under the law -/

section
variable {s : State} {A : Set SlotNo} {c : Option Chan} {d : Chan} {n : SlotNo}

/-- The slots of `A` are as they were. -/
def Still (A : Set SlotNo) (s t : State) : Prop := ∀ m ∈ A, t.slot m = s.slot m

theorem Still.refl (A : Set SlotNo) (s : State) : Still A s s := fun _ _ => rfl

theorem Still.trans {t u : State} (h : Still A s t) (k : Still A t u) : Still A s u := fun m hm => (k m hm).trans (h m hm)

theorem State.LawfulBut.open_ (h : s.LawfulBut none A) (d : Chan) : s.LawfulBut (some d) A :=
  ⟨h.placed, h.ordered, fun e _ => h.quiet e (by simp)⟩

/-- A channel in want of nothing is as lawful as the others. -/
theorem State.LawfulBut.close (h : s.LawfulBut (some d) A) (hd : s.own[d].Quiet) : s.LawfulBut none A := by
  refine ⟨h.placed, h.ordered, fun e _ => ?_⟩
  by_cases he : e = d
  · exact he ▸ hd
  · exact h.quiet e (by simpa using he)

/-- The law for a channel changed and a slot placed anew or gone: the channel's own order, and its quiet if it is asked for. -/
theorem State.LawfulBut.change {t : State} {B : Set SlotNo} {o : Ownership} (h : s.LawfulBut (some d) A) (hp : t.Placed B)
    (ht : t.own = (s.setOwn d o).own) (ho : o.Ordered) : t.LawfulBut (some d) B := by
  refine ⟨hp, fun e => ?_, fun e he => ?_⟩
  · rw [ht]
    exact State.forall_own_setOwn (P := fun _ o => o.Ordered) ho (fun e _ => h.ordered e) e
  · have hde : ¬ d = e := fun heq => he (by rw [heq])
    rw [ht, State.own_setOwn_fin, if_neg hde]
    exact h.quiet e he

/-- An active slot context, by its owner's state, is no saved one's place, nor a waiting slot's. -/
theorem places_dropActive {o : Ownership} (hheld : ∀ p ∈ o.places, s.holds d p) {a : Context} (ha : o.active = some a)
    (hn : a.owner = some n) (p : Place) :
    p ∈ ({ o with active := none } : Ownership).places ↔ p ∈ o.places ∧ p.owner ≠ some n := by
  have hrun : (s.slot n).state = .running := by
    obtain ⟨m, hm, hst, -⟩ := hheld (a.place .running) (Ownership.mem_places.2 (.inl ⟨a, ha, rfl⟩))
    obtain rfl := Option.some.inj (hn.symm.trans hm)
    exact hst
  have hother {q : Place} (hq : q ∈ o.places) (hst : q.state ≠ .running) : q.owner ≠ some n := fun hqn => by
    obtain ⟨m, hm, hst', -⟩ := hheld q hq
    obtain rfl := Option.some.inj (hqn.symm.trans hm)
    exact hst (hst'.symm.trans hrun)
  simp only [Ownership.mem_places, ha]
  constructor
  · rintro (⟨x, ⟨⟩, -⟩ | ⟨x, hx, rfl⟩ | ⟨w, hw, rfl⟩)
    · exact ⟨.inr (.inl ⟨x, hx, rfl⟩), hother (Ownership.mem_places.2 (.inr (.inl ⟨x, hx, rfl⟩))) nofun⟩
    · exact ⟨.inr (.inr ⟨w, hw, rfl⟩), hother (Ownership.mem_places.2 (.inr (.inr ⟨w, hw, rfl⟩))) nofun⟩
  · rintro ⟨⟨x, hx, rfl⟩ | hrest, hne⟩
    · cases hx
      exact absurd hn hne
    · exact .inr hrest

/-- A saved context's owner is suspended, so it has no other kind of place. -/
theorem places_filterStack {o : Ownership} (hheld : ∀ p ∈ o.places, s.holds d p) (hn : (s.slot n).state = .suspended)
    (p : Place) :
    p ∈ ({ o with stack := o.stack.filter fun x => x.owner != some n } : Ownership).places
      ↔ p ∈ o.places ∧ p.owner ≠ some n := by
  have hother {q : Place} (hq : q ∈ o.places) (hst : q.state ≠ .suspended) : q.owner ≠ some n := fun hqn => by
    obtain ⟨m, hm, hst', -⟩ := hheld q hq
    obtain rfl := Option.some.inj (hqn.symm.trans hm)
    exact hst (hst'.symm.trans hn)
  simp only [Ownership.mem_places, List.mem_filter, bne_iff_ne]
  constructor
  · rintro (⟨x, hx, rfl⟩ | ⟨x, ⟨hx, hne⟩, rfl⟩ | ⟨w, hw, rfl⟩)
    · exact ⟨.inl ⟨x, hx, rfl⟩, hother (Ownership.mem_places.2 (.inl ⟨x, hx, rfl⟩)) nofun⟩
    · exact ⟨.inr (.inl ⟨x, hx, rfl⟩), hne⟩
    · exact ⟨.inr (.inr ⟨w, hw, rfl⟩), hother (Ownership.mem_places.2 (.inr (.inr ⟨w, hw, rfl⟩))) nofun⟩
  · rintro ⟨⟨x, hx, rfl⟩ | ⟨x, hx, rfl⟩ | hrest, hne⟩
    · exact .inl ⟨x, hx, rfl⟩
    · exact .inr (.inl ⟨x, ⟨hx, hne⟩, rfl⟩)
    · exact .inr (.inr hrest)

theorem places_leaveWaiting {o : Ownership} (hheld : ∀ p ∈ o.places, s.holds d p) (hn : (s.slot n).state = .waiting)
    (p : Place) :
    p ∈ ({ o with waiting := leaveWaiting n o.waiting } : Ownership).places ↔ p ∈ o.places ∧ p.owner ≠ some n := by
  have hother {q : Place} (hq : q ∈ o.places) (hst : q.state ≠ .waiting) : q.owner ≠ some n := fun hqn => by
    obtain ⟨m, hm, hst', -⟩ := hheld q hq
    obtain rfl := Option.some.inj (hqn.symm.trans hm)
    exact hst (hst'.symm.trans hn)
  simp only [Ownership.mem_places, mem_leaveWaiting]
  constructor
  · rintro (⟨x, hx, rfl⟩ | ⟨x, hx, rfl⟩ | ⟨w, ⟨hw, hne⟩, rfl⟩)
    · exact ⟨.inl ⟨x, hx, rfl⟩, hother (Ownership.mem_places.2 (.inl ⟨x, hx, rfl⟩)) nofun⟩
    · exact ⟨.inr (.inl ⟨x, hx, rfl⟩), hother (Ownership.mem_places.2 (.inr (.inl ⟨x, hx, rfl⟩))) nofun⟩
    · exact ⟨.inr (.inr ⟨w, hw, rfl⟩), by simpa [Waiter.place] using hne⟩
  · rintro ⟨hactive | hstack | ⟨w, hw, rfl⟩, hne⟩
    · exact .inl hactive
    · exact .inr (.inl hstack)
    · exact .inr (.inr ⟨w, ⟨hw, by simpa [Waiter.place] using hne⟩, rfl⟩)

theorem Ownership.Ordered.leaveWaiting {o : Ownership} (h : o.Ordered) (n : SlotNo) :
    ({ o with waiting := leaveWaiting n o.waiting } : Ownership).Ordered :=
  ⟨h.base, h.room, h.stack, h.waiting.sublist (List.filter_sublist.map _), h.top⟩

theorem Ownership.Ordered.dropActive {o : Ownership} (h : o.Ordered) : ({ o with active := none } : Ownership).Ordered :=
  ⟨h.base, h.room, h.stack, h.waiting, by rintro _ ⟨⟩⟩

/-- A waiting slot leaves the set; the channel is no less in order. -/
theorem removeWaiter_lawful (h : s.LawfulBut (some d) A) (hst : (s.slot n).state = .waiting)
    (ht : (s.slot n).latch.target = d) : (removeWaiter n d s).LawfulBut (some d) (insert n A) :=
  h.change (h.placed.leave ht fun p => places_leaveWaiting (h.placed.held d) hst p) rfl ((h.ordered d).leaveWaiting n)

/-- The owner of the channel leaves it. -/
theorem dropActive_lawful (h : s.LawfulBut none A) {a : Context} (ha : s.own[d].active = some a) (hn : a.owner = some n) :
    (dropActive d s).LawfulBut (some d) (insert n A) := by
  have hplace : a.place .running ∈ s.own[d].places := Ownership.mem_places.2 (.inl ⟨a, ha, rfl⟩)
  have ht := (h.placed.holder hplace hn).2.1
  exact (h.open_ d).change (h.placed.leave ht fun p => places_dropActive (h.placed.held d) ha hn p) rfl
    (h.ordered d).dropActive

/-- A slot away comes to a state without a place. -/
theorem State.LawfulBut.settle {t : State} (h : s.LawfulBut c (insert n A)) (ho : t.own = s.own)
    (hn : (t.slot n).state.placed = false) (hs : ∀ m, m ≠ n → t.slot m = s.slot m) : t.LawfulBut c A :=
  ⟨h.placed.settle ho hn hs, fun e => ho ▸ h.ordered e, fun e he => ho ▸ h.quiet e he⟩

theorem faultFetch_lawful (h : s.LawfulBut c (insert n A)) (f : FaultCode) : (faultFetch n f s).LawfulBut c A :=
  h.settle rfl (by rw [faultFetch_slot_self]; rfl) fun _ hm => faultFetch_slot_ne hm f s

/-- The owner of a context that a channel saves or resumes takes its new state. -/
theorem setOwnerState_of_owner {x : Context} (hx : x.owner = some n) (st : SlotState) (s : State) :
    setOwnerState x st s = s.setSlot n { s.slot n with state := st, counts := false } := by
  simp only [setOwnerState, hx]

theorem pushActive_of_active {a : Context} (ha : s.own[d].active = some a) (hn : a.owner = some n) :
    pushActive d s
      = (s.setOwn d { s.own[d] with active := none, stack := a :: s.own[d].stack }).setSlot n
          { s.slot n with state := .suspended, counts := false } := by
  simp only [pushActive, ha]
  rw [setOwnerState_of_owner hn]
  rfl

theorem State.setOwn_setOwn (s : State) (d : Chan) (o o' : Ownership) : (s.setOwn d o).setOwn d o' = s.setOwn d o' := by
  simp [State.setOwn]

theorem State.own_setOwn_same (s : State) (d : Chan) (o : Ownership) : (s.setOwn d o).own[d] = o := s.own_setOwn_self d o

/-- The active context is pushed; its slot is SUSPENDED where it was RUNNING. -/
theorem pushActive_lawful (h : s.LawfulBut (some d) A) {a : Context} (ha : s.own[d].active = some a)
    (hroom : s.own[d].stack.length < 4) :
    (pushActive d s).LawfulBut (some d) A ∧ Still A s (pushActive d s)
      ∧ (pushActive d s).own[d] = { s.own[d] with active := none, stack := a :: s.own[d].stack } := by
  have hplace : a.place .running ∈ s.own[d].places := Ownership.mem_places.2 (.inl ⟨a, ha, rfl⟩)
  obtain ⟨n, hn, -⟩ := h.placed.held d _ hplace
  have hnA : n ∉ A := h.placed.not_away hplace hn
  obtain ⟨-, ht, hprio⟩ := h.placed.holder hplace hn
  have hleft := h.placed.leave (o := { s.own[d] with active := none }) ht fun p => places_dropActive (h.placed.held d) ha hn p
  have harrived := hleft.arrive hnA (c := d) (o := { s.own[d] with active := none, stack := a :: s.own[d].stack })
    (x := { s.slot n with state := .suspended, counts := false }) ht fun p => by
      rw [State.own_setOwn_same]
      have hp : ({ owner := some n, priority := ((s.slot n).latch.priority : Int), state := .suspended } : Place)
          = a.place .suspended := by rw [← hprio, ← hn]; rfl
      simp only [hp, Ownership.mem_places, List.mem_cons]
      constructor
      · rintro (⟨x, ⟨⟩, -⟩ | ⟨x, rfl | hx, rfl⟩ | hw)
        · exact .inr rfl
        · exact .inl (.inr (.inl ⟨x, hx, rfl⟩))
        · exact .inl (.inr (.inr hw))
      · rintro ((⟨x, ⟨⟩, -⟩ | ⟨x, hx, rfl⟩ | hw) | rfl)
        · exact .inr (.inl ⟨x, .inr hx, rfl⟩)
        · exact .inr (.inr hw)
        · exact .inr (.inl ⟨a, .inl rfl, rfl⟩)
  rw [State.setOwn_setOwn] at harrived
  rw [pushActive_of_active ha hn]
  refine ⟨h.change harrived rfl ?_, fun m hm => ?_, State.own_setOwn_same s d _⟩
  · obtain ⟨hbase, -, hstack, hwaiting, htop⟩ := h.ordered d
    refine ⟨hbase, hroom, ?_, hwaiting, by rintro _ ⟨⟩⟩
    rw [List.map_cons, List.pairwise_cons]
    refine ⟨fun p hp => ?_, hstack⟩
    obtain ⟨x, hx, rfl⟩ := List.mem_map.1 hp
    exact htop a ha x hx
  · exact State.slot_setSlot_ne _ _ _ _ fun heq => hnA (heq ▸ hm)

/-- A slot away takes over the channel with a context above every saved one. -/
theorem activate_lawful (h : s.LawfulBut (some d) (insert n A)) (hnA : n ∉ A) (ha : s.own[d].active = none) {x : Slot}
    {a : Context} (hx : x.latch.target = d) (hst : x.state = .running) (hown : a.owner = some n)
    (hprio : a.priority = x.latch.priority) (htop : ∀ y ∈ s.own[d].stack, y.priority < a.priority) :
    ((s.setOwn d { s.own[d] with active := some a }).setSlot n x).LawfulBut (some d) A := by
  have harrived := h.placed.arrive hnA (c := d) (o := { s.own[d] with active := some a }) (x := x) hx fun p => by
    have hp : ({ owner := some n, priority := (x.latch.priority : Int), state := x.state } : Place) = a.place .running := by
      rw [← hprio, ← hown, hst]; rfl
    simp only [hp, Ownership.mem_places, ha]
    constructor
    · rintro (⟨y, ⟨⟩, rfl⟩ | hrest)
      · exact .inr rfl
      · exact .inl (.inr hrest)
    · rintro ((⟨y, ⟨⟩, -⟩ | hrest) | rfl)
      · exact .inr hrest
      · exact .inl ⟨a, rfl, rfl⟩
  obtain ⟨hbase, hroom, hstack, hwaiting, -⟩ := h.ordered d
  exact h.change harrived rfl ⟨hbase, hroom, hstack, hwaiting, by rintro _ ⟨⟩; exact htop⟩

theorem installEntry_eq (n : SlotNo) (e : Entry) (r : OverlayRecord) {x : Slot} (hx : s.slot n = x) (hd : x.latch.target = d) :
    installEntry n e r s
      = (s.setOwn d { s.own[d] with
            active := some (settle s.channels.last[d] (contextOf r (some n) x.latch.priority)) }).setSlot n
          { x with state := .running, ticksLeft := e.duration, endWatch := e.endWatch, counts := false } := by
  subst hx hd
  rfl

/-- A slot away fetches its entry on a channel without an owner: it takes over, or it faults and the channel stays as it is. -/
theorem fetch_lawful (h : s.LawfulBut (some d) (insert n A)) (hnA : n ∉ A) (ha : s.own[d].active = none)
    (ht : (s.slot n).latch.target = d) (htop : ∀ y ∈ s.own[d].stack, y.priority < ((s.slot n).latch.priority : Int)) :
    (fetch n s).1.LawfulBut (some d) A ∧ Still A s (fetch n s).1 ∧ (fetch n s).1.own[d].waiting = s.own[d].waiting
      ∧ (fetch n s).1.own[d].stack = s.own[d].stack
      ∧ ((fetch n s).2 = false → (fetch n s).1.own[d].active = none)
      ∧ ((fetch n s).2 = true →
        ∃ a, (fetch n s).1.own[d].active = some a ∧ a.priority = ((s.slot n).latch.priority : Int)) := by
  have hstill : Still A s (fetch n s).1 := fun m hm => fetch_slot_ne (by rintro rfl; exact hnA hm) s
  rcases fetch_cases n s with ⟨f, hf⟩ | ⟨e, r, hf⟩
  · rw [hf] at hstill ⊢
    exact ⟨faultFetch_lawful h f, hstill, rfl, rfl, fun _ => ha, nofun⟩
  · rw [hf] at hstill ⊢
    have hinstall := installEntry_eq (s := s) n e r rfl ht
    have hlaw := activate_lawful h hnA ha
      (x := { s.slot n with state := .running, ticksLeft := e.duration, endWatch := e.endWatch, counts := false })
      (a := settle s.channels.last[d] (contextOf r (some n) (s.slot n).latch.priority)) ht rfl rfl rfl htop
    rw [← hinstall] at hlaw
    have hown : (installEntry n e r s).own[d]
        = { s.own[d] with active := some (settle s.channels.last[d] (contextOf r (some n) (s.slot n).latch.priority)) } := by
      rw [hinstall]
      exact State.own_setOwn_same s d _
    refine ⟨hlaw.congr_eq (cueOf_own r _) (cueOf_slot r _), hstill, ?_, ?_, nofun,
      fun _ => ⟨settle s.channels.last[d] (contextOf r (some n) (s.slot n).latch.priority), ?_, rfl⟩⟩ <;>
      simp only [cueOf_own, hown]

end

end Sys2Proof.Machine
end

section
/-! The Ownership Unit keeps its law: resolution, re-examination, claims, releases and withdrawals (5.2 to 5.4). -/

namespace Sys2Proof.Machine

section
variable {s : State} {A : Set SlotNo} {d : Chan} {n : SlotNo}

/-! ### Contexts changed in place -/

/-- A channel may change within its shape. -/
theorem State.LawfulBut.reshape {c : Option Chan} (h : s.LawfulBut c A) {o : Ownership} (ho : s.own[d].SameShape o) :
    (s.setOwn d o).LawfulBut c A := by
  refine h.congr (fun e => ?_) fun m => ⟨rfl, rfl⟩
  rw [State.own_setOwn_fin]
  split_ifs with hde
  · exact hde ▸ ho
  · exact .refl _

/-- A slot may change but for its state and its latched block. -/
theorem State.LawfulBut.reslot {c : Option Chan} (h : s.LawfulBut c A) {x : Slot} (hst : x.state = (s.slot n).state)
    (hl : x.latch = (s.slot n).latch) : (s.setSlot n x).LawfulBut c A := by
  refine h.congr (fun e => .refl _) fun m => ?_
  rw [State.slot_setSlot]
  split_ifs with hm
  · exact hm ▸ ⟨hst, hl⟩
  · exact ⟨rfl, rfl⟩

/-! ### Resumption -/

/-- The owner of the stack top has no other place in the stack: priorities fall strictly. -/
theorem State.LawfulBut.top_owner {c : Option Chan} (h : s.LawfulBut c A) {x : Context} {xs : List Context}
    (hs : s.own[d].stack = x :: xs) :
    ∃ n, x.owner = some n ∧ (s.slot n).state = .suspended ∧ (s.slot n).latch.target = d
      ∧ x.priority = ((s.slot n).latch.priority : Int) ∧ (s.own[d].stack.filter fun y => y.owner != some n) = xs := by
  have hplace {y : Context} (hy : y ∈ s.own[d].stack) : y.place .suspended ∈ s.own[d].places :=
    Ownership.mem_places.2 (.inr (.inl ⟨y, hy, rfl⟩))
  have hx : x ∈ s.own[d].stack := by rw [hs]; exact List.mem_cons_self ..
  obtain ⟨n, hn, -⟩ := h.placed.held d _ (hplace hx)
  obtain ⟨hst, ht, hprio⟩ := h.placed.holder (hplace hx) hn
  refine ⟨n, hn, hst, ht, hprio, ?_⟩
  have hfall := (h.ordered d).stack
  rw [hs, List.map_cons, List.pairwise_cons] at hfall
  have hxn : x.owner = some n := hn
  rw [hs, List.filter_cons, if_neg (by simp [hxn]), List.filter_eq_self]
  intro y hy
  rw [bne_iff_ne]
  intro hyn
  have hy' := (h.placed.holder (hplace (by rw [hs]; exact List.mem_cons_of_mem x hy)) hyn).2.2
  exact absurd (hy'.trans hprio.symm) (ne_of_lt (hfall.1 _ (List.mem_map_of_mem hy)))

theorem popOrBase_of_stack {x : Context} {xs : List Context} (hs : s.own[d].stack = x :: xs) (hn : x.owner = some n) :
    popOrBase d s
      = (s.setOwn d { s.own[d] with active := some x, stack := xs }).setSlot n
          { s.slot n with state := .running, counts := false } := by
  simp only [popOrBase, hs]
  rw [setOwnerState_of_owner hn]
  rfl

theorem popOrBase_of_empty (hs : s.own[d].stack = []) : popOrBase d s = activateBase d s := by
  simp only [popOrBase, hs]

/-- The stack top resumes, or the base context where nothing is saved, if no waiting slot ranks higher. -/
theorem popOrBase_lawful (h : s.LawfulBut (some d) A) (ha : s.own[d].active = none)
    (hw : ∀ w ∈ s.own[d].waiting, beatsTop w s.own[d].stack = false) :
    (popOrBase d s).LawfulBut none A ∧ Still A s (popOrBase d s) ∧ (popOrBase d s).own[d].waiting = s.own[d].waiting := by
  cases hs : s.own[d].stack with
  | nil =>
    rw [popOrBase_of_empty hs, activateBase]
    have hwaiting : s.own[d].waiting = [] := by
      refine List.eq_nil_iff_forall_not_mem.2 fun w hmem => ?_
      have := hw w hmem
      rw [hs] at this
      cases this
    have hshape : s.own[d].SameShape { s.own[d] with base := settle s.channels.last[d] s.own[d].base, active := none } :=
      ⟨rfl, by rw [ha], rfl, rfl⟩
    refine ⟨(h.reshape hshape).close ?_, fun m _ => rfl, ?_⟩ <;> rw [State.own_setOwn_same]
    exact Ownership.quiet_none rfl hs hwaiting
  | cons x xs =>
    obtain ⟨n, hn, hst, ht, hprio, hxs⟩ := h.top_owner hs
    have hnA : n ∉ A := h.placed.not_away (Ownership.mem_places.2 (.inr (.inl ⟨x, by rw [hs]; exact List.mem_cons_self .., rfl⟩))) hn
    have hleft := h.placed.leave ht fun p => places_filterStack (h.placed.held d) hst p
    rw [hxs] at hleft
    have harrived := hleft.arrive hnA (c := d) (o := { s.own[d] with active := some x, stack := xs })
      (x := { s.slot n with state := .running, counts := false }) ht fun p => by
        rw [State.own_setOwn_same]
        have hp : ({ owner := some n, priority := ((s.slot n).latch.priority : Int), state := .running } : Place)
            = x.place .running := by rw [← hprio, ← hn]; rfl
        simp only [hp, Ownership.mem_places, ha]
        constructor
        · rintro (⟨y, ⟨⟩, rfl⟩ | hrest)
          · exact .inr rfl
          · exact .inl (.inr hrest)
        · rintro ((⟨y, ⟨⟩, -⟩ | hrest) | rfl)
          · exact .inr hrest
          · exact .inl ⟨x, rfl, rfl⟩
    rw [State.setOwn_setOwn] at harrived
    rw [popOrBase_of_stack hs hn]
    obtain ⟨hbase, hroom, hstack, hwaiting, -⟩ := h.ordered d
    rw [hs, List.map_cons, List.pairwise_cons] at hstack
    rw [hs, List.length_cons] at hroom
    refine ⟨State.LawfulBut.close (h.change harrived rfl ⟨hbase, Nat.le_of_succ_le hroom, hstack.2, hwaiting, ?_⟩) ?_, fun m hm => ?_, ?_⟩
    · rintro _ ⟨⟩ y hy
      exact hstack.1 _ (List.mem_map_of_mem hy)
    · change ((s.setOwn d _).own[d]).Quiet
      rw [State.own_setOwn_same]
      refine Ownership.quiet_some rfl fun w hmem => .inl ?_
      have := hw w hmem
      rw [hs] at this
      simpa [beatsTop] using this
    · exact State.slot_setSlot_ne _ _ _ _ (by rintro rfl; exact hnA hm)
    · change (s.setOwn d _).own[d].waiting = _
      rw [State.own_setOwn_same]

/-! ### The cases of a resolution and of a re-examination -/

section
variable {fuel : Nat} {w : Waiter}

theorem resolve_of_none (hb : bestWaiter? s.own[d].waiting = none) : resolve (fuel + 1) d s = popOrBase d s := by
  unfold resolve
  rw [hb]

theorem resolve_of_low (hb : bestWaiter? s.own[d].waiting = some w) (hw : beatsTop w s.own[d].stack = false) :
    resolve (fuel + 1) d s = popOrBase d s := by
  unfold resolve
  rw [hb]
  simp only [hw, Bool.false_eq_true, if_false]

theorem resolve_of_ok (hb : bestWaiter? s.own[d].waiting = some w) (hw : beatsTop w s.own[d].stack = true)
    (hf : (fetch w.slot (removeWaiter w.slot d s)).2 = true) :
    resolve (fuel + 1) d s = (fetch w.slot (removeWaiter w.slot d s)).1 := by
  unfold resolve
  rw [hb]
  simp only [hw, if_true]
  split
  · rename_i heq
    rw [heq]
  · rename_i heq
    rw [heq] at hf
    cases hf

theorem resolve_of_failed (hb : bestWaiter? s.own[d].waiting = some w) (hw : beatsTop w s.own[d].stack = true)
    (hf : (fetch w.slot (removeWaiter w.slot d s)).2 = false) :
    resolve (fuel + 1) d s = resolve fuel d (fetch w.slot (removeWaiter w.slot d s)).1 := by
  rw [resolve, hb]
  simp only [hw, if_true]
  split
  · rename_i heq
    rw [heq] at hf
    cases hf
  · rename_i heq
    rw [heq]

theorem reexamine_of_none (hb : bestWaiter? s.own[d].waiting = none) : reexamine (fuel + 1) d s = s := by
  unfold reexamine
  rw [hb]

theorem reexamine_of_low (hb : bestWaiter? s.own[d].waiting = some w) (hw : qualifies w s.own[d] = false) :
    reexamine (fuel + 1) d s = s := by
  unfold reexamine
  rw [hb]
  simp only [hw, Bool.false_eq_true, if_false]

theorem reexamine_of_ok (hb : bestWaiter? s.own[d].waiting = some w) (hw : qualifies w s.own[d] = true)
    (hf : (fetch w.slot (removeWaiter w.slot d (pushActive d s))).2 = true) :
    reexamine (fuel + 1) d s = reexamine fuel d (fetch w.slot (removeWaiter w.slot d (pushActive d s))).1 := by
  rw [reexamine, hb]
  simp only [hw, if_true]
  split
  · rename_i heq
    rw [heq]
  · rename_i heq
    rw [heq] at hf
    cases hf

theorem reexamine_of_failed (hb : bestWaiter? s.own[d].waiting = some w) (hw : qualifies w s.own[d] = true)
    (hf : (fetch w.slot (removeWaiter w.slot d (pushActive d s))).2 = false) :
    reexamine (fuel + 1) d s
      = reexamine fuel d (resolveAll d (fetch w.slot (removeWaiter w.slot d (pushActive d s))).1) := by
  rw [reexamine, hb]
  simp only [hw, if_true]
  split
  · rename_i heq
    rw [heq] at hf
    cases hf
  · rename_i heq
    rw [heq]

theorem takeOver_of_ok (hf : (fetch n s).2 = true) : takeOver n s = (fetch n s).1 := by
  unfold takeOver
  split
  · rename_i heq
    rw [heq]
  · rename_i heq
    rw [heq] at hf
    cases hf

theorem takeOver_of_failed (hf : (fetch n s).2 = false) :
    takeOver n s = vacate (s.slot n).latch.target (fetch n s).1 := by
  unfold takeOver
  split
  · rename_i heq
    rw [heq] at hf
    cases hf
  · rename_i heq
    rw [heq]

end

/-! ### Resolution -/

/-- What a waiting slot is. -/
theorem State.LawfulBut.waiter {c : Option Chan} (h : s.LawfulBut c A) {w : Waiter} (hw : w ∈ s.own[d].waiting) :
    (s.slot w.slot).state = .waiting ∧ (s.slot w.slot).latch.target = d ∧ (s.slot w.slot).latch.priority = w.priority
      ∧ w.slot ∉ A := by
  have hplace : w.place ∈ s.own[d].places := Ownership.mem_places.2 (.inr (.inr ⟨w, hw, rfl⟩))
  obtain ⟨hst, ht, hprio⟩ := h.placed.holder hplace rfl
  exact ⟨hst, ht, Int.ofNat.inj hprio.symm, h.placed.not_away hplace rfl⟩

theorem removeWaiter_own (s : State) (n : SlotNo) (d : Chan) :
    (removeWaiter n d s).own[d] = { s.own[d] with waiting := leaveWaiting n s.own[d].waiting } := s.own_setOwn_same d _

theorem Ownership.Ordered.below_top {o : Ownership} (h : o.Ordered) {w : Waiter} (hw : beatsTop w o.stack = true) :
    ∀ y ∈ o.stack, y.priority < (w.priority : Int) := by
  intro y hy
  have hstack := h.stack
  cases hs : o.stack with
  | nil => simp [hs] at hy
  | cons x xs =>
    rw [hs] at hy hw hstack
    have hx : x.priority < (w.priority : Int) := by simpa [beatsTop] using hw
    rw [List.map_cons, List.pairwise_cons] at hstack
    rcases List.mem_cons.1 hy with rfl | hy
    · exact hx
    · exact (hstack.1 _ (List.mem_map_of_mem hy)).trans hx

/-- No waiting slot ranks above the top where the best of them does not. -/
theorem beatsTop_of_best {w : Waiter} {ws : List Waiter} {xs : List Context} (hb : bestWaiter? ws = some w)
    (hw : beatsTop w xs = false) : ∀ v ∈ ws, beatsTop v xs = false := by
  intro v hv
  have hle := bestWaiter?_max hb v hv
  cases xs with
  | nil => simp [beatsTop] at hw
  | cons x xs =>
    simp only [beatsTop, decide_eq_false_iff_not, not_lt] at hw ⊢
    omega

/-- A channel in want of an owner comes to one, or to its base context with nothing saved or waiting (R79, R81). -/
theorem resolve_lawful (fuel : Nat) : ∀ {s : State}, s.LawfulBut (some d) A → s.own[d].active = none →
    s.own[d].waiting.length < fuel →
    (resolve fuel d s).LawfulBut none A ∧ Still A s (resolve fuel d s)
      ∧ (resolve fuel d s).own[d].waiting.length ≤ s.own[d].waiting.length := by
  induction fuel with
  | zero => intro s _ _ hfuel; exact absurd hfuel (Nat.not_lt_zero _)
  | succ fuel ih =>
    intro s h ha hfuel
    have hpop (hw : ∀ w ∈ s.own[d].waiting, beatsTop w s.own[d].stack = false) :
        (popOrBase d s).LawfulBut none A ∧ Still A s (popOrBase d s)
          ∧ (popOrBase d s).own[d].waiting.length ≤ s.own[d].waiting.length := by
      obtain ⟨hlaw, hstill, hwait⟩ := popOrBase_lawful h ha hw
      exact ⟨hlaw, hstill, by rw [hwait]⟩
    cases hb : bestWaiter? s.own[d].waiting with
    | none =>
      rw [resolve_of_none hb]
      exact hpop fun w hw => by rw [bestWaiter?_eq_none hb] at hw; cases hw
    | some w =>
      cases hbeats : beatsTop w s.own[d].stack with
      | false =>
        rw [resolve_of_low hb hbeats]
        exact hpop (beatsTop_of_best hb hbeats)
      | true =>
        have hmem := bestWaiter?_mem hb
        obtain ⟨hst, ht, hprio, hwA⟩ := h.waiter hmem
        have hremoved := removeWaiter_own s w.slot d
        have htop : ∀ y ∈ s.own[d].stack, y.priority < ((s.slot w.slot).latch.priority : Int) := by
          rw [hprio]
          exact (h.ordered d).below_top hbeats
        obtain ⟨hlaw, hstill, hwait, hstack, hfail, hok⟩ := fetch_lawful (removeWaiter_lawful h hst ht) hwA
          (by rw [hremoved]; exact ha) ht (by rw [hremoved]; exact htop)
        have hshort : (fetch w.slot (removeWaiter w.slot d s)).1.own[d].waiting.length < s.own[d].waiting.length := by
          rw [hwait, hremoved]
          exact length_leaveWaiting_lt hmem
        cases hf : (fetch w.slot (removeWaiter w.slot d s)).2 with
        | true =>
          rw [resolve_of_ok hb hbeats hf]
          obtain ⟨a, hactive, hap⟩ := hok hf
          refine ⟨hlaw.close (Ownership.quiet_some hactive fun v hv => .inl ?_), hstill, hshort.le⟩
          rw [hwait, hremoved] at hv
          rw [hap]
          change (v.priority : Int) ≤ ((s.slot w.slot).latch.priority : Int)
          rw [hprio]
          exact_mod_cast bestWaiter?_max hb v (mem_leaveWaiting.1 hv).1
        | false =>
          rw [resolve_of_failed hb hbeats hf]
          obtain ⟨hlaw', hstill', hle⟩ := ih hlaw (hfail hf) (by omega)
          exact ⟨hlaw', Still.trans hstill hstill', hle.trans hshort.le⟩

theorem resolveAll_lawful (h : s.LawfulBut (some d) A) (ha : s.own[d].active = none) :
    (resolveAll d s).LawfulBut none A ∧ Still A s (resolveAll d s)
      ∧ (resolveAll d s).own[d].waiting.length ≤ s.own[d].waiting.length :=
  resolve_lawful _ h ha (Nat.lt_succ_self _)

/-! ### Re-examination -/

/-- On a quiet channel no waiting slot pre-empts, but over a full stack. -/
theorem not_qualifies_of_quiet {o : Ownership} (h : o.Quiet) {w : Waiter} (hw : w ∈ o.waiting) : qualifies w o = false := by
  cases ha : o.active with
  | none => simp [(h.of_none ha).2] at hw
  | some a =>
    have hor := h.of_some ha w hw
    simp only [qualifies, Ownership.current, ha, Option.getD_some, Config.stackRoom, Bool.and_eq_false_iff,
      decide_eq_false_iff_not]
    omega

theorem reexamine_of_quiet (fuel : Nat) (h : s.own[d].Quiet) : reexamine fuel d s = s := by
  cases fuel with
  | zero => rfl
  | succ fuel =>
    cases hb : bestWaiter? s.own[d].waiting with
    | none => exact reexamine_of_none hb
    | some w => exact reexamine_of_low hb (not_qualifies_of_quiet h (bestWaiter?_mem hb))

/-- Where no waiting slot pre-empts, the channel is quiet. -/
theorem quiet_of_not_qualifies {o : Ownership} (ho : o.Ordered) (ha : o.active = none → o.stack = [] ∧ o.waiting = [])
    (hw : ∀ w ∈ o.waiting, qualifies w o = false) : o.Quiet := by
  cases hact : o.active with
  | none => exact Ownership.quiet_none hact (ha hact).1 (ha hact).2
  | some a =>
    refine Ownership.quiet_some hact fun w hmem => ?_
    have := hw w hmem
    simp only [qualifies, Ownership.current, hact, Option.getD_some, Config.stackRoom, Bool.and_eq_false_iff,
      decide_eq_false_iff_not] at this
    have := ho.room
    omega

theorem qualifies_of_best {o : Ownership} {w : Waiter} (hb : bestWaiter? o.waiting = some w) (hw : qualifies w o = false) :
    ∀ v ∈ o.waiting, qualifies v o = false := by
  intro v hv
  have := bestWaiter?_max hb v hv
  simp only [qualifies, Bool.and_eq_false_iff, decide_eq_false_iff_not] at hw ⊢
  omega

/-- The waiting set of a channel in order is re-examined until it is quiet (R84). -/
theorem reexamine_lawful (fuel : Nat) : ∀ {s : State}, s.LawfulBut (some d) A →
    (s.own[d].active = none → s.own[d].stack = [] ∧ s.own[d].waiting = []) → s.own[d].waiting.length ≤ fuel →
    (reexamine fuel d s).LawfulBut none A ∧ Still A s (reexamine fuel d s) := by
  induction fuel with
  | zero =>
    intro s h ha hfuel
    have hw : s.own[d].waiting = [] := List.length_eq_zero_iff.1 (Nat.le_zero.1 hfuel)
    exact ⟨h.close (Ownership.quiet_of_no_waiting hw fun hact => (ha hact).1), Still.refl _ _⟩
  | succ fuel ih =>
    intro s h ha hfuel
    have hstay (hw : ∀ w ∈ s.own[d].waiting, qualifies w s.own[d] = false) : s.LawfulBut none A ∧ Still A s s :=
      ⟨h.close (quiet_of_not_qualifies (h.ordered d) ha hw), Still.refl _ _⟩
    cases hb : bestWaiter? s.own[d].waiting with
    | none =>
      rw [reexamine_of_none hb]
      exact hstay fun w hw => by rw [bestWaiter?_eq_none hb] at hw; cases hw
    | some w =>
      cases hq : qualifies w s.own[d] with
      | false =>
        rw [reexamine_of_low hb hq]
        exact hstay (qualifies_of_best hb hq)
      | true =>
        have hmem := bestWaiter?_mem hb
        obtain ⟨a, hact⟩ : ∃ a, s.own[d].active = some a := by
          refine Option.ne_none_iff_exists'.1 fun hnone => ?_
          rw [(ha hnone).2] at hmem
          cases hmem
        obtain ⟨habove, hroom⟩ : a.priority < (w.priority : Int) ∧ s.own[d].stack.length < 4 := by
          simpa only [qualifies, Ownership.current, hact, Option.getD_some, Config.stackRoom, Bool.and_eq_true,
            decide_eq_true_eq] using hq
        obtain ⟨hpushed, hstillp, hownp⟩ := pushActive_lawful h hact hroom
        obtain ⟨hstp, htp, hpriop, hwA⟩ := hpushed.waiter (w := w) (d := d) (by rw [hownp]; exact hmem)
        have hremoved := removeWaiter_own (pushActive d s) w.slot d
        rw [hownp] at hremoved
        have htop : ∀ y ∈ a :: s.own[d].stack, y.priority < (((pushActive d s).slot w.slot).latch.priority : Int) := by
          rw [hpriop]
          intro y hy
          rcases List.mem_cons.1 hy with rfl | hy
          · exact habove
          · exact ((h.ordered d).top a hact y hy).trans habove
        obtain ⟨hlaw, hstill, hwait, -, hfail, hok⟩ := fetch_lawful (removeWaiter_lawful hpushed hstp htp) hwA
          (by rw [hremoved]) htp (by rw [hremoved]; exact htop)
        have hshort : (fetch w.slot (removeWaiter w.slot d (pushActive d s))).1.own[d].waiting.length
            < s.own[d].waiting.length := by
          rw [hwait, hremoved]
          exact length_leaveWaiting_lt hmem
        have hstill' := Still.trans hstillp hstill
        cases hf : (fetch w.slot (removeWaiter w.slot d (pushActive d s))).2 with
        | true =>
          rw [reexamine_of_ok hb hq hf]
          obtain ⟨b, hactive, -⟩ := hok hf
          obtain ⟨hlaw', hstill''⟩ := ih hlaw (by rw [hactive]; nofun) (by omega)
          exact ⟨hlaw', Still.trans hstill' hstill''⟩
        | false =>
          rw [reexamine_of_failed hb hq hf]
          obtain ⟨hres, hstillr, hle⟩ := resolveAll_lawful hlaw (hfail hf)
          obtain ⟨hlaw', hstill''⟩ := ih (hres.open_ d) (fun hn => (hres.quiet d (by simp)).of_none hn) (by omega)
          exact ⟨hlaw', Still.trans (Still.trans hstill' hstillr) hstill''⟩

/-- A channel its owner has left comes to lawful hands (R79). -/
theorem vacate_lawful (h : s.LawfulBut (some d) A) (ha : s.own[d].active = none) :
    (vacate d s).LawfulBut none A ∧ Still A s (vacate d s) := by
  obtain ⟨hlaw, hstill, -⟩ := resolveAll_lawful h ha
  rw [vacate, reexamineAll, reexamine_of_quiet _ (hlaw.quiet d (by simp))]
  exact ⟨hlaw, hstill⟩

/-! ### Claims -/

/-- A slot away takes over its channel, whose contexts all rank lower (R77, R81). -/
theorem takeOver_lawful (h : s.LawfulBut (some d) (insert n A)) (hnA : n ∉ A) (ha : s.own[d].active = none)
    (ht : (s.slot n).latch.target = d) (htop : ∀ y ∈ s.own[d].stack, y.priority < ((s.slot n).latch.priority : Int))
    (hw : ∀ w ∈ s.own[d].waiting, w.priority ≤ (s.slot n).latch.priority ∨ s.own[d].stack.length = 4) :
    (takeOver n s).LawfulBut none A ∧ Still A s (takeOver n s) := by
  obtain ⟨hlaw, hstill, hwait, hstack, hfail, hok⟩ := fetch_lawful h hnA ha ht htop
  cases hf : (fetch n s).2 with
  | true =>
    obtain ⟨a, hactive, hap⟩ := hok hf
    rw [takeOver_of_ok hf]
    refine ⟨hlaw.close (Ownership.quiet_some hactive ?_), hstill⟩
    rw [hwait, hstack, hap]
    exact_mod_cast hw
  | false =>
    rw [takeOver_of_failed hf, ht]
    obtain ⟨hlaw', hstill'⟩ := vacate_lawful hlaw (hfail hf)
    exact ⟨hlaw', Still.trans hstill hstill'⟩

theorem waitFor_lawful (h : s.LawfulBut none (insert n A)) (hnA : n ∉ A) (ht : (s.slot n).latch.target = d) {a : Context}
    (ha : s.own[d].active = some a) (hlow : ((s.slot n).latch.priority : Int) ≤ a.priority ∨ s.own[d].stack.length = 4) :
    (waitFor n s).LawfulBut none A ∧ Still A s (waitFor n s) := by
  subst ht
  have hnew : ∀ w ∈ s.own[(s.slot n).latch.target].waiting, w.slot ≠ n := fun w hw hwn =>
    h.placed.away n (Set.mem_insert n A) _ _ (Ownership.mem_places.2 (.inr (.inr ⟨w, hw, rfl⟩))) (congrArg some hwn)
  have hmem := fun v => mem_joinWaiting (w := { slot := n, priority := (s.slot n).latch.priority }) (v := v) hnew
  have harrived := h.placed.arrive hnA (c := (s.slot n).latch.target)
    (o := { s.own[(s.slot n).latch.target] with
      waiting := joinWaiting { slot := n, priority := (s.slot n).latch.priority } s.own[(s.slot n).latch.target].waiting })
    (x := { s.slot n with state := .waiting }) rfl fun p => by
      simp only [Ownership.mem_places, hmem]
      constructor
      · rintro (hactive | hstack | ⟨w, rfl | hw, rfl⟩)
        · exact .inl (.inl hactive)
        · exact .inl (.inr (.inl hstack))
        · exact .inr rfl
        · exact .inl (.inr (.inr ⟨w, hw, rfl⟩))
      · rintro ((hactive | hstack | ⟨w, hw, rfl⟩) | rfl)
        · exact .inl hactive
        · exact .inr (.inl hstack)
        · exact .inr (.inr ⟨w, .inr hw, rfl⟩)
        · exact .inr (.inr ⟨_, .inl rfl, rfl⟩)
  obtain ⟨hbase, hroom, hstack, hwaiting, htop⟩ := h.ordered (s.slot n).latch.target
  have hopen := (h.open_ (s.slot n).latch.target).change harrived rfl
    ⟨hbase, hroom, hstack, joinWaiting_sorted hwaiting, htop⟩
  refine ⟨hopen.close ?_, fun m hm => State.slot_setSlot_ne _ _ _ _ (by rintro rfl; exact hnA hm)⟩
  change ((s.setOwn _ _).own[(s.slot n).latch.target]).Quiet
  rw [State.own_setOwn_same]
  refine Ownership.quiet_some ha fun v hv => ?_
  rcases (hmem v).1 hv with rfl | hv
  · exact hlow
  · exact (h.quiet _ (by simp)).of_some ha v hv

/-- A slot away claims its channel (R76). -/
theorem claim_lawful (h : s.LawfulBut none (insert n A)) (hnA : n ∉ A) :
    (claim n s).LawfulBut none A ∧ Still A s (claim n s) := by
  have hquiet := h.quiet (s.slot n).latch.target (by simp)
  unfold claim
  simp only
  cases ha : s.own[(s.slot n).latch.target].active with
  | none =>
    obtain ⟨hstack, hwaiting⟩ := hquiet.of_none ha
    exact takeOver_lawful (h.open_ _) hnA ha rfl (by rw [hstack]; nofun) (by rw [hwaiting]; nofun)
  | some a =>
    simp only [Config.stackRoom]
    split_ifs with hroom
    · obtain ⟨hlaw, hstill, hown⟩ := pushActive_lawful (h.open_ _) ha hroom.2
      have hslot : (pushActive (s.slot n).latch.target s).slot n = s.slot n := hstill n (Set.mem_insert n A)
      obtain ⟨hlaw', hstill'⟩ := takeOver_lawful hlaw hnA (by rw [hown]) (by rw [hslot]) (by
        rw [hown, hslot]
        intro y hy
        rcases List.mem_cons.1 hy with rfl | hy
        · exact hroom.1
        · exact ((h.ordered _).top a ha y hy).trans hroom.1) (by
        rw [hown, hslot]
        intro w hw
        rcases hquiet.of_some ha w hw with hle | hfull
        · left
          have := hroom.1
          omega
        · exact absurd hroom.2 (by omega))
      exact ⟨hlaw', Still.trans (fun m hm => hstill m (Set.mem_insert_of_mem n hm)) hstill'⟩
    · exact waitFor_lawful h hnA rfl ha (by
        have := (h.ordered (s.slot n).latch.target).room
        omega)

end

end Sys2Proof.Machine
end

section
/-! The Scenario Unit keeps the law of the Ownership Unit: entry ends, block ends and follow-ons, the tick's event, fires, aborts and
resets (chapter 6). -/

namespace Sys2Proof.Machine

section
variable {s t : State} {A : Set SlotNo} {c : Option Chan} {d : Chan} {n : SlotNo}

/-! ### Slots without a place -/

theorem State.LawfulBut.insert (h : s.LawfulBut c A) (hn : (s.slot n).state.placed = false) : s.LawfulBut c (insert n A) :=
  ⟨h.placed.insert (h.placed.placeless hn), h.ordered, h.quiet⟩

/-- Slots in states without a place may as well be away. -/
theorem State.LawfulBut.away_all (h : s.LawfulBut c ∅) {B : Set SlotNo} (hB : ∀ m ∈ B, (s.slot m).state.placed = false) :
    s.LawfulBut c B :=
  ⟨⟨h.placed.held, fun m _ => h.placed.has m (Set.notMem_empty m), fun m hm => h.placed.placeless (hB m hm)⟩, h.ordered, h.quiet⟩

/-- The law reads nothing of a slot that is away. -/
theorem State.LawfulBut.reslot_away (h : s.LawfulBut c (Insert.insert n A)) (x : Slot) :
    (s.setSlot n x).LawfulBut c (Insert.insert n A) := by
  refine ⟨⟨fun e p hp => ?_, fun m hm hst => ?_, h.placed.away⟩, h.ordered, h.quiet⟩
  · obtain ⟨m, hm, hplace⟩ := h.placed.held e p hp
    have hmn : n ≠ m := fun heq => h.placed.away n (Set.mem_insert n A) e p hp (heq ▸ hm)
    refine ⟨m, hm, ?_⟩
    unfold State.holdsPlace
    rw [State.slot_setSlot_ne _ _ _ _ hmn]
    exact hplace
  · have hmn : n ≠ m := fun heq => hm (heq ▸ Set.mem_insert n A)
    rw [State.slot_setSlot_ne _ _ _ _ hmn] at hst ⊢
    exact h.placed.has m hm hst

theorem Still.setSlot (hn : n ∉ A) (x : Slot) (s : State) : Still A s (s.setSlot n x) :=
  fun m hm => State.slot_setSlot_ne _ _ _ _ (by rintro rfl; exact hn hm)

theorem Still.mono {B : Set SlotNo} (h : Still B s t) (hAB : A ⊆ B) : Still A s t := fun m hm => h m (hAB hm)

/-- A slot away comes to a state without a place. -/
theorem State.LawfulBut.settle_slot (h : s.LawfulBut c (Insert.insert n A)) {x : Slot} (hx : x.state.placed = false) :
    (s.setSlot n x).LawfulBut c A :=
  h.settle rfl (by rw [State.slot_setSlot_self]; exact hx) fun m hm => State.slot_setSlot_ne _ _ _ _ (Ne.symm hm)

/-- An event moves no place. -/
theorem State.LawfulBut.raise (h : s.LawfulBut c A) (e : Event) : (Machine.raise e s).LawfulBut c A := h.congr_eq rfl fun _ => rfl

/-! ### Releases and withdrawals -/

/-- Where a RUNNING slot has its context. -/
theorem State.LawfulBut.runner (h : s.LawfulBut c A) (hn : n ∉ A) (hst : (s.slot n).state = .running) :
    ∃ a, s.own[(s.slot n).latch.target].active = some a ∧ a.owner = some n
      ∧ a.priority = ((s.slot n).latch.priority : Int) := by
  obtain ⟨e, p, hp, hpn, hpst⟩ := h.placed.has n hn (by rw [hst]; rfl)
  obtain ⟨-, rfl, hprio⟩ := h.placed.holder hp hpn
  rcases Ownership.mem_places.1 hp with ⟨a, ha, rfl⟩ | ⟨y, -, rfl⟩ | ⟨w, -, rfl⟩
  · exact ⟨a, ha, hpn, hprio⟩
  · rw [hst] at hpst
    cases hpst
  · rw [hst] at hpst
    cases hpst

/-- Where a SUSPENDED slot has its context. -/
theorem State.LawfulBut.saved (h : s.LawfulBut c A) (hn : n ∉ A) (hst : (s.slot n).state = .suspended) :
    ∃ y ∈ s.own[(s.slot n).latch.target].stack, y.owner = some n := by
  obtain ⟨e, p, hp, hpn, hpst⟩ := h.placed.has n hn (by rw [hst]; rfl)
  obtain ⟨-, rfl, -⟩ := h.placed.holder hp hpn
  rcases Ownership.mem_places.1 hp with ⟨a, -, rfl⟩ | ⟨y, hy, rfl⟩ | ⟨w, -, rfl⟩
  · rw [hst] at hpst
    cases hpst
  · exact ⟨y, hy, hpn⟩
  · rw [hst] at hpst
    cases hpst

/-- Priorities of a slot's saved contexts are its own. -/
theorem State.LawfulBut.saved_priority (h : s.LawfulBut c A) {y : Context} (hy : y ∈ s.own[d].stack) (hn : y.owner = some n) :
    y.priority = ((s.slot n).latch.priority : Int) :=
  (h.placed.holder (Ownership.mem_places.2 (.inr (.inl ⟨y, hy, rfl⟩))) hn).2.2

/-- The owner of its channel releases it (R79). -/
theorem release_lawful (h : s.LawfulBut none A) (hn : n ∉ A) (hst : (s.slot n).state = .running) :
    (release (s.slot n).latch.target s).LawfulBut none (insert n A)
      ∧ Still (insert n A) s (release (s.slot n).latch.target s) := by
  obtain ⟨a, ha, hown, -⟩ := h.runner hn hst
  obtain ⟨hlaw, hstill⟩ := vacate_lawful (dropActive_lawful h ha hown)
    (by rw [dropActive, State.own_setOwn_same])
  exact ⟨hlaw, hstill⟩

/-- A slot whose next entry faults leaves its channel (R81, R102). -/
theorem release_faulted_lawful (h : s.LawfulBut none A) (hn : n ∉ A) (hst : (s.slot n).state = .running) (f : FaultCode) :
    (release (s.slot n).latch.target (faultFetch n f s)).LawfulBut none A
      ∧ Still A s (release (s.slot n).latch.target (faultFetch n f s)) := by
  obtain ⟨a, ha, hown, -⟩ := h.runner hn hst
  have hdropped := (dropActive_lawful h ha hown).settle (t := dropActive (s.slot n).latch.target (faultFetch n f s)) rfl
    (by rw [dropActive, State.slot_setOwn, faultFetch_slot_self]; rfl)
    (fun m hm => by rw [dropActive, State.slot_setOwn, faultFetch_slot_ne hm]; rfl)
  obtain ⟨hlaw, hstill⟩ := vacate_lawful hdropped (by rw [dropActive, State.own_setOwn_same])
  refine ⟨hlaw, Still.trans (fun m hm => ?_) hstill⟩
  rw [dropActive, State.slot_setOwn]
  exact faultFetch_slot_ne (by rintro rfl; exact hn hm) f s

/-- The stack without slot n, before the waiting set is re-examined. -/
theorem filterStack_lawful (h : s.LawfulBut none A) (hst : (s.slot n).state = .suspended) (ht : (s.slot n).latch.target = d) :
    (s.setOwn d { s.own[d] with stack := s.own[d].stack.filter fun x => x.owner != some n }).LawfulBut (some d) (insert n A) := by
  obtain ⟨hbase, hroom, hstack, hwaiting, htop⟩ := h.ordered d
  exact (h.open_ d).change (h.placed.leave ht fun p => places_filterStack (h.placed.held d) hst p) rfl
    ⟨hbase, (List.length_filter_le _ _).trans hroom, hstack.sublist (List.filter_sublist.map _), hwaiting,
      fun a ha x hx => htop a ha x (List.mem_filter.1 hx).1⟩

/-- A channel whose stack is cut down is as ready for its re-examination as a quiet one. -/
theorem quiet_filterStack (h : s.own[d].Quiet) (p : Context → Bool)
    (hnone : (s.setOwn d { s.own[d] with stack := s.own[d].stack.filter p }).own[d].active = none) :
    (s.setOwn d { s.own[d] with stack := s.own[d].stack.filter p }).own[d].stack = []
      ∧ (s.setOwn d { s.own[d] with stack := s.own[d].stack.filter p }).own[d].waiting = [] := by
  rw [State.own_setOwn_same] at hnone ⊢
  obtain ⟨hs, hw⟩ := h.of_none hnone
  exact ⟨by simp only [hs, List.filter_nil], hw⟩

/-- A SUSPENDED slot is withdrawn (R82). -/
theorem withdraw_lawful (h : s.LawfulBut none A) (hst : (s.slot n).state = .suspended) :
    (withdraw n (s.slot n).latch.target s).LawfulBut none (insert n A)
      ∧ Still (insert n A) s (withdraw n (s.slot n).latch.target s) :=
  reexamine_lawful _ (filterStack_lawful h hst rfl) (quiet_filterStack (h.quiet _ (by simp)) _) le_rfl

/-- A SUSPENDED slot whose next entry faults is withdrawn (R82, R102). -/
theorem withdraw_faulted_lawful (h : s.LawfulBut none A) (hn : n ∉ A) (hst : (s.slot n).state = .suspended) (f : FaultCode) :
    (withdraw n (s.slot n).latch.target (faultFetch n f s)).LawfulBut none A
      ∧ Still A s (withdraw n (s.slot n).latch.target (faultFetch n f s)) := by
  have hfiltered := (filterStack_lawful h hst rfl).settle
    (t := (faultFetch n f s).setOwn (s.slot n).latch.target
      { (faultFetch n f s).own[(s.slot n).latch.target] with
        stack := (faultFetch n f s).own[(s.slot n).latch.target].stack.filter fun x => x.owner != some n }) rfl
    (by rw [State.slot_setOwn, faultFetch_slot_self]; rfl)
    (fun m hm => by rw [State.slot_setOwn, faultFetch_slot_ne hm]; rfl)
  obtain ⟨hlaw, hstill⟩ := reexamine_lawful _ hfiltered
    (quiet_filterStack (s := faultFetch n f s) (h.quiet _ (by simp)) _) le_rfl
  refine ⟨hlaw, Still.trans (fun m hm => ?_) hstill⟩
  rw [State.slot_setOwn]
  exact faultFetch_slot_ne (by rintro rfl; exact hn hm) f s

/-! ### Starts and follow-ons -/

theorem startSlot_of_now (h : (s.slot n).latch.start = .now) : startSlot n s = claim n s := by
  simp only [startSlot, h]

theorem startSlot_of_delay (h : (s.slot n).latch.start = .delay) :
    startSlot n s
      = if (s.slot n).latch.delay = 0 then claim n s
        else s.setSlot n { s.slot n with delayLeft := (s.slot n).latch.delay } := by
  simp only [startSlot, h]

theorem startSlot_of_onFire (h : (s.slot n).latch.start = .onFire) :
    startSlot n s = s.setSlot n { s.slot n with awaiting := true } := by
  simp only [startSlot, h]

/-- The start field of a slot away acts (R95). -/
theorem startSlot_lawful (h : s.LawfulBut none (insert n A)) (hn : n ∉ A) (hst : (s.slot n).state.placed = false) :
    (startSlot n s).LawfulBut none A ∧ Still A s (startSlot n s) := by
  cases hstart : (s.slot n).latch.start with
  | now =>
    rw [startSlot_of_now hstart]
    exact claim_lawful h hn
  | delay =>
    rw [startSlot_of_delay hstart]
    split_ifs
    · exact claim_lawful h hn
    · exact ⟨h.settle_slot hst, Still.setSlot hn _ s⟩
  | onFire =>
    rw [startSlot_of_onFire hstart]
    exact ⟨h.settle_slot hst, Still.setSlot hn _ s⟩

theorem armSlot_lawful (h : s.LawfulBut none (insert n A)) (hn : n ∉ A) (b : Nat) (x : Block) :
    (armSlot n b x s).LawfulBut none A ∧ Still A s (armSlot n b x s) := by
  obtain ⟨hlaw, hstill⟩ := startSlot_lawful (h.reslot_away (Slot.latched b x)) hn (by rw [State.slot_setSlot_self]; rfl)
  exact ⟨hlaw, Still.trans (Still.setSlot hn _ s) hstill⟩

theorem followOn_lawful (h : s.LawfulBut none (insert n A)) (hn : n ∉ A) (b : Nat) :
    (followOn n b s).LawfulBut none A ∧ Still A s (followOn n b s) := by
  unfold followOn
  split
  · exact ⟨(h.settle_slot rfl).raise _, Still.setSlot hn _ s⟩
  · exact armSlot_lawful h hn b _

theorem finishBlock_lawful (h : s.LawfulBut none (insert n A)) (hn : n ∉ A) (next : Option Nat) :
    (finishBlock n next s).LawfulBut none A ∧ Still A s (finishBlock n next s) := by
  cases next with
  | none => exact ⟨(h.settle_slot rfl).raise _, Still.setSlot hn _ s⟩
  | some b => exact followOn_lawful h hn b

/-! ### Entry ends -/

/-- The next entry or pass goes on in the state and under the block of before. -/
theorem Slot.afterEntry?_keeps {x y : Slot} (h : x.afterEntry? = some y) : y.state = x.state ∧ y.latch = x.latch := by
  unfold Slot.afterEntry? at h
  split_ifs at h <;> cases h <;> exact ⟨rfl, rfl⟩

theorem Ownership.SameShape.setActive {o : Ownership} {a b : Context} (ha : o.active = some a) (hk : b.key = a.key) :
    o.SameShape { o with active := some b } :=
  ⟨rfl, by rw [ha, Option.map_some, Option.map_some, hk], rfl, rfl⟩

/-- The owner's context gives way to the next entry's, on the same terms. -/
theorem installEntry_lawful (h : s.LawfulBut none A) (hn : n ∉ A) (hst : (s.slot n).state = .running) (e : Entry)
    (r : OverlayRecord) : (installEntry n e r s).LawfulBut none A := by
  obtain ⟨a, ha, hown, hprio⟩ := h.runner hn hst
  have hkey : (settle s.channels.last[(s.slot n).latch.target] (contextOf r (some n) (s.slot n).latch.priority)).key
      = a.key := by
    rw [Context.key, Context.key, hown, hprio]
    rfl
  rw [installEntry_eq n e r rfl rfl]
  exact State.LawfulBut.reslot (n := n) (h.reshape (.setActive ha hkey)) hst.symm rfl

theorem fetchInPlace_lawful (h : s.LawfulBut none A) (hn : n ∉ A) (hst : (s.slot n).state = .running) :
    (fetchInPlace n s).LawfulBut none A ∧ Still A s (fetchInPlace n s) := by
  unfold fetchInPlace
  rcases fetch_cases n s with ⟨f, hf⟩ | ⟨e, r, hf⟩ <;> rw [hf]
  · exact release_faulted_lawful h hn hst f
  · refine ⟨(installEntry_lawful h hn hst e r).congr_eq (cueOf_own r _) (cueOf_slot r _), fun m hm => ?_⟩
    rw [cueOf_slot]
    exact State.slot_setSlot_ne _ _ _ _ (by rintro rfl; exact hn hm)

theorem leaveBlock_of_adopt (h : (s.slot n).latch.endAction = .adopt) :
    leaveBlock n s = release (s.slot n).latch.target (adopt (s.slot n).latch.target s) := by
  simp only [leaveBlock, h]

theorem leaveBlock_of_restore (h : (s.slot n).latch.endAction = .restore) :
    leaveBlock n s = release (s.slot n).latch.target s := by
  simp only [leaveBlock, h]

theorem leaveBlock_lawful (h : s.LawfulBut none A) (hn : n ∉ A) (hst : (s.slot n).state = .running) :
    (leaveBlock n s).LawfulBut none (insert n A) ∧ Still (insert n A) s (leaveBlock n s) := by
  cases hend : (s.slot n).latch.endAction with
  | adopt =>
    rw [leaveBlock_of_adopt hend]
    have hadopted : (adopt (s.slot n).latch.target s).LawfulBut none A :=
      h.reshape ⟨((h.ordered _).base).symm, rfl, rfl, rfl⟩
    exact release_lawful hadopted hn hst
  | restore =>
    rw [leaveBlock_of_restore hend]
    exact release_lawful h hn hst

theorem blockEnd_lawful (h : s.LawfulBut none A) (hn : n ∉ A) (hst : (s.slot n).state = .running) :
    (blockEnd n s).LawfulBut none A ∧ Still A s (blockEnd n s) := by
  obtain ⟨hlaw, hstill⟩ := leaveBlock_lawful h hn hst
  obtain ⟨hlaw', hstill'⟩ := finishBlock_lawful hlaw hn (s.slot n).latch.next
  exact ⟨hlaw', Still.trans (hstill.mono (Set.subset_insert n A)) hstill'⟩

/-- The entry of a RUNNING slot ends (R101). -/
theorem endEntry_lawful (h : s.LawfulBut none A) (hn : n ∉ A) (hst : (s.slot n).state = .running) :
    (endEntry n s).LawfulBut none A ∧ Still A s (endEntry n s) := by
  unfold endEntry
  cases hx : (s.slot n).afterEntry? with
  | none => exact blockEnd_lawful h hn hst
  | some x =>
    obtain ⟨hstate, hlatch⟩ := Slot.afterEntry?_keeps hx
    obtain ⟨hlaw, hstill⟩ := fetchInPlace_lawful (h.reslot hstate hlatch) hn
      (by rw [State.slot_setSlot_self, hstate, hst])
    exact ⟨hlaw, Still.trans (Still.setSlot hn x s) hstill⟩

/-! ### The end of a pushed slot's entry (log 5) -/

/-- A saved context of slot n gives way to one of its own priority. -/
theorem mapSaved_lawful (h : s.LawfulBut c A) {x : Context} (hx : x.owner = some n)
    (hprio : x.priority = ((s.slot n).latch.priority : Int)) : (mapSaved n d (fun _ => x) s).LawfulBut c A := by
  refine h.reshape ⟨rfl, rfl, ?_, rfl⟩
  rw [List.map_map]
  refine List.map_congr_left fun y hy => ?_
  change Context.key (if y.owner = some n then x else y) = y.key
  split_ifs with hyn
  · rw [Context.key, Context.key, hx, hyn, hprio, h.saved_priority hy hyn]
  · rfl

theorem fetchSaved_lawful (h : s.LawfulBut none A) (hn : n ∉ A) (hst : (s.slot n).state = .suspended) :
    (fetchSaved n s).LawfulBut none A ∧ Still A s (fetchSaved n s) := by
  unfold fetchSaved
  simp only
  split
  · exact withdraw_faulted_lawful h hn hst _
  · have hsaved := mapSaved_lawful (d := (s.slot n).latch.target) h (n := n)
      (x := settle s.channels.last[(s.slot n).latch.target]
        (contextOf s.bank[(s.entry (s.slot n).entryIndex).overlay] (some n) (s.slot n).latch.priority)) rfl rfl
    have hslot := State.LawfulBut.reslot (n := n) hsaved
      (x := { s.slot n with
        ticksLeft := (s.entry (s.slot n).entryIndex).duration, endWatch := (s.entry (s.slot n).entryIndex).endWatch,
        counts := false }) rfl rfl
    refine ⟨hslot.congr_eq (cueOf_own _ _) (cueOf_slot _ _), fun m hm => ?_⟩
    rw [cueOf_slot]
    exact State.slot_setSlot_ne _ _ _ _ (by rintro rfl; exact hn hm)

theorem adoptSaved_lawful (h : s.LawfulBut c A) (n : SlotNo) (d : Chan) : (adoptSaved n d s).LawfulBut c A := by
  unfold adoptSaved
  split
  · exact h.reshape ⟨((h.ordered d).base).symm, rfl, rfl, rfl⟩
  · exact h

theorem adoptSaved_slot (n : SlotNo) (d : Chan) (s : State) (m : SlotNo) : (adoptSaved n d s).slot m = s.slot m := by
  unfold adoptSaved
  split <;> rfl

theorem leaveSaved_of_adopt (h : (s.slot n).latch.endAction = .adopt) :
    leaveSaved n s = withdraw n (s.slot n).latch.target (adoptSaved n (s.slot n).latch.target s) := by
  simp only [leaveSaved, h]

theorem leaveSaved_of_restore (h : (s.slot n).latch.endAction = .restore) :
    leaveSaved n s = withdraw n (s.slot n).latch.target s := by
  simp only [leaveSaved, h]

theorem leaveSaved_lawful (h : s.LawfulBut none A) (hst : (s.slot n).state = .suspended) :
    (leaveSaved n s).LawfulBut none (insert n A) ∧ Still (insert n A) s (leaveSaved n s) := by
  cases hend : (s.slot n).latch.endAction with
  | adopt =>
    rw [leaveSaved_of_adopt hend]
    have hslot := adoptSaved_slot n (s.slot n).latch.target s
    obtain ⟨hlaw, hstill⟩ := withdraw_lawful (adoptSaved_lawful h n (s.slot n).latch.target) (n := n)
      (by rw [hslot, hst])
    rw [hslot] at hlaw hstill
    exact ⟨hlaw, Still.trans (fun m _ => hslot m) hstill⟩
  | restore =>
    rw [leaveSaved_of_restore hend]
    exact withdraw_lawful h hst

theorem endSaved_lawful (h : s.LawfulBut none A) (hn : n ∉ A) (hst : (s.slot n).state = .suspended) :
    (endSaved n s).LawfulBut none A ∧ Still A s (endSaved n s) := by
  unfold endSaved
  cases hx : (s.slot n).afterEntry? with
  | none =>
    obtain ⟨hlaw, hstill⟩ := leaveSaved_lawful h hst
    obtain ⟨hlaw', hstill'⟩ := finishBlock_lawful hlaw hn (s.slot n).latch.next
    exact ⟨hlaw', Still.trans (hstill.mono (Set.subset_insert n A)) hstill'⟩
  | some x =>
    obtain ⟨hstate, hlatch⟩ := Slot.afterEntry?_keeps hx
    obtain ⟨hlaw, hstill⟩ := fetchSaved_lawful (h.reslot hstate hlatch) hn (by rw [State.slot_setSlot_self, hstate, hst])
    exact ⟨hlaw, Still.trans (Still.setSlot hn x s) hstill⟩

theorem entryRunsOut_lawful (h : s.LawfulBut none A) (hn : n ∉ A) :
    (entryRunsOut n s).LawfulBut none A ∧ Still A s (entryRunsOut n s) := by
  unfold entryRunsOut
  cases hst : (s.slot n).state with
  | running => exact endEntry_lawful h hn hst
  | suspended => exact endSaved_lawful h hn hst
  | idle | armed | waiting | faulted => exact ⟨h, Still.refl A s⟩

/-! ### The tick's event and fires -/

theorem foldl_entryRunsOut_lawful (ends : List SlotNo) (hends : ∀ n ∈ ends, n ∉ A) : ∀ {s : State}, s.LawfulBut none A →
    (ends.foldl (fun s n => entryRunsOut n s) s).LawfulBut none A := by
  induction ends with
  | nil => exact id
  | cons n ends ih =>
    intro s h
    exact ih (fun m hm => hends m (List.mem_cons_of_mem n hm)) (entryRunsOut_lawful h (hends n (List.mem_cons_self ..))).1

/-- Slots away claim one after the other. -/
theorem foldl_claim_lawful (claims : List SlotNo) (hnodup : claims.Nodup) : ∀ {s : State}, s.LawfulBut none {m | m ∈ claims} →
    (claims.foldl (fun s n => claim n s) s).LawfulBut none ∅ := by
  induction claims with
  | nil =>
    intro s h
    simpa using h
  | cons n claims ih =>
    intro s h
    obtain ⟨hn, hclaims⟩ := List.nodup_cons.1 hnodup
    have hset : {m | m ∈ n :: claims} = insert n {m | m ∈ claims} := by
      ext m
      simp
    rw [hset] at h
    exact ih hclaims (claim_lawful h hn).1

/-- Entry ends, and then the claims of slots that till then have no place. -/
theorem actSlots_lawful {ends claims : List SlotNo} (h : s.LawfulBut none {m | m ∈ claims}) (hnodup : claims.Nodup)
    (hends : ∀ n ∈ ends, n ∉ claims) : (actSlots ends claims s).LawfulBut none ∅ :=
  foldl_claim_lawful claims hnodup (foldl_entryRunsOut_lawful ends hends h)

theorem fireStart_lawful (h : s.LawfulBut none A) (hn : n ∉ A) (hst : (s.slot n).state.placed = false) :
    (fireStart n s).LawfulBut none A := by
  unfold fireStart
  simp only
  split_ifs
  · exact (claim_lawful ((h.insert hst).reslot_away _) hn).1
  · exact (h.insert hst).settle_slot hst

theorem Slot.hears_state {w : WatchNo} {x : Slot} (h : x.hears w = true) : x.state = .armed ∨ x.state = .running := by
  simp only [Slot.hears, Bool.or_eq_true, Bool.and_eq_true, decide_eq_true_eq] at h
  exact h.imp (fun h => h.1.1) fun h => h.1

theorem fireSlot_lawful (h : s.LawfulBut none ∅) {w : WatchNo} (hw : (s.slot n).hears w = true) :
    (fireSlot n s).LawfulBut none ∅ := by
  unfold fireSlot
  split_ifs with harmed
  · exact fireStart_lawful h (Set.notMem_empty n) (by rw [harmed]; rfl)
  · exact (endEntry_lawful h (Set.notMem_empty n) ((Slot.hears_state hw).resolve_left harmed)).1

theorem fireSlots_lawful (h : s.LawfulBut none ∅) (w : WatchNo) : (fireSlots w s).LawfulBut none ∅ := by
  unfold fireSlots
  refine List.foldlRecOn (motive := fun t : State => t.LawfulBut none ∅) _ _ h fun t ht n _ => ?_
  split_ifs with hw
  · rw [Bool.and_eq_true] at hw
    exact fireSlot_lawful ht hw.2
  · exact ht

end

end Sys2Proof.Machine
end

section
/-! Every command keeps the law of the Ownership Unit (O58): what moves no place, what empties channels, and the tick. -/

namespace Sys2Proof.Machine

/-! ### What moves no place -/

theorem Ownership.SameShape.trans {o o' o'' : Ownership} (h : o.SameShape o') (k : o'.SameShape o'') : o.SameShape o'' :=
  ⟨k.base.trans h.base, k.active.trans h.active, k.stack.trans h.stack, k.waiting.trans h.waiting⟩

/-- Channels of the same shape, and slots in the same states under the same blocks. -/
structure PlacesStand (s t : State) : Prop where
  shape : ∀ d : Chan, s.own[d].SameShape t.own[d]
  slots : ∀ n, (t.slot n).state = (s.slot n).state ∧ (t.slot n).latch = (s.slot n).latch

section
variable {s t u : State}

namespace PlacesStand

theorem of_eq (ho : t.own = s.own) (hs : t.scenario.slots = s.scenario.slots) : PlacesStand s t := by
  refine ⟨fun d => by rw [ho]; exact .refl _, fun n => ?_⟩
  unfold State.slot
  rw [hs]
  exact ⟨rfl, rfl⟩

theorem refl (s : State) : PlacesStand s s := .of_eq rfl rfl

theorem trans (h : PlacesStand s t) (k : PlacesStand t u) : PlacesStand s u :=
  ⟨fun d => (h.shape d).trans (k.shape d), fun n => ⟨(k.slots n).1.trans (h.slots n).1, (k.slots n).2.trans (h.slots n).2⟩⟩

theorem lawful (h : PlacesStand s t) (hs : s.LawfulBut none ∅) : t.LawfulBut none ∅ := hs.congr h.shape h.slots

theorem foldl {β : Type} (f : State → β → State) (h : ∀ s b, PlacesStand s (f s b)) (l : List β) (s : State) :
    PlacesStand s (l.foldl f s) :=
  foldl_moves PlacesStand .refl (fun _ _ _ => .trans) f h l s

end PlacesStand

theorem EventsMoved.places (h : EventsMoved s t) : PlacesStand s t := .of_eq h.own (congrArg _ h.scenario)
theorem CaptureMoved.places (h : CaptureMoved s t) : PlacesStand s t := .of_eq h.own (congrArg _ h.scenario)
theorem FlowMoved.places (h : FlowMoved s t) : PlacesStand s t := .of_eq h.own (congrArg _ h.scenario)
theorem PortMoved.places (h : PortMoved s t) : PlacesStand s t := .of_eq h.own (congrArg _ h.scenario)
theorem TracksMoved.places (h : TracksMoved s t) : PlacesStand s t := .of_eq h.own (congrArg _ h.scenario)

/-- A channel may change within its shape. -/
theorem setOwn_places {d : Chan} {o : Ownership} (ho : s.own[d].SameShape o) : PlacesStand s (s.setOwn d o) := by
  refine ⟨fun e => ?_, fun _ => ⟨rfl, rfl⟩⟩
  rw [State.own_setOwn_fin]
  split_ifs with hde
  · exact hde ▸ ho
  · exact .refl _

theorem mapSlots_places {f : Slot → Slot} (hf : ∀ x, (f x).state = x.state ∧ (f x).latch = x.latch) :
    PlacesStand s (s.mapSlots f) := by
  refine ⟨fun d => .refl _, fun n => ?_⟩
  rw [State.slot_mapSlots]
  exact hf _

theorem Slot.counted_keeps (x : Slot) : x.counted.state = x.state ∧ x.counted.latch = x.latch := by
  unfold Slot.counted
  split_ifs <;> exact ⟨rfl, rfl⟩

theorem countSlots_places (s : State) : PlacesStand s (countSlots s) := mapSlots_places Slot.counted_keeps

theorem meetTick_places (s : State) : PlacesStand s (meetTick s) := mapSlots_places fun _ => ⟨rfl, rfl⟩

/-- The active context changes but for its owner and its priority. -/
theorem Ownership.SameShape.setCurrent {o : Ownership} {x : Context} (hx : x.key = o.current.key) :
    o.SameShape (o.setCurrent x) := by
  unfold Ownership.setCurrent
  unfold Ownership.current at hx
  cases ha : o.active with
  | none =>
    rw [ha] at hx
    exact ⟨congrArg Prod.snd hx, by rw [ha], rfl, rfl⟩
  | some a =>
    rw [ha] at hx
    exact ⟨rfl, by rw [ha, Option.map_some, Option.map_some, hx]; rfl, rfl, rfl⟩

theorem patchWrite_key (f : PatchField) (v : Word) (x : Context) : (patchWrite f v x).key = x.key := by
  cases f <;> rfl

theorem advanceContext_key (v : Word) (x : Context) : (advanceContext v x).key = x.key := rfl

theorem patchChannel_places (c : Chan) (f : PatchField) (v : Word) (s : State) : PlacesStand s (patchChannel c f v s) :=
  setOwn_places (.setCurrent (patchWrite_key f v _))

theorem applyPatch_places (p : PatchWord) (s : State) : PlacesStand s (applyPatch p s) := by
  unfold applyPatch
  split
  · split_ifs
    · exact patchChannel_places ..
    · exact .refl s
  · exact .refl s

theorem applyPatches_places (ps : List PatchWord) (s : State) : PlacesStand s (applyPatches ps s) :=
  .foldl _ (fun s p => applyPatch_places p s) ps s

/-- The patch words of an accepted frame reach the active contexts; the rest of its effects moves no place. -/
theorem accepting_places (f : SampleFrame) (s : State) : PlacesStand s (s.accepting f) := by
  have hpatched := applyPatches_places f.patches s
  have hown := accepting_own f s
  have hscenario := (accepting_moves f s).scenario
  refine ⟨fun d => by rw [hown]; exact hpatched.shape d, fun n => ?_⟩
  unfold State.slot
  rw [hscenario]
  exact ⟨rfl, rfl⟩

theorem noteFire_places (w : WatchNo) (v : Word) (s : State) : PlacesStand s (noteFire w v s) := by
  have hnoted : PlacesStand s (advance (ctrFires w) 1 (joinHits w (s.setWatch w ((s.watchOf w).stored v s.timer.ticks)))) :=
    PlacesStand.trans (t := joinHits w (s.setWatch w _)) (.of_eq rfl rfl) (advance_moves _ _ _).places
  unfold noteFire
  simp only
  split_ifs
  · exact hnoted.trans (raise_moves _ _).places
  · exact hnoted

/-! ### The events of a tick -/

theorem mem_entriesDue {n : SlotNo} : n ∈ entriesDue s ↔ (s.slot n).entryDue = true := by simp [entriesDue]

theorem mem_delaysDue {n : SlotNo} : n ∈ delaysDue s ↔ (s.slot n).delayDue = true := by simp [delaysDue]

theorem Slot.delayDue_armed {x : Slot} (h : x.delayDue = true) : x.state = .armed := by
  simp only [Slot.delayDue, Bool.and_eq_true, decide_eq_true_eq] at h
  exact h.1.1.2

theorem Slot.entryDue_running {x : Slot} (h : x.entryDue = true) : x.state = .running := by
  simp only [Slot.entryDue, Bool.and_eq_true, decide_eq_true_eq] at h
  exact h.1.2

theorem entriesDue_nodup (s : State) : (entriesDue s).Nodup := (List.nodup_finRange 8).filter _

theorem delaysDue_nodup (s : State) : (delaysDue s).Nodup := (List.nodup_finRange 8).filter _

/-- No slot has both its entry and its delay at an end. -/
theorem not_delaysDue_of_entryDue {n : SlotNo} (h : (s.slot n).entryDue = true) : n ∉ delaysDue s := fun hn => by
  have := Slot.delayDue_armed (mem_delaysDue.1 hn)
  rw [Slot.entryDue_running h] at this
  cases this

/-- Where the count has been taken, the slots whose delays it ended have no place. -/
theorem countSlots_lawful (h : s.LawfulBut none ∅) {B : Set SlotNo} (hB : ∀ m ∈ B, (s.slot m).delayDue = true) :
    (countSlots s).LawfulBut none B := by
  refine ((countSlots_places s).lawful h).away_all fun m hm => ?_
  rw [((countSlots_places s).slots m).1, Slot.delayDue_armed (hB m hm)]
  rfl

theorem scenarioTick_lawful (h : s.LawfulBut none ∅) : (scenarioTick s).LawfulBut none ∅ :=
  actSlots_lawful (countSlots_lawful h fun _ => mem_delaysDue.1) (delaysDue_nodup s)
    fun _ hn => not_delaysDue_of_entryDue (mem_entriesDue.1 hn)

/-- The end of a delay, ahead of the other actions of its tick. -/
theorem delayExpiry_lawful (h : s.LawfulBut none ∅) {n : SlotNo} (hn : (s.slot n).delayDue = true) :
    (actSlots (entriesDue s) ((delaysDue s).erase n) (claim n (countSlots s))).LawfulBut none ∅ := by
  have herase : ∀ {m}, m ∈ (delaysDue s).erase n → m ∈ delaysDue s := List.mem_of_mem_erase
  have haway : (countSlots s).LawfulBut none (insert n {m | m ∈ (delaysDue s).erase n}) :=
    countSlots_lawful h fun m hm => by
      rcases Set.mem_insert_iff.1 hm with rfl | hm
      · exact hn
      · exact mem_delaysDue.1 (herase hm)
  refine actSlots_lawful (claim_lawful haway (List.Nodup.not_mem_erase (delaysDue_nodup s))).1 ((delaysDue_nodup s).erase n)
    fun m hm hmem => not_delaysDue_of_entryDue (mem_entriesDue.1 hm) (herase hmem)

/-- The end of an entry, ahead of the other actions of its tick. -/
theorem entryExpiry_lawful (h : s.LawfulBut none ∅) {n : SlotNo} (hn : (s.slot n).entryDue = true) :
    (actSlots (n :: (entriesDue s).erase n) (delaysDue s) (countSlots s)).LawfulBut none ∅ := by
  refine actSlots_lawful (countSlots_lawful h fun _ => mem_delaysDue.1) (delaysDue_nodup s) fun m hm => ?_
  rcases List.mem_cons.1 hm with rfl | hm
  · exact not_delaysDue_of_entryDue hn
  · exact not_delaysDue_of_entryDue (mem_entriesDue.1 (List.mem_of_mem_erase hm))

theorem takeFire_lawful (h : s.LawfulBut none ∅) (w : WatchNo) : (takeFire w s).LawfulBut none ∅ := by
  unfold takeFire
  split
  · rename_i v _
    exact (fireCaptures_moves w _).places.lawful (fireSlots_lawful ((noteFire_places w v s).lawful h) w)
  · exact h

theorem takeFires_lawful (h : s.LawfulBut none ∅) : (takeFires s).LawfulBut none ∅ :=
  List.foldlRecOn (motive := fun t : State => t.LawfulBut none ∅) _ _ h fun _ ht w _ => takeFire_lawful ht w

/-! ### The tick -/

/-- A channel's tick leaves the owner and the priority of the context it advances. -/
theorem channelTick_key (s : State) (c : Chan) :
    ((channelTick s c).context.getD s.own[c].current).key = s.own[c].current.key := by
  unfold channelTick
  simp only
  split
  · rfl
  · split
    · rfl
    · split
      · rfl
      · exact advanceContext_key _ _

theorem owners_slot (s : State) (y : ChannelTable) (v : Vector Ownership 32) (n : SlotNo) :
    ({ s with channels := y, own := v } : State).slot n = s.slot n := rfl

theorem putValues_slot (vs : TickValues) (s : State) (n : SlotNo) : (putValues vs s).slot n = s.slot n := by
  unfold putValues
  exact owners_slot s _ _ n

theorem putValues_places (s : State) : PlacesStand s (putValues (tickValues s) s) := by
  refine ⟨fun d => ?_, fun n => ?_⟩
  · rw [putValues_own]
    refine .setCurrent ?_
    have htick : (tickValues s)[d] = channelTick s d := by simp [tickValues]
    rw [htick]
    exact channelTick_key s d
  · rw [putValues_slot]
    exact ⟨rfl, rfl⟩

theorem deliverTick_places (s : State) : PlacesStand s (deliverTick (tickValues s) s) := by
  have hvalues : PlacesStand s (takeValues (tickValues s) s) := by
    rw [takeValues_eq]
    exact (putValues_places s).trans (countClips_moves _ _).places
  have hwatched (u : State) (vs : TickValues) : PlacesStand u (watchesTick vs (beginDelivery vs u)) := .of_eq rfl rfl
  unfold deliverTick
  exact ((hvalues.trans (hwatched _ _)).trans (capturesTick_moves _ _).places).trans (meetTick_places _)

theorem timer_places (s : State) (y : FrameTimer) : PlacesStand s { s with timer := y } := .of_eq rfl rfl

theorem tick_lawful (o : CountOrder) (h : s.LawfulBut none ∅) : (tick o s).LawfulBut none ∅ := by
  have hclosed : (closeTick s).LawfulBut none ∅ := takeFires_lawful (scenarioTick_lawful h)
  have hjudged : PlacesStand (closeTick s) s.judged :=
    (((clearPort_moves _).places.trans (timer_places _ _)).trans (judge_moves _).places).trans (tracksTick_moves _).places
  have hcore : (tickCore s).LawfulBut none ∅ := by
    rw [tickCore_eq]
    exact (hjudged.trans (deliverTick_places _)).lawful hclosed
  cases o with
  | countFirst => exact scenarioTick_lawful hcore
  | eventsFirst => exact hcore

theorem takeSample_lawful (us : Nat) (o : CountOrder) (f : SampleFrame) (h : s.LawfulBut none ∅) :
    (takeSample us o f s).LawfulBut none ∅ := by
  rcases takeSample_cases us o f s with hs | hs <;> rw [hs]
  · exact (advance_moves _ _ _).places.lawful h
  · have haccepted := (accepting_places f s).lawful h
    rcases askTick_cases us o (s.accepting f) with ⟨y, hy⟩ | ⟨y, hy⟩ <;> rw [hy]
    · exact (timer_places _ y).lawful haccepted
    · exact tick_lawful o ((timer_places _ y).lawful haccepted)

/-! ### Channels emptied -/

theorem Ownership.places_empty {o : Ownership} (ha : o.active = none) (hs : o.stack = []) (hw : o.waiting = []) : o.places = [] := by
  simp [Ownership.places, ha, hs, hw]

/-- A channel on its base context, with nothing saved and nothing waiting. -/
structure Ownership.Empty (o : Ownership) : Prop where
  base : o.base.priority = -1
  active : o.active = none
  stack : o.stack = []
  waiting : o.waiting = []

namespace Ownership.Empty

variable {o : Ownership}

theorem ordered (h : o.Empty) : o.Ordered :=
  ⟨h.base, by simp [h.stack], by simp [h.stack], by simp [h.waiting], by simp [h.active]⟩

theorem quiet (h : o.Empty) : o.Quiet := Ownership.quiet_none h.active h.stack h.waiting

theorem places (h : o.Empty) : o.places = [] := Ownership.places_empty h.active h.stack h.waiting

theorem initial : Ownership.initial.Empty := ⟨rfl, rfl, rfl, rfl⟩

end Ownership.Empty

/-- Channels are emptied whose slots have all left. -/
theorem State.LawfulBut.empty (C : Set Chan) (h : s.LawfulBut none ∅) (hempty : ∀ d ∈ C, t.own[d].Empty)
    (hown : ∀ d ∉ C, t.own[d] = s.own[d]) (hslot : ∀ n, (s.slot n).latch.target ∉ C → t.slot n = s.slot n)
    (hoff : ∀ n, (s.slot n).latch.target ∈ C → (t.slot n).state.placed = false) : t.LawfulBut none ∅ := by
  refine ⟨⟨fun d p hp => ?_, fun n _ hst => ?_, fun n hn => hn.elim⟩, fun d => ?_, fun d _ => ?_⟩
  · by_cases hd : d ∈ C
    · rw [(hempty d hd).places] at hp
      cases hp
    · rw [hown d hd] at hp
      obtain ⟨n, hn, hplace⟩ := h.placed.held d p hp
      have ht : (s.slot n).latch.target ∉ C := by rwa [hplace.2.1]
      refine ⟨n, hn, ?_⟩
      unfold State.holdsPlace
      rw [hslot n ht]
      exact hplace
  · by_cases ht : (s.slot n).latch.target ∈ C
    · rw [hoff n ht] at hst
      cases hst
    · rw [hslot n ht] at hst ⊢
      obtain ⟨d, p, hp, hpn, hpst⟩ := h.placed.has n (Set.notMem_empty n) hst
      have hd : d ∉ C := by rwa [← (h.placed.holder hp hpn).2.1]
      exact ⟨d, p, by rw [hown d hd]; exact hp, hpn, hpst⟩
  · by_cases hd : d ∈ C
    · exact (hempty d hd).ordered
    · rw [hown d hd]
      exact h.ordered d
  · by_cases hd : d ∈ C
    · exact (hempty d hd).quiet
    · rw [hown d hd]
      exact h.quiet d (by simp)

/-- Every channel on its base context, and no slot in a state with a place. -/
theorem State.lawful_of_empty (ho : ∀ d : Chan, t.own[d].Empty) (hs : ∀ n, (t.slot n).state.placed = false) :
    t.LawfulBut none ∅ := by
  refine ⟨⟨fun d p hp => ?_, fun n _ hst => ?_, fun n hn => hn.elim⟩, fun d => (ho d).ordered, fun d _ => (ho d).quiet⟩
  · rw [(ho d).places] at hp
    cases hp
  · rw [hs n] at hst
    cases hst

/-! ### A channel disabled -/

theorem faultOn_own (c : Chan) (n : SlotNo) (s : State) : (faultOn c n s).own = s.own := by
  unfold faultOn
  split_ifs <;> rfl

theorem faultOn_slot_ne {c : Chan} {m n : SlotNo} (h : m ≠ n) (s : State) : (faultOn c n s).slot m = s.slot m := by
  unfold faultOn
  split_ifs
  · exact State.slot_setSlot_ne _ _ _ _ (Ne.symm h)
  · rfl

/-- What the disabling of channel c leaves of a slot (R36). -/
def Slot.offChannel (c : Chan) (x : Slot) : Slot := if x.state.busy && decide (x.latch.target = c) then x.channelOff else x

theorem faultOn_slot_self (c : Chan) (n : SlotNo) (s : State) : (faultOn c n s).slot n = (s.slot n).offChannel c := by
  unfold faultOn Slot.offChannel
  split_ifs
  · rw [raise_slot, State.slot_setSlot_self]
  · rfl

theorem disableChannel_own (c d : Chan) (s : State) :
    (disableChannel c s).own[d]
      = if c = d then { base := settle s.channels.last[c] s.own[c].base, active := none, stack := [], waiting := [] }
        else s.own[d] := by
  have hfold : ((List.finRange 8).foldl (fun s n => faultOn c n s) s).own = s.own :=
    List.foldlRecOn (motive := fun t : State => t.own = s.own) _ _ rfl fun t ht n _ => (faultOn_own c n t).trans ht
  have hlast : ((List.finRange 8).foldl (fun s n => faultOn c n s) s).channels = s.channels :=
    (foldl_moves ScenarioMoved .refl (fun _ _ _ => .trans) _ (fun s n => faultOn_scenario c n s) _ s).channels
  unfold disableChannel clearChannel
  rw [State.own_setOwn_fin, hfold, hlast]

theorem disableChannel_slot (c : Chan) (n : SlotNo) (s : State) : (disableChannel c s).slot n = (s.slot n).offChannel c := by
  unfold disableChannel clearChannel
  rw [State.slot_setOwn]
  exact foldl_finRange_get (fun s n => faultOn c n s) State.slot (fun _ => ()) (fun _ _ => Slot.offChannel c)
    (fun s n => faultOn_slot_self c n s) (fun s _ _ h => faultOn_slot_ne (Ne.symm h) s) (fun _ _ => rfl) s n

end
end Sys2Proof.Machine
end

section
/-! Every command keeps the law of the Ownership Unit (O58), continued: requests, resets and the safe line. -/

namespace Sys2Proof.Machine

section
variable {s t : State}

theorem disableChannel_lawful (h : s.LawfulBut none ∅) (c : Chan) : (disableChannel c s).LawfulBut none ∅ := by
  refine h.empty {c} (fun d hd => ?_) (fun d hd => ?_) (fun n hn => ?_) fun n hn => ?_
  · rw [Set.mem_singleton_iff] at hd
    rw [disableChannel_own, if_pos hd.symm]
    exact ⟨(h.ordered c).base, rfl, rfl, rfl⟩
  · rw [disableChannel_own, if_neg fun heq => hd (by simp [heq])]
  · rw [disableChannel_slot, Slot.offChannel, decide_eq_false (by simpa using hn), Bool.and_false, if_neg (by simp)]
  · rw [disableChannel_slot, Slot.offChannel, decide_eq_true (by simpa using hn), Bool.and_true]
    split_ifs with hbusy
    · rfl
    · cases hst : (s.slot n).state <;> rw [hst] at hbusy <;> first | rfl | exact absurd rfl hbusy

theorem disableWritten_lawful (h : s.LawfulBut none ∅) (old : Vector ChannelRecord 32) :
    (disableWritten old s).LawfulBut none ∅ := by
  refine List.foldlRecOn (motive := fun t : State => t.LawfulBut none ∅) _ _ h fun t ht c _ => ?_
  split_ifs
  · exact disableChannel_lawful ht c
  · exact ht

theorem records_places (s : State) (y : ChannelTable) : PlacesStand s { s with channels := y } := .of_eq rfl rfl

theorem putChannels_lawful (h : s.LawfulBut none ∅) (i : Nat) (rs : List ChannelRecord) :
    (putChannels i rs s).LawfulBut none ∅ := by
  unfold putChannels
  exact disableWritten_lawful ((records_places s _).lawful h) _

theorem takeFiresOf_lawful (h : s.LawfulBut none ∅) (i n : Nat) : (takeFiresOf i n s).LawfulBut none ∅ := by
  refine List.foldlRecOn (motive := fun t : State => t.LawfulBut none ∅) _ _ h fun t ht w _ => ?_
  split_ifs
  · exact takeFire_lawful ht w
  · exact ht

theorem watch_places (s : State) (y : WatchUnit) : PlacesStand s { s with watch := y } := .of_eq rfl rfl

theorem putWatches_lawful (h : s.LawfulBut none ∅) (i : Nat) (rs : List WatchRecord) :
    (putWatches i rs s).LawfulBut none ∅ := by
  unfold putWatches
  exact (watch_places _ _).lawful (takeFiresOf_lawful h i _)

theorem putSetup_places (x : Setup) (s : State) : PlacesStand s (putSetup x s) := by
  unfold putSetup
  simp only
  split_ifs <;> exact .of_eq rfl rfl

theorem installBase_lawful (h : s.LawfulBut none ∅) (c : Chan) (r : OverlayRecord) : (installBase c r s).LawfulBut none ∅ := by
  unfold installBase
  refine h.reshape ⟨?_, rfl, rfl, rfl⟩
  rw [(h.ordered c).base]
  split <;> rfl

/-- A slot in any state leaves its place (R107). -/
theorem leaveChannel_lawful (h : s.LawfulBut none ∅) (n : SlotNo) : (leaveChannel n s).LawfulBut none (insert n ∅) := by
  cases hst : (s.slot n).state with
  | running =>
    simp only [leaveChannel, hst]
    exact (release_lawful h (Set.notMem_empty n) hst).1
  | suspended =>
    simp only [leaveChannel, hst]
    exact (withdraw_lawful h hst).1
  | waiting =>
    simp only [leaveChannel, hst]
    have hremoved := removeWaiter_lawful (h.open_ _) hst rfl
    refine hremoved.close ?_
    rw [removeWaiter_own]
    have hquiet := h.quiet (s.slot n).latch.target (by simp)
    cases ha : s.own[(s.slot n).latch.target].active with
    | none =>
      obtain ⟨hs, hw⟩ := hquiet.of_none ha
      exact Ownership.quiet_none ha hs (by rw [hw]; rfl)
    | some a => exact Ownership.quiet_some ha fun w hw => hquiet.of_some ha w (mem_leaveWaiting.1 hw).1
  | idle | armed | faulted =>
    simp only [leaveChannel, hst]
    exact h.insert (by rw [hst]; rfl)

theorem tracks_places (s : State) (y : ReplayUnit) : PlacesStand s { s with replay := y } := .of_eq rfl rfl

theorem feedRing_places (u : TrackNo) (vs : List Word) (s : State) : PlacesStand s (feedRing u vs s) := by
  rw [feedRing_moves]
  exact tracks_places s _

/-- A channel cleared, with L as it stands (R72). -/
def Ownership.cleared (L : Int) (o : Ownership) : Ownership :=
  { base := settle L o.base, active := none, stack := [], waiting := [] }

theorem clearChannel_own (c : Chan) (s : State) (d : Chan) :
    (clearChannel c s).own[d] = if c = d then s.own[c].cleared s.channels.last[c] else s.own[d] := State.own_setOwn_fin s c d _

theorem clearChannels_own (s : State) (d : Chan) : (clearChannels s).own[d] = s.own[d].cleared s.channels.last[d] := by
  unfold clearChannels
  refine foldl_finRange_get (fun s c => clearChannel c s) (fun s (d : Chan) => s.own[d]) State.channels
    (fun y d o => o.cleared y.last[d]) (fun s c => ?_) (fun s c d hcd => ?_) (fun _ _ => rfl) s d
  · rw [clearChannel_own, if_pos rfl]
  · rw [clearChannel_own, if_neg hcd]

theorem clearChannels_empty (h : ∀ d : Chan, s.own[d].base.priority = -1) (d : Chan) : (clearChannels s).own[d].Empty := by
  rw [clearChannels_own]
  exact ⟨h d, rfl, rfl, rfl⟩

theorem resetScenarios_lawful (h : s.LawfulBut none ∅) : ((clearChannels s).mapSlots fun _ => Slot.idle).LawfulBut none ∅ :=
  State.lawful_of_empty (fun d => by rw [State.mapSlots_own]; exact clearChannels_empty (fun d => (h.ordered d).base) d)
    fun n => by rw [State.slot_mapSlots]; rfl

/-! ### Resets and the safe line -/

theorem replicate_empty (d : Chan) : (Vector.replicate 32 Ownership.initial)[d].Empty := by
  rw [Fin.getElem_fin, Vector.getElem_replicate]
  exact .initial

theorem resetUnits_lawful (s : State) : (resetUnits s).LawfulBut none ∅ := by
  refine State.lawful_of_empty (fun d => ?_) fun n => ?_
  · exact replicate_empty d
  · change ((Vector.replicate 8 Slot.idle)[n]).state.placed = false
    rw [Fin.getElem_fin, Vector.getElem_replicate]
    rfl

theorem resetDevice_lawful (s : State) : (resetDevice s).LawfulBut none ∅ := by
  unfold resetDevice
  split_ifs
  · exact (resetUnits_lawful s).raise _
  · exact resetUnits_lawful s

theorem initStart_lawful (s : State) : (initStart s).LawfulBut none ∅ := by
  refine State.lawful_of_empty (fun d => ?_) fun n => ?_
  · exact replicate_empty d
  · change ((Vector.replicate 8 Slot.idle)[n]).state.placed = false
    rw [Fin.getElem_fin, Vector.getElem_replicate]
    rfl

/-- What the assertion of SAFE_N leaves of a slot (R45). -/
def Slot.aborted (x : Slot) : Slot := if x.state.busy then Slot.idle else x

theorem abortSafe_slot_self (n : SlotNo) (s : State) : (abortSafe n s).slot n = (s.slot n).aborted := by
  unfold abortSafe Slot.aborted
  split_ifs
  · rw [raise_slot, State.slot_setSlot_self]
  · rfl

theorem abortSafe_slot_ne {m n : SlotNo} (h : n ≠ m) (s : State) : (abortSafe n s).slot m = s.slot m := by
  unfold abortSafe
  split_ifs
  · exact State.slot_setSlot_ne _ _ _ _ h
  · rfl

theorem Slot.aborted_state (x : Slot) : x.aborted.state = .idle ∨ x.aborted.state = .faulted := by
  unfold Slot.aborted
  split_ifs with hbusy
  · exact .inl rfl
  · cases hst : x.state with
    | idle => exact .inl rfl
    | faulted => exact .inr rfl
    | armed | waiting | running | suspended => exact absurd (by rw [hst]; rfl) hbusy

theorem safeLine_slot (s : State) (y : SafeLine) (n : SlotNo) : ({ s with safe := y } : State).slot n = s.slot n := rfl
theorem own_slot (s : State) (v : Vector Ownership 32) (n : SlotNo) : ({ s with own := v } : State).slot n = s.slot n := rfl
theorem replay_slot (s : State) (y : ReplayUnit) (n : SlotNo) : ({ s with replay := y } : State).slot n = s.slot n := rfl

theorem startSafeDelivery_places (s : State) : PlacesStand s (startSafeDelivery s) := by
  unfold startSafeDelivery
  split <;> exact .of_eq rfl rfl

theorem assertSafe_slot (s : State) (n : SlotNo) :
    ((assertSafe s).slot n).state = .idle ∨ ((assertSafe s).slot n).state = .faulted := by
  have hfold := foldl_finRange_get (fun s n => abortSafe n s) State.slot (fun _ => ()) (fun _ _ => Slot.aborted)
    (fun s n => abortSafe_slot_self n s) (fun s _ _ h => abortSafe_slot_ne h s) (fun _ _ => rfl) s n
  unfold assertSafe
  simp only
  rw [raise_slot, ((startSafeDelivery_places _).slots n).1, stopTracks, replay_slot, clearAllToPass, own_slot, safeLine_slot,
    hfold]
  exact (s.slot n).aborted_state

theorem clearAllToPass_own (s : State) (d : Chan) :
    (clearAllToPass s).own[d] = { base := Context.standing s.channels.last[d], active := none, stack := [], waiting := [] } := by
  simp [clearAllToPass]

theorem startSafeDelivery_own (s : State) : (startSafeDelivery s).own = s.own := by
  unfold startSafeDelivery
  split <;> rfl

theorem raise_own (e : Event) (s : State) : (raise e s).own = s.own := rfl

theorem stopTracks_own (s : State) : (stopTracks s).own = s.own := by
  unfold stopTracks
  rfl

theorem assertSafe_lawful (s : State) : (assertSafe s).LawfulBut none ∅ := by
  refine State.lawful_of_empty (fun d => ?_) fun n => ?_
  · unfold assertSafe
    simp only
    rw [raise_own, startSafeDelivery_own, stopTracks_own, clearAllToPass_own]
    exact ⟨rfl, rfl, rfl, rfl⟩
  · rcases assertSafe_slot s n with h | h <;> rw [h] <;> rfl

theorem safeLine_places (s : State) (y : SafeLine) : PlacesStand s { s with safe := y } := .of_eq rfl rfl

theorem releaseSafe_lawful (h : s.LawfulBut none ∅) : (releaseSafe s).LawfulBut none ∅ :=
  ((safeLine_places (takeFires s) _).lawful (takeFires_lawful h)).raise _

theorem initEnd_places (s : State) : PlacesStand s (initEnd s) := by
  have hunits : PlacesStand s (initUnits s) := .of_eq rfl rfl
  unfold initEnd
  simp only
  split_ifs
  · exact (hunits.trans (raise_moves _ _).places).trans (raise_moves _ _).places
  · exact hunits.trans (raise_moves _ _).places

/-! ### The upstream link -/

theorem tx_places (s : State) (y : Transmitter) : PlacesStand s { s with tx := y } := .of_eq rfl rfl

theorem choose_places (s : State) : PlacesStand s (choose s) := by
  unfold choose
  split
  · exact .of_eq rfl rfl
  · split_ifs
    · exact .of_eq rfl rfl
    · split <;> exact .of_eq rfl rfl

theorem settleSent_places (f : UpFrame) (s : State) : PlacesStand s (settleSent f s) := by
  unfold settleSent
  split
  · simp only
    split_ifs
    · exact (tx_places s _).trans (halfDrained_moves _ _ _).places
    · exact tx_places s _
  · exact .refl s

theorem rx_places (s : State) (y : Receiver) : PlacesStand s { s with rx := y } := .of_eq rfl rfl

theorem lookAtPort_places (s : State) : PlacesStand s (lookAtPort s) := by
  unfold lookAtPort
  split <;> exact .of_eq rfl rfl

theorem captures_places (s : State) (v : Vector CaptureSet 2) : PlacesStand s { s with capture := v } := .of_eq rfl rfl

theorem bank_places (s : State) (v : Vector OverlayRecord 256) : PlacesStand s { s with bank := v } := .of_eq rfl rfl

theorem port_places (s : State) (y : Port) : PlacesStand s { s with port := y } := .of_eq rfl rfl

theorem holdReset_places (s : State) : PlacesStand s (holdReset s) := .of_eq rfl rfl

/-- Serving a request keeps the law. -/
theorem Served.lawful (h : Served s t) (hs : s.LawfulBut none ∅) : t.LawfulBut none ∅ := by
  cases h with
  | same => exact hs
  | channels i rs => exact putChannels_lawful hs i rs
  | overlays i rs => exact (bank_places s _).lawful hs
  | slotMap | memory | views | hits | counter | rearm | play | stop | events | blocks | entries =>
    exact hs.congr_eq rfl fun _ => rfl
  | tracks => exact (tracks_places s _).lawful hs
  | captures => exact (captures_places s _).lawful hs
  | watches i rs => exact putWatches_lawful hs i rs
  | setup x => exact (putSetup_places x s).lawful hs
  | standing c o => exact installBase_lawful hs c _
  | patch c f v => exact (patchChannel_places c f v s).lawful hs
  | look => exact (lookAtPort_places s).lawful hs
  | arm n b _ hidle => exact (armSlot_lawful (hs.insert (by rw [hidle]; rfl)) (Set.notMem_empty n) b _).1
  | abort n => exact (leaveChannel_lawful hs n).settle_slot rfl
  | clear n hfaulted => exact (hs.insert (by rw [hfaulted]; rfl)).settle_slot rfl
  | resetScenarios => exact resetScenarios_lawful hs
  | append u vs _ _ hmoves => exact ((feedRing_places u vs s).trans hmoves.places).lawful hs
  | armCapture k => exact (armCapture_moves k s).places.lawful hs
  | stopCapture k => exact (stopRequested_moves k s).places.lawful hs
  | device => exact resetDevice_lawful s

/-- Every effect of a command keeps the law. -/
theorem Effect.lawful (h : Effect s t) (hs : s.LawfulBut none ∅) : t.LawfulBut none ∅ := by
  cases h with
  | same => exact hs
  | word | start | fill => exact (rx_places s _).lawful hs
  | discard f => exact ((rx_places s _).trans (advance_moves _ _ _).places).lawful hs
  | counted i => exact ((rx_places s _).trans (advance_moves _ _ _).places).lawful hs
  | sample us o f => exact takeSample_lawful us o f ((rx_places s _).lawful hs)
  | served r st data u _ hu => exact (tx_places u _).lawful (hu.lawful ((rx_places s _).lawful hs))
  | tick o y => exact tick_lawful o ((timer_places s y).lawful hs)
  | delivered d => exact (port_places s _).lawful hs
  | live => exact (flowLive_moves s).places.lawful hs
  | starved y => exact ((timer_places s y).trans (starved_moves _).places).lawful hs
  | spanEnd u => exact (spanEnd_moves u s).places.lawful hs
  | fire w => exact takeFire_lawful hs w
  | delay n _ hdue => exact delayExpiry_lawful hs hdue
  | duration n _ hdue => exact entryExpiry_lawful hs hdue
  | record k => exact (recordDue_moves k s).places.lawful hs
  | length k => exact (lengthReached_moves k s).places.lawful hs
  | choose => exact (choose_places s).lawful hs
  | sent f => exact ((settleSent_places f s).trans (choose_places _)).lawful hs
  | held => exact (holdReset_places s).lawful hs
  | init => exact initStart_lawful s
  | ready => exact (initEnd_places s).lawful hs
  | safe => exact assertSafe_lawful _
  | low b => exact (safeLine_places s _).lawful hs
  | release => exact releaseSafe_lawful hs

end

/-- Settles O58: every claim, release, withdrawal and fetch moves slots between places so that slots and places agree, and leaves
each channel in order and quiet. -/
theorem stepKeepsOwnershipLawful : Obligations.StepKeepsOwnershipLawful := by
  intro s t h hstep
  refine State.ownershipLawful_iff.2 (step_keeps (P := fun s => s.LawfulBut none ∅) (fun _ _ h => h.congr_eq rfl fun _ => rfl)
    (fun _ _ h he => he.lawful h) (State.ownershipLawful_iff.1 h) hstep)

end Sys2Proof.Machine
end

section
/-! While SAFE_N is asserted no slot is busy (O56): where no slot is busy, nothing but ARM SLOT makes one busy, and the safe line
refuses that. -/

namespace Sys2Proof.Machine

/-- No slot is busy. -/
def State.Calm (s : State) : Prop := ∀ n, (s.slot n).state.busy = false

/-- The phase and the safe line stand, and slots that are not busy stay so. -/
structure CalmKept (s t : State) : Prop where
  phase : t.phase = s.phase
  safe : t.safe = s.safe
  calm : s.Calm → t.Calm

section
variable {s t u : State}

namespace CalmKept

theorem refl (s : State) : CalmKept s s := ⟨rfl, rfl, id⟩

theorem trans (h : CalmKept s t) (k : CalmKept t u) : CalmKept s u :=
  ⟨k.phase.trans h.phase, k.safe.trans h.safe, k.calm ∘ h.calm⟩

theorem foldl {β : Type} (f : State → β → State) (h : ∀ s b, CalmKept s (f s b)) (l : List β) (s : State) :
    CalmKept s (l.foldl f s) :=
  foldl_moves CalmKept .refl (fun _ _ _ => .trans) f h l s

theorem holds (h : CalmKept s t) (hs : s.SafeLineHolds) : t.SafeLineHolds := fun hsafe =>
  h.calm (hs (by rwa [h.phase, h.safe] at hsafe))

theorem of_places (h : PlacesStand s t) (hphase : t.phase = s.phase) (hsafe : t.safe = s.safe) : CalmKept s t :=
  ⟨hphase, hsafe, fun hs n => by rw [(h.slots n).1]; exact hs n⟩

/-- A slot comes to a state that is not busy. -/
theorem setSlot (n : SlotNo) {x : Slot} (hx : x.state.busy = false) : CalmKept s (s.setSlot n x) := by
  refine ⟨rfl, rfl, fun hs m => ?_⟩
  rw [State.slot_setSlot]
  split_ifs
  · exact hx
  · exact hs m

end CalmKept

theorem EventsMoved.calmKept (h : EventsMoved s t) : CalmKept s t := .of_places h.places h.phase h.safe
theorem CaptureMoved.calmKept (h : CaptureMoved s t) : CalmKept s t := .of_places h.places h.phase h.safe
theorem FlowMoved.calmKept (h : FlowMoved s t) : CalmKept s t := .of_places h.places h.phase h.safe
theorem PortMoved.calmKept (h : PortMoved s t) : CalmKept s t := .of_places h.places h.phase h.safe
theorem TracksMoved.calmKept (h : TracksMoved s t) : CalmKept s t := .of_places h.places h.phase h.safe

section
variable (s : State)

theorem rx_calmKept (y : Receiver) : CalmKept s { s with rx := y } := ⟨rfl, rfl, id⟩
theorem tx_calmKept (y : Transmitter) : CalmKept s { s with tx := y } := ⟨rfl, rfl, id⟩
theorem timer_calmKept (y : FrameTimer) : CalmKept s { s with timer := y } := ⟨rfl, rfl, id⟩
theorem records_calmKept (y : ChannelTable) : CalmKept s { s with channels := y } := ⟨rfl, rfl, id⟩
theorem bank_calmKept (y : Vector OverlayRecord 256) : CalmKept s { s with bank := y } := ⟨rfl, rfl, id⟩
theorem watch_calmKept (y : WatchUnit) : CalmKept s { s with watch := y } := ⟨rfl, rfl, id⟩
theorem replay_calmKept (y : ReplayUnit) : CalmKept s { s with replay := y } := ⟨rfl, rfl, id⟩
theorem captures_calmKept (y : Vector CaptureSet 2) : CalmKept s { s with capture := y } := ⟨rfl, rfl, id⟩
theorem port_calmKept (y : Port) : CalmKept s { s with port := y } := ⟨rfl, rfl, id⟩
theorem look_calmKept (y : Port) (k : Nat) : CalmKept s { s with port := y, freeIx := k } := ⟨rfl, rfl, id⟩

end

/-! ### Nothing acts -/

theorem State.Calm.idle_or_faulted (h : s.Calm) (n : SlotNo) : (s.slot n).state = .idle ∨ (s.slot n).state = .faulted := by
  have hn := h n
  cases hst : (s.slot n).state with
  | idle => exact .inl rfl
  | faulted => exact .inr rfl
  | armed | waiting | running | suspended =>
    rw [hst] at hn
    cases hn

theorem State.Calm.not_entryDue (h : s.Calm) (n : SlotNo) : (s.slot n).entryDue = false := by
  rw [Bool.eq_false_iff]
  intro hdue
  have := h n
  rw [Slot.entryDue_running hdue] at this
  cases this

theorem State.Calm.not_delayDue (h : s.Calm) (n : SlotNo) : (s.slot n).delayDue = false := by
  rw [Bool.eq_false_iff]
  intro hdue
  have := h n
  rw [Slot.delayDue_armed hdue] at this
  cases this

theorem State.Calm.not_hears (h : s.Calm) (w : WatchNo) (n : SlotNo) : (s.slot n).hears w = false := by
  rw [Bool.eq_false_iff]
  intro hhears
  have := h n
  rcases Slot.hears_state hhears with hst | hst <;> rw [hst] at this <;> cases this

/-- Where no slot is busy, the Scenario Unit's event of a tick is the count alone. -/
theorem State.Calm.scenarioTick (h : s.Calm) : scenarioTick s = countSlots s := by
  have hends : entriesDue s = [] := List.eq_nil_iff_forall_not_mem.2 fun n hn => by
    rw [mem_entriesDue, h.not_entryDue] at hn
    cases hn
  have hclaims : delaysDue s = [] := List.eq_nil_iff_forall_not_mem.2 fun n hn => by
    rw [mem_delaysDue, h.not_delayDue] at hn
    cases hn
  rw [Machine.scenarioTick, hends, hclaims]
  rfl

/-- Where no slot is busy, no slot hears a fire. -/
theorem State.Calm.fireSlots (h : s.Calm) (w : WatchNo) : fireSlots w s = s := by
  refine foldl_id _ _ _ fun n => ?_
  rw [h.not_hears, Bool.false_and, if_neg Bool.false_ne_true]

theorem scenarioTick_calmKept (s : State) : CalmKept s (scenarioTick s) := by
  have hmoved := scenarioTick_scenario s
  refine ⟨hmoved.phase, hmoved.safe, fun h => ?_⟩
  rw [h.scenarioTick]
  exact (CalmKept.of_places (countSlots_places s) rfl rfl).calm h

theorem takeFire_calmKept (w : WatchNo) (s : State) : CalmKept s (takeFire w s) := by
  refine ⟨(takeFire_fire w s).phase, (takeFire_fire w s).safe, fun h => ?_⟩
  unfold takeFire
  split
  · rename_i v _
    have hnoted : (noteFire w v s).Calm := fun n => by rw [((noteFire_places w v s).slots n).1]; exact h n
    rw [hnoted.fireSlots]
    exact (fireCaptures_moves w _).calmKept.calm hnoted
  · exact h

theorem takeFires_calmKept (s : State) : CalmKept s (takeFires s) := .foldl _ (fun s w => takeFire_calmKept w s) _ _

theorem tick_calmKept (o : CountOrder) (s : State) : CalmKept s (tick o s) := by
  obtain ⟨-, -, -, -, -, -, hsafe, -, -, -, -, -, -, hphase, -⟩ := tick_keeps o s
  refine ⟨hphase, hsafe, fun h => ?_⟩
  have hclosed : CalmKept s (closeTick s) := (scenarioTick_calmKept s).trans (takeFires_calmKept _)
  have hjudged : CalmKept (closeTick s) s.judged :=
    (((clearPort_moves _).calmKept.trans (timer_calmKept _ _)).trans (judge_moves _).calmKept).trans
      (tracksTick_moves _).calmKept
  have hcore : (tickCore s).Calm := fun n => by
    rw [tickCore_eq, ((deliverTick_places _).slots n).1]
    exact (hclosed.trans hjudged).calm h n
  cases o with
  | countFirst => exact (scenarioTick_calmKept _).calm hcore
  | eventsFirst => exact hcore

theorem takeSample_calmKept (us : Nat) (o : CountOrder) (f : SampleFrame) (s : State) : CalmKept s (takeSample us o f s) := by
  rcases takeSample_cases us o f s with hs | hs <;> rw [hs]
  · exact (advance_moves _ _ _).calmKept
  · have haccepted : CalmKept s (s.accepting f) :=
      .of_places (accepting_places f s) (by have := accepting_moves f s; unfold AcceptMoved at this; rw [this])
        (accepting_moves f s).safe
    have htimer (y : FrameTimer) : CalmKept (s.accepting f) { s.accepting f with timer := y } :=
      timer_calmKept _ y
    rcases askTick_cases us o (s.accepting f) with ⟨y, hy⟩ | ⟨y, hy⟩ <;> rw [hy]
    · exact haccepted.trans (htimer y)
    · exact (haccepted.trans (htimer y)).trans (tick_calmKept o _)

/-! ### Requests -/

theorem Slot.offChannel_busy (c : Chan) {x : Slot} (hx : x.state.busy = false) : (x.offChannel c).state.busy = false := by
  rw [Slot.offChannel, hx, Bool.false_and, if_neg Bool.false_ne_true]
  exact hx

theorem disableChannel_calmKept (c : Chan) (s : State) : CalmKept s (disableChannel c s) :=
  ⟨(disableChannel_scenario c s).phase, (disableChannel_scenario c s).safe,
    fun h n => by rw [disableChannel_slot]; exact Slot.offChannel_busy c (h n)⟩

theorem putChannels_calmKept (i : Nat) (rs : List ChannelRecord) (s : State) : CalmKept s (putChannels i rs s) := by
  unfold putChannels
  refine CalmKept.trans (records_calmKept s _) (.foldl _ (fun t c => ?_) _ _)
  split_ifs
  · exact disableChannel_calmKept c t
  · exact .refl t

theorem putWatches_calmKept (i : Nat) (rs : List WatchRecord) (s : State) : CalmKept s (putWatches i rs s) := by
  have hfires : CalmKept s (takeFiresOf i rs.length s) := .foldl _ (fun t w => by
    split_ifs
    · exact takeFire_calmKept w t
    · exact .refl t) _ _
  unfold putWatches
  exact hfires.trans (watch_calmKept _ _)

theorem putSetup_calmKept (x : Setup) (s : State) : CalmKept s (putSetup x s) := by
  refine .of_places (putSetup_places x s) ?_ ?_ <;>
  · unfold putSetup
    simp only
    split_ifs <;> rfl

/-- A slot that is not busy has no place to leave. -/
theorem leaveChannel_of_not_busy {n : SlotNo} (h : (s.slot n).state = .idle ∨ (s.slot n).state = .faulted) :
    leaveChannel n s = s := by
  rcases h with h | h <;> simp only [leaveChannel, h]

theorem abort_calmKept (n : SlotNo) (s : State) : CalmKept s ((leaveChannel n s).setSlot n Slot.idle) := by
  have hmoved := leaveChannel_scenario n s
  refine ⟨hmoved.phase, hmoved.safe, fun h => ?_⟩
  rw [leaveChannel_of_not_busy (h.idle_or_faulted n)]
  exact (CalmKept.setSlot n rfl).calm h

theorem resetScenarios_calmKept (s : State) : CalmKept s ((clearChannels s).mapSlots fun _ => Slot.idle) :=
  ⟨(clearChannels_scenario s).phase, (clearChannels_scenario s).safe, fun _ n => by rw [State.slot_mapSlots]; rfl⟩

theorem resetDevice_calmKept (s : State) : CalmKept s (resetDevice s) := by
  have hunits : CalmKept s (resetUnits s) := ⟨rfl, rfl, fun _ n => by
    change ((Vector.replicate 8 Slot.idle)[n]).state.busy = false
    rw [Fin.getElem_fin, Vector.getElem_replicate]
    rfl⟩
  unfold resetDevice
  split_ifs
  · exact hunits.trans (raise_moves _ _).calmKept
  · exact hunits

theorem setOwn_calmKept (c : Chan) (o : Ownership) (s : State) : CalmKept s (s.setOwn c o) := ⟨rfl, rfl, id⟩

/-- Serving a request keeps the law; ARM SLOT is served only while SAFE_N is not asserted. -/
theorem Served.safeLineHolds (h : Served s t) (hrun : s.phase = .running) (hs : s.SafeLineHolds) : t.SafeLineHolds := by
  cases h with
  | same => exact hs
  | channels i rs => exact (putChannels_calmKept i rs s).holds hs
  | overlays i rs => exact (bank_calmKept s _).holds hs
  | tracks => exact (replay_calmKept s _).holds hs
  | captures => exact (captures_calmKept s _).holds hs
  | slotMap | memory | views | hits | counter | rearm | play | stop | events | blocks | entries => exact hs
  | watches i rs => exact (putWatches_calmKept i rs s).holds hs
  | setup x => exact (putSetup_calmKept x s).holds hs
  | standing c o => exact (setOwn_calmKept _ _ s).holds hs
  | patch c f v => exact (setOwn_calmKept _ _ s).holds hs
  | look =>
    refine CalmKept.holds ?_ hs
    unfold lookAtPort
    split
    · exact look_calmKept s _ _
    · exact .refl s
  | arm n b hsafe =>
    have hmoved := armSlot_scenario n b (s.block b) s
    intro hline
    rw [hmoved.safe, hmoved.phase, hsafe, hrun] at hline
    rcases hline with h | h <;> cases h
  | abort n => exact (abort_calmKept n s).holds hs
  | clear n => exact (CalmKept.setSlot n rfl).holds hs
  | resetScenarios => exact (resetScenarios_calmKept s).holds hs
  | append u vs _ _ hmoves =>
    have hfed : CalmKept s (feedRing u vs s) := by
      rw [feedRing_moves]
      exact replay_calmKept s _
    exact (hfed.trans hmoves.calmKept).holds hs
  | armCapture k => exact (armCapture_moves k s).calmKept.holds hs
  | stopCapture k => exact (stopRequested_moves k s).calmKept.holds hs
  | device => exact (resetDevice_calmKept s).holds hs

/-! ### Resets and the safe line -/

theorem assertSafe_calm (s : State) : (assertSafe s).Calm := fun n => by
  rcases assertSafe_slot s n with h | h <;> rw [h] <;> rfl

theorem choose_calmKept (s : State) : CalmKept s (choose s) := by
  unfold choose
  split
  · exact tx_calmKept s _
  · split_ifs
    · exact tx_calmKept s _
    · split <;> exact tx_calmKept s _

theorem settleSent_calmKept (f : UpFrame) (s : State) : CalmKept s (settleSent f s) := by
  unfold settleSent
  split
  · simp only
    split_ifs
    · exact (tx_calmKept s _).trans (halfDrained_moves _ _ _).calmKept
    · exact tx_calmKept s _
  · exact .refl s

theorem discardFrame_calmKept (f : Framing) (s : State) : CalmKept s (discardFrame f s) :=
  (rx_calmKept s _).trans (advance_moves _ _ _).calmKept

/-- At the end of INIT the line is judged over slots that are IDLE. -/
theorem initEnd_safeLineHolds (hinit : s.phase = .init) (hs : s.SafeLineHolds) : (initEnd s).SafeLineHolds := fun _ n => by
  rw [((initEnd_places s).slots n).1]
  exact hs (.inr hinit) n

theorem safeLine_phase (s : State) (y : SafeLine) : ({ s with safe := y } : State).phase = s.phase := rfl

theorem releaseSafe_phase (s : State) : (releaseSafe s).phase = s.phase := by
  rw [releaseSafe, (raise_moves _ _).phase, safeLine_phase, (takeFires_fire s).phase]

/-- Every effect of a command keeps the law. -/
theorem Effect.safeLineHolds (h : Effect s t) (hs : s.SafeLineHolds) : t.SafeLineHolds := by
  cases h with
  | same => exact hs
  | word | start | fill => exact (rx_calmKept s _).holds hs
  | discard f => exact (discardFrame_calmKept f s).holds hs
  | counted i =>
    exact ((rx_calmKept s _).trans (advance_moves _ _ _).calmKept).holds hs
  | sample us o f => exact (takeSample_calmKept us o f s.toHunt).holds hs
  | served r st data u hserves hu => exact hu.safeLineHolds hserves.running hs
  | tick o y => exact (CalmKept.trans (timer_calmKept s y) (tick_calmKept o _)).holds hs
  | delivered d => exact (port_calmKept s _).holds hs
  | live => exact (flowLive_moves s).calmKept.holds hs
  | starved y => exact (CalmKept.trans (timer_calmKept s y) (starved_moves _).calmKept).holds hs
  | spanEnd u => exact (spanEnd_moves u s).calmKept.holds hs
  | fire w => exact (takeFire_calmKept w s).holds hs
  | delay n hrun hdue =>
    have hmoved := ((countSlots_scenario s).trans (claim_scenario n _)).trans
      (actSlots_scenario (entriesDue s) ((delaysDue s).erase n) _)
    intro hline
    rw [hmoved.safe, hmoved.phase] at hline
    rw [State.Calm.not_delayDue (hs hline)] at hdue
    cases hdue
  | duration n hrun hdue =>
    have hmoved := (countSlots_scenario s).trans (actSlots_scenario (n :: (entriesDue s).erase n) (delaysDue s) _)
    intro hline
    rw [hmoved.safe, hmoved.phase] at hline
    rw [State.Calm.not_entryDue (hs hline)] at hdue
    cases hdue
  | record k => exact (recordDue_moves k s).calmKept.holds hs
  | length k => exact (lengthReached_moves k s).calmKept.holds hs
  | choose => exact (choose_calmKept s).holds hs
  | sent f => exact ((settleSent_calmKept f s).trans (choose_calmKept _)).holds hs
  | held => exact fun hline => hs (.inl (hline.resolve_right nofun))
  | init =>
    exact fun _ n => by
      change ((Vector.replicate 8 Slot.idle)[n]).state.busy = false
      rw [Fin.getElem_fin, Vector.getElem_replicate]
      rfl
  | ready hinit => exact initEnd_safeLineHolds hinit hs
  | safe => exact fun _ => assertSafe_calm _
  | low b => exact hs
  | release hrun =>
    intro hline
    rcases hline with h | h
    · cases h
    · rw [releaseSafe_phase, hrun] at h
      cases h

end

/-- Settles O56: under SAFE_N nothing is armed, so no delay, entry or fire finds a slot to act on. -/
theorem stepKeepsSlotsQuietUnderSafe : Obligations.StepKeepsSlotsQuietUnderSafe :=
  fun _ _ _ => step_keeps (fun _ _ h => h) fun _ _ h he => he.safeLineHolds h

end Sys2Proof.Machine
end

section
/-! Capture sets and the drain queue (chapter 9, 1.4): the queue lists the FULL halves, and each operation on a set says what becomes
of its halves. -/

namespace Sys2Proof.Machine

/-! ### The drain queue and the FULL halves -/

/-- The records of a half that is FULL. -/
def Half.queued (y : Half) : Option Nat := if y.state = .full then some y.records.length else none

theorem Half.queued_of_full {y : Half} (h : y.state = .full) : y.queued = some y.records.length := if_pos h

theorem Half.queued_of_not_full {y : Half} (h : y.state ≠ .full) : y.queued = none := if_neg h

theorem Half.queued_emptied (y : Half) : y.emptied.queued = none := rfl

theorem Half.queued_opened (y : Half) : y.opened.queued = none := rfl

/-- The half an entry of the queue stands for. -/
def DrainEntry.key (e : DrainEntry) : SetNo × HalfName := (e.set, e.half)

/-- The queue holds once each half that is queued, with records still to send. -/
structure QueueLegal (f : SetNo → HalfName → Option Nat) (q : List DrainEntry) : Prop where
  nodup : (q.map DrainEntry.key).Nodup
  holds : ∀ k h, (f k h).isSome ↔ (k, h) ∈ q.map DrainEntry.key
  sent : ∀ e ∈ q, ∀ n, f e.set e.half = some n → e.sent < n

theorem State.drainLegal_iff {s : State} :
    s.DrainLegal ↔ QueueLegal (fun k h => (s.capture[k].half h).queued) s.tx.drain := by
  have hfull (k : SetNo) (h : HalfName) :
      ((s.capture[k].half h).queued).isSome = true ↔ (s.capture[k].half h).state = .full := by
    unfold Half.queued
    split_ifs with hst
    · exact iff_of_true rfl hst
    · exact iff_of_false nofun hst
  constructor
  · rintro ⟨hnodup, hholds, hsent⟩
    refine ⟨hnodup, fun k h => (hfull k h).trans (hholds k h), fun e he n hn => ?_⟩
    have hst : (s.capture[e.set].half e.half).state = .full := (hholds e.set e.half).2 (List.mem_map_of_mem (f := DrainEntry.key) he)
    rw [Half.queued_of_full hst] at hn
    exact Option.some.inj hn ▸ hsent e he
  · rintro ⟨hnodup, hholds, hsent⟩
    refine ⟨hnodup, fun k h => (hfull k h).symm.trans (hholds k h), fun e he => ?_⟩
    have hst : (s.capture[e.set].half e.half).state = .full :=
      (hfull _ _).1 ((hholds e.set e.half).2 (List.mem_map_of_mem he))
    exact hsent e he _ (Half.queued_of_full hst)

namespace QueueLegal

variable {f g : SetNo → HalfName → Option Nat} {q : List DrainEntry} {k : SetNo} {h : HalfName}

theorem congr (hq : QueueLegal f q) (hfg : ∀ k h, g k h = f k h) : QueueLegal g q := by
  have : g = f := funext fun k => funext fun h => hfg k h
  exact this ▸ hq

/-- A half that turns FULL joins the tail. -/
theorem push (hq : QueueLegal f q) (hk : f k h = none) {n : Nat} (hn : 0 < n) (hg : g k h = some n)
    (hother : ∀ k' h', (k', h') ≠ (k, h) → g k' h' = f k' h') :
    QueueLegal g (q ++ [{ set := k, half := h, sent := 0 }]) := by
  have hnew : (k, h) ∉ q.map DrainEntry.key := fun hmem => by simpa [hk] using (hq.holds k h).2 hmem
  refine ⟨?_, fun k' h' => ?_, fun e he m hm => ?_⟩
  · rw [List.map_append, List.map_singleton, List.nodup_append]
    refine ⟨hq.nodup, List.nodup_singleton _, fun a ha b hb => ?_⟩
    rw [List.mem_singleton.1 hb]
    rintro rfl
    exact hnew ha
  · rw [List.map_append, List.map_singleton, List.mem_append, List.mem_singleton]
    by_cases heq : (k', h') = (k, h)
    · cases heq
      simp [hg, DrainEntry.key]
    · rw [hother k' h' heq, hq.holds k' h']
      exact (or_iff_left fun hkey => heq hkey).symm
  · rcases List.mem_append.1 he with he | he
    · have hne : (e.set, e.half) ≠ (k, h) := fun heq => hnew (heq ▸ List.mem_map_of_mem (f := DrainEntry.key) he)
      rw [hother _ _ hne] at hm
      exact hq.sent e he m hm
    · obtain rfl := List.mem_singleton.1 he
      rw [hg] at hm
      exact Option.some.inj hm ▸ hn

/-- The head half leaves the queue, FULL no more. -/
theorem pop {e : DrainEntry} (hq : QueueLegal f (e :: q)) (hg : g e.set e.half = none)
    (hother : ∀ k' h', (k', h') ≠ e.key → g k' h' = f k' h') : QueueLegal g q := by
  have hnodup := hq.nodup
  rw [List.map_cons, List.nodup_cons] at hnodup
  refine ⟨hnodup.2, fun k' h' => ?_, fun d hd m hm => ?_⟩
  · by_cases heq : (k', h') = e.key
    · obtain ⟨rfl, rfl⟩ : k' = e.set ∧ h' = e.half := by
        rw [DrainEntry.key] at heq
        exact Prod.mk.inj heq
      rw [hg]
      exact ⟨nofun, fun hmem => absurd hmem hnodup.1⟩
    · rw [hother k' h' heq, hq.holds k' h', List.map_cons, List.mem_cons]
      exact or_iff_right heq
  · have hne : (d.set, d.half) ≠ e.key := fun heq => hnodup.1 (heq ▸ List.mem_map_of_mem (f := DrainEntry.key) hd)
    rw [hother _ _ hne] at hm
    exact hq.sent d (List.mem_cons_of_mem e hd) m hm

/-- The head half has sent more of its records, and not all. -/
theorem advance {e : DrainEntry} (hq : QueueLegal f (e :: q)) {m : Nat} (hm : ∀ n, f e.set e.half = some n → m < n) :
    QueueLegal f ({ e with sent := m } :: q) := by
  refine ⟨hq.nodup, hq.holds, fun d hd n hn => ?_⟩
  rcases List.mem_cons.1 hd with rfl | hd
  · exact hm n hn
  · exact hq.sent d (List.mem_cons_of_mem e hd) n hn

end QueueLegal

/-! ### The halves of a set -/

section
variable {x : CaptureSet} {h : HalfName} {y : Half}

theorem HalfName.other_ne (h : HalfName) : h.other ≠ h := by cases h <;> nofun

theorem HalfName.eq_or_other (h h' : HalfName) : h' = h ∨ h' = h.other := by
  cases h <;> cases h' <;> first | exact .inl rfl | exact .inr rfl

@[simp] theorem HalfName.other_other (h : HalfName) : h.other.other = h := by cases h <;> rfl

theorem CaptureSet.half_setHalf_ne {h' : HalfName} (hne : h' ≠ h) : (x.setHalf h y).half h' = x.half h' := by
  rcases HalfName.eq_or_other h h' with rfl | rfl
  · exact absurd rfl hne
  · exact CaptureSet.half_setHalf_other x h y

@[simp] theorem CaptureSet.setHalf_state : (x.setHalf h y).state = x.state := by cases h <;> rfl
@[simp] theorem CaptureSet.setHalf_record : (x.setHalf h y).record = x.record := by cases h <;> rfl
@[simp] theorem CaptureSet.setHalf_due : (x.setHalf h y).due = x.due := by cases h <;> rfl

@[simp] theorem CaptureSet.consume_half (x : CaptureSet) (h : HalfName) : x.consume.half h = x.half h := by cases h <;> rfl
@[simp] theorem CaptureSet.consume_state (x : CaptureSet) : x.consume.state = x.state := rfl
@[simp] theorem CaptureSet.consume_record (x : CaptureSet) : x.consume.record = x.record := rfl
@[simp] theorem CaptureSet.consume_due (x : CaptureSet) : x.consume.due = none := rfl

/-- Where a set has its FILLING half. -/
theorem CaptureSet.filling?_eq_some (hf : x.filling? = some h) : (x.half h).state = .filling := by
  unfold CaptureSet.filling? at hf
  split_ifs at hf with ha hb <;> cases hf
  · exact ha
  · exact hb

theorem CaptureSet.StateLegal.of_idle_or_armed (hx : x.StateLegal) (hst : x.state = .idle ∨ x.state = .armed) (h : HalfName) :
    (x.half h).state = .vacant := by
  unfold CaptureSet.StateLegal at hx
  rcases hst with hst | hst <;> rw [hst] at hx <;> cases h
  · exact hx.1
  · exact hx.2
  · exact hx.1
  · exact hx.2

theorem CaptureSet.StateLegal.of_recording (hx : x.StateLegal) (hst : x.state = .recording) :
    ∃ h, (x.half h).state = .filling ∧ (x.half h.other).state ≠ .filling := by
  unfold CaptureSet.StateLegal at hx
  rw [hst] at hx
  rcases hx with hx | hx
  · exact ⟨.a, hx⟩
  · exact ⟨.b, hx⟩

theorem CaptureSet.StateLegal.of_overrun (hx : x.StateLegal) (hst : x.state = .overrun) (h : HalfName) :
    (x.half h).state = .full := by
  unfold CaptureSet.StateLegal at hx
  rw [hst] at hx
  cases h
  · exact hx.1
  · exact hx.2

theorem CaptureSet.StateLegal.of_draining (hx : x.StateLegal) (hst : x.state = .draining) :
    (∀ h, (x.half h).state ≠ .filling) ∧ ∃ h, (x.half h).state = .full := by
  unfold CaptureSet.StateLegal at hx
  rw [hst] at hx
  obtain ⟨ha, hb, hfull⟩ := hx
  refine ⟨fun h => by cases h <;> assumption, ?_⟩
  rcases hfull with hfull | hfull
  · exact ⟨.a, hfull⟩
  · exact ⟨.b, hfull⟩

theorem CaptureSet.stateLegal_idle (hst : x.state = .idle ∨ x.state = .armed) (hx : ∀ h, (x.half h).state = .vacant) :
    x.StateLegal := by
  unfold CaptureSet.StateLegal
  rcases hst with hst | hst <;> rw [hst] <;> exact ⟨hx .a, hx .b⟩

theorem CaptureSet.stateLegal_recording (hst : x.state = .recording) (hf : (x.half h).state = .filling)
    (ho : (x.half h.other).state ≠ .filling) : x.StateLegal := by
  unfold CaptureSet.StateLegal
  rw [hst]
  cases h with
  | a => exact .inl ⟨hf, ho⟩
  | b => exact .inr ⟨hf, ho⟩

theorem CaptureSet.stateLegal_overrun (hst : x.state = .overrun) (hx : ∀ h, (x.half h).state = .full) : x.StateLegal := by
  unfold CaptureSet.StateLegal
  rw [hst]
  exact ⟨hx .a, hx .b⟩

theorem CaptureSet.stateLegal_draining (hst : x.state = .draining) (hn : ∀ h, (x.half h).state ≠ .filling)
    (hf : (x.half h).state = .full) : x.StateLegal := by
  unfold CaptureSet.StateLegal
  rw [hst]
  refine ⟨hn .a, hn .b, ?_⟩
  cases h with
  | a => exact .inl hf
  | b => exact .inr hf

/-- A half whose last record may have filled it. -/
def Half.Near (room : Nat) (y : Half) : Prop :=
  match y.state with
  | .vacant => y.records = []
  | .filling => y.records.length ≤ room
  | .full => y.records ≠ [] ∧ y.records.length ≤ room

theorem Half.Legal.near {room : Nat} (hy : y.Legal room) : y.Near room := by
  unfold Half.Legal at hy
  unfold Half.Near
  cases hst : y.state <;> rw [hst] at hy
  · exact hy
  · exact hy.le
  · exact hy

theorem Half.Near.legal {room : Nat} (hy : y.Near room) (hf : y.state = .filling → y.records.length < room) : y.Legal room := by
  unfold Half.Near at hy
  unfold Half.Legal
  cases hst : y.state <;> rw [hst] at hy
  · exact hy
  · exact hf hst
  · exact hy

theorem Half.Legal.of_filling {room : Nat} (hy : y.Legal room) (hst : y.state = .filling) : y.records.length < room := by
  unfold Half.Legal at hy
  rwa [hst] at hy

theorem Half.Near.of_filling {room : Nat} (hy : y.Near room) (hst : y.state = .filling) : y.records.length ≤ room := by
  unfold Half.Near at hy
  rwa [hst] at hy

theorem Half.legal_emptied (room : Nat) (y : Half) : y.emptied.Legal room := rfl

theorem Half.legal_opened {room : Nat} (hr : 0 < room) (y : Half) : y.opened.Legal room := hr

theorem Half.legal_filled {room : Nat} (hn : y.records ≠ []) (hl : y.records.length ≤ room) : y.filled.Legal room := ⟨hn, hl⟩

/-- A set as it stands with a record taken and the half's turn, or the set's stop, still to come. -/
structure CaptureSet.Sound (x : CaptureSet) : Prop where
  channels : 1 ≤ x.record.channels ∧ x.record.channels ≤ 8
  state : x.StateLegal
  halves : ∀ h, (x.half h).Near x.record.room

theorem CaptureSet.legal_iff :
    x.Legal ↔ (1 ≤ x.record.channels ∧ x.record.channels ≤ 8) ∧ x.StateLegal ∧ (∀ h, (x.half h).Legal x.record.room)
      ∧ x.due = none := by
  constructor
  · rintro ⟨hc, hst, ha, hb, hd⟩
    exact ⟨hc, hst, fun h => by cases h <;> assumption, hd⟩
  · rintro ⟨hc, hst, hh, hd⟩
    exact ⟨hc, hst, hh .a, hh .b, hd⟩

theorem CaptureSet.Legal.sound (hx : x.Legal) : x.Sound := by
  obtain ⟨hc, hst, hh, -⟩ := CaptureSet.legal_iff.1 hx
  exact ⟨hc, hst, fun h => (hh h).near⟩

theorem CaptureSet.Legal.due_none (hx : x.Legal) : x.due = none := (CaptureSet.legal_iff.1 hx).2.2.2

theorem CaptureSet.Legal.halves (hx : x.Legal) (h : HalfName) : (x.half h).Legal x.record.room := (CaptureSet.legal_iff.1 hx).2.2.1 h

theorem CaptureSet.Sound.room_pos (hx : x.Sound) : 0 < x.record.room := by
  obtain ⟨hlo, hhi⟩ := hx.channels
  exact Nat.div_pos (by simp only [Config.halfRoom]; omega) hlo

/-- Without a FILLING half at its room, and with nothing due, a set is as it should be between ticks. -/
theorem CaptureSet.Sound.legal (hx : x.Sound) (hd : x.due = none)
    (hf : ∀ h, (x.half h).state = .filling → (x.half h).records.length < x.record.room) : x.Legal :=
  CaptureSet.legal_iff.2 ⟨hx.channels, hx.state, fun h => (hx.halves h).legal (hf h), hd⟩

end

/-! ### Sets and queue together -/

/-- The Capture Unit and the drain queue agree, in whatever phase. -/
structure State.CapturesAgree (s : State) : Prop where
  sets : ∀ k : SetNo, s.capture[k].Legal
  drain : s.DrainLegal

section
variable {s t : State} {k : SetNo} {x x' : CaptureSet} {h : HalfName}

theorem State.CapturesAgree.congr (hs : s.CapturesAgree) (hc : t.capture = s.capture) (hd : t.tx.drain = s.tx.drain) :
    t.CapturesAgree := by
  refine ⟨fun k => by rw [hc]; exact hs.sets k, ?_⟩
  have := hs.drain
  unfold State.DrainLegal at *
  rwa [hc, hd]

theorem State.capture_setCapture_fin (s : State) (k j : SetNo) (x : CaptureSet) :
    (s.setCapture k x).capture[j] = if k = j then x else s.capture[j] := by
  split_ifs with hkj
  · subst hkj
    exact s.capture_setCapture_self k x
  · exact s.capture_setCapture_ne k j x hkj

/-- What is queued where set k has become `x`. -/
def State.queuedWith (s : State) (k : SetNo) (x : CaptureSet) (j : SetNo) (h : HalfName) : Option Nat :=
  if k = j then (x.half h).queued else (s.capture[j].half h).queued

theorem State.queuedWith_self (s : State) (k : SetNo) (x : CaptureSet) (h : HalfName) : s.queuedWith k x k h = (x.half h).queued :=
  if_pos rfl

/-- The FULL halves of the set are as they were. -/
theorem State.queue_same (hd : s.DrainLegal) (hq : ∀ h, (x'.half h).queued = (s.capture[k].half h).queued) :
    QueueLegal (s.queuedWith k x') s.tx.drain := by
  refine (State.drainLegal_iff.1 hd).congr fun j h => ?_
  unfold State.queuedWith
  split_ifs with hkj
  · exact hkj ▸ hq h
  · rfl

/-- One half of the set has turned FULL. -/
theorem State.queue_filled (hd : s.DrainLegal) (hold : (s.capture[k].half h).state ≠ .full) (hnew : (x'.half h).state = .full)
    (hrec : (x'.half h).records ≠ []) (hother : (x'.half h.other).queued = (s.capture[k].half h.other).queued) :
    QueueLegal (s.queuedWith k x') (s.tx.drain ++ [{ set := k, half := h, sent := 0 }]) := by
  refine (State.drainLegal_iff.1 hd).push (Half.queued_of_not_full hold) (List.length_pos_of_ne_nil hrec)
    (by rw [State.queuedWith_self, Half.queued_of_full hnew]) fun j h' hne => ?_
  unfold State.queuedWith
  split_ifs with hkj
  · subst hkj
    rcases HalfName.eq_or_other h h' with rfl | rfl
    · exact absurd rfl hne
    · exact hother
  · rfl

/-- A set is changed, and the queue with it. -/
theorem State.agree_of_set (hs : ∀ j ≠ k, s.capture[j].Legal) (hx : x'.Legal) (hq : QueueLegal (s.queuedWith k x') t.tx.drain)
    (ht : t.capture = (s.setCapture k x').capture) : t.CapturesAgree := by
  refine ⟨fun j => ?_, State.drainLegal_iff.2 (hq.congr fun j h => ?_)⟩ <;> rw [ht, State.capture_setCapture_fin]
  · split_ifs with hkj
    · exact hx
    · exact hs j (Ne.symm hkj)
  · unfold State.queuedWith
    split_ifs <;> rfl

/-! ### Stopping -/

theorem CaptureSet.active_iff : x.active = true ↔ x.state = .recording ∨ x.state = .overrun := by
  simp [CaptureSet.active]

theorem CaptureSet.active_eq_false : x.active = false ↔ x.state ≠ .recording ∧ x.state ≠ .overrun := by
  rw [← Bool.not_eq_true, CaptureSet.active_iff, not_or]

/-- A set in DRAINING waits, or with nothing FULL any more is done. -/
theorem settleDrain_agree (hs : ∀ j ≠ k, s.capture[j].Legal) (hq : QueueLegal (s.queuedWith k x) s.tx.drain)
    (hst : x.state = .draining) (hc : 1 ≤ x.record.channels ∧ x.record.channels ≤ 8)
    (hh : ∀ h, (x.half h).Legal x.record.room) (hf : ∀ h, (x.half h).state ≠ .filling) (hdue : x.due = none) :
    (settleDrain k (s.setCapture k x)).CapturesAgree := by
  have hset : (s.setCapture k x).capture[k] = x := s.capture_setCapture_self k x
  by_cases hdr : x.drained = true
  · have hnf := (CaptureSet.drained_iff_half x .a).1 hdr
    have hvacant (h : HalfName) : (x.half h).state = .vacant := by
      have hfull : (x.half h).state ≠ .full := by
        rcases HalfName.eq_or_other .a h with rfl | rfl
        · exact hnf.1
        · exact hnf.2
      cases hv : (x.half h).state with
      | vacant => rfl
      | filling => exact absurd hv (hf h)
      | full => exact absurd hv hfull
    rw [settleDrain_of_drained hset hdr, State.setCapture_setCapture]
    have hhalf (h : HalfName) : ({ x with state := .idle } : CaptureSet).half h = x.half h := by cases h <;> rfl
    have hlegal : ({ x with state := .idle } : CaptureSet).Legal :=
      CaptureSet.legal_iff.2 ⟨hc, CaptureSet.stateLegal_idle (.inl rfl) fun h => by rw [hhalf]; exact hvacant h,
        fun h => by rw [hhalf]; exact hh h, hdue⟩
    refine (State.agree_of_set hs hlegal (t := s.setCapture k { x with state := .idle }) (hq.congr fun j h => ?_) rfl).congr rfl
      (raise_moves _ _).tx_drain
    unfold State.queuedWith
    rw [hhalf]
  · have hlegal : x.Legal := by
      refine CaptureSet.legal_iff.2 ⟨hc, ?_, hh, hdue⟩
      rw [CaptureSet.drained_iff_half x .a, not_and_or, not_not, not_not] at hdr
      rcases hdr with hfull | hfull <;> exact CaptureSet.stateLegal_draining hst hf hfull
    rw [settleDrain_of_not_drained hset hdr]
    exact State.agree_of_set hs hlegal hq rfl

/-- A recording set stops (R147). -/
theorem stopCapture_agree (hs : ∀ j ≠ k, s.capture[j].Legal) (hd : s.DrainLegal) (hx : s.capture[k].Sound)
    (ha : s.capture[k].active = true) : (stopCapture k s).CapturesAgree := by
  generalize hxk : s.capture[k] = x at hx ha
  have hhalf (z : CaptureSet) (h : HalfName) : z.stopped.half h = z.half h := CaptureSet.stopped_half z h
  rcases CaptureSet.active_iff.1 ha with hst | hst
  case inl =>
    obtain ⟨h, hf, ho⟩ := hx.state.of_recording hst
    have hfilling := CaptureSet.filling?_of_half _ _ hf ho
    have hother : (x.half h.other).Legal x.record.room := (hx.halves _).legal fun hof => absurd hof ho
    by_cases hr : (x.half h).records = []
    case pos =>
      have hset (h' : HalfName) : (x.setHalf h (x.half h).emptied).stopped.half h' = (x.half h).emptied
          ∨ h' = h.other ∧ (x.setHalf h (x.half h).emptied).stopped.half h' = x.half h.other := by
        rw [hhalf]
        rcases HalfName.eq_or_other h h' with rfl | rfl
        · exact .inl (CaptureSet.half_setHalf_self ..)
        · exact .inr ⟨rfl, CaptureSet.half_setHalf_other ..⟩
      rw [stopCapture_of_no_records hxk ha hfilling hr]
      refine settleDrain_agree hs (State.queue_same hd fun h' => ?_) rfl ?_ (fun h' => ?_) (fun h' => ?_) rfl
      · rw [hxk, hhalf]
        rcases HalfName.eq_or_other h h' with rfl | rfl
        · rw [CaptureSet.half_setHalf_self, Half.queued_emptied, Half.queued_of_not_full (by rw [hf]; nofun)]
        · rw [CaptureSet.half_setHalf_other]
      · exact (congrArg (fun r : CaptureRecord => 1 ≤ r.channels ∧ r.channels ≤ 8) CaptureSet.setHalf_record).mpr hx.channels
      · rcases hset h' with heq | ⟨-, heq⟩ <;> rw [heq]
        · exact Half.legal_emptied _ _
        · exact (congrArg (fun r : CaptureRecord => (x.half h.other).Legal r.room) CaptureSet.setHalf_record).mpr hother
      · rcases hset h' with heq | ⟨-, heq⟩ <;> rw [heq]
        · nofun
        · exact ho
    case neg =>
      rw [stopCapture_of_records hxk ha hfilling hr]
      have hself : (x.setHalf h (x.half h).filled).stopped.half h = (x.half h).filled := by
        rw [hhalf, CaptureSet.half_setHalf_self]
      have hoth : (x.setHalf h (x.half h).filled).stopped.half h.other = x.half h.other := by
        rw [hhalf, CaptureSet.half_setHalf_other]
      have hrecord : (x.setHalf h (x.half h).filled).stopped.record = x.record := CaptureSet.setHalf_record
      refine State.agree_of_set (x' := (x.setHalf h (x.half h).filled).stopped) hs (CaptureSet.legal_iff.2 ⟨?_, ?_, ?_, rfl⟩)
        (State.queue_filled hd ?_ ?_ ?_ ?_) rfl
      · rw [hrecord]
        exact hx.channels
      · refine CaptureSet.stateLegal_draining (h := h) rfl (fun h' => ?_) (by rw [hself]; rfl)
        rcases HalfName.eq_or_other h h' with rfl | rfl
        · rw [hself]
          nofun
        · rw [hoth]
          exact ho
      · intro h'
        rw [hrecord]
        rcases HalfName.eq_or_other h h' with rfl | rfl
        · rw [hself]
          exact Half.legal_filled hr ((hx.halves _).of_filling hf)
        · rw [hoth]
          exact hother
      · rw [hxk, hf]
        nofun
      · rw [hself]
        rfl
      · rw [hself]
        exact hr
      · rw [hxk, hoth]
  case inr =>
    have hfull := hx.state.of_overrun hst
    have hnf (h : HalfName) : (x.half h).state ≠ .filling := by rw [hfull]; nofun
    rw [stopCapture_of_none hxk ha (CaptureSet.filling?_eq_none x (hnf .a) (hnf .b))]
    exact settleDrain_agree hs (State.queue_same hd fun h => by rw [hxk, hhalf]) rfl hx.channels
      (fun h => by rw [hhalf]; exact (hx.halves h).legal fun hf => absurd hf (hnf h)) (fun h => by rw [hhalf]; exact hnf h) rfl

/-! ### Records -/

/-- The half a record of set `x` joins. -/
def CaptureSet.grown (x : CaptureSet) (h : HalfName) (tick : BitVec 32) (rec : List Word) : Half :=
  (x.half h).add tick x.nextSeq rec

/-- The set with a record taken into half h. -/
def CaptureSet.took (x : CaptureSet) (h : HalfName) (tick : BitVec 32) (rec : List Word) : CaptureSet :=
  (x.setHalf h (x.grown h tick rec)).consume

theorem Half.add_records (y : Half) (tick : BitVec 32) (seq : Word) (rec : List Word) :
    (y.add tick seq rec).records = y.records ++ [rec] := by
  unfold Half.add
  split_ifs with h
  · simp [h]
  · rfl

theorem Half.add_state (y : Half) (tick : BitVec 32) (seq : Word) (rec : List Word) : (y.add tick seq rec).state = y.state := by
  unfold Half.add
  split_ifs <;> rfl

section
variable {tick : BitVec 32} {rec : List Word}

theorem CaptureSet.grown_records : (x.grown h tick rec).records = (x.half h).records ++ [rec] := Half.add_records ..

theorem CaptureSet.grown_state : (x.grown h tick rec).state = (x.half h).state := Half.add_state ..

theorem CaptureSet.took_half_self : (x.took h tick rec).half h = x.grown h tick rec := by
  rw [CaptureSet.took, CaptureSet.consume_half, CaptureSet.half_setHalf_self]

theorem CaptureSet.took_half_other : (x.took h tick rec).half h.other = x.half h.other := by
  rw [CaptureSet.took, CaptureSet.consume_half, CaptureSet.half_setHalf_other]

theorem CaptureSet.took_record : (x.took h tick rec).record = x.record := CaptureSet.setHalf_record

theorem CaptureSet.took_state : (x.took h tick rec).state = x.state := CaptureSet.setHalf_state

end

/-- The record joins the half, which goes on. -/
theorem takeRecord_of_room {rec : List Word} (hx : s.capture[k] = x) (hf : x.filling? = some h)
    (hroom : ¬(x.record.room ≤ (x.grown h s.timer.ticks rec).records.length
      ∧ (x.took h s.timer.ticks rec).lengthReached = false)) :
    takeRecord k rec s = s.setCapture k (x.took h s.timer.ticks rec) := by
  simp only [takeRecord, hx, hf]
  exact if_neg hroom

/-- The record fills the half, which turns FULL. -/
theorem takeRecord_of_full {rec : List Word} (hx : s.capture[k] = x) (hf : x.filling? = some h)
    (hroom : x.record.room ≤ (x.grown h s.timer.ticks rec).records.length)
    (hlen : (x.took h s.timer.ticks rec).lengthReached = false) :
    takeRecord k rec s = turnHalf k h (s.setCapture k (x.took h s.timer.ticks rec)) := by
  simp only [takeRecord, hx, hf]
  exact if_pos ⟨hroom, hlen⟩

/-- The half turns FULL and the other opens (R145). -/
theorem turnHalf_of_vacant (hx : s.capture[k] = x) (ho : (x.half h.other).state = .vacant) :
    turnHalf k h s
      = { s.setCapture k ((x.setHalf h (x.half h).filled).setHalf h.other (x.half h.other).opened) with
          tx := { s.tx with drain := s.tx.drain ++ [{ set := k, half := h, sent := 0 }] } } := by
  have hset : (fillHalf k h s).capture[k] = x.setHalf h (x.half h).filled := hx ▸ State.capture_setCapture_self s k _
  unfold turnHalf
  simp only [hset]
  rw [CaptureSet.half_setHalf_other, if_pos ho]
  simp [fillHalf, State.setCapture]

/-- The half turns FULL with the other FULL too: OVERRUN (R145). -/
theorem turnHalf_of_not_vacant (hx : s.capture[k] = x) (ho : (x.half h.other).state ≠ .vacant) :
    turnHalf k h s
      = raise (.captureOverrun k)
          { s.setCapture k { x.setHalf h (x.half h).filled with state := .overrun } with
            tx := { s.tx with drain := s.tx.drain ++ [{ set := k, half := h, sent := 0 }] } } := by
  have hset : (fillHalf k h s).capture[k] = x.setHalf h (x.half h).filled := hx ▸ State.capture_setCapture_self s k _
  unfold turnHalf
  simp only [hset]
  rw [CaptureSet.half_setHalf_other, if_neg ho]
  simp [fillHalf, State.setCapture]

theorem recordDue_of_none (hx : s.capture[k] = x) (hd : x.due = none) : recordDue k s = s := by
  simp only [recordDue, hx, hd]

theorem recordDue_of_recording {rec : List Word} (hx : s.capture[k] = x) (hd : x.due = some rec) (hst : x.state = .recording) :
    recordDue k s = takeRecord k rec s := by
  simp only [recordDue, hx, hd, hst, if_true]

theorem recordDue_of_overrun {rec : List Word} (hx : s.capture[k] = x) (hd : x.due = some rec) (hst : x.state = .overrun) :
    recordDue k s = Machine.advance (ctrRecordsDropped k) 1 (s.setCapture k x.consume) := by
  simp only [recordDue, hx, hd, hst, reduceCtorEq, if_false, if_true]

end
end Sys2Proof.Machine
end

section
/-! Every step keeps capture sets and drain queue in agreement (O57). -/

namespace Sys2Proof.Machine

section
variable {s t : State} {k : SetNo} {x : CaptureSet} {h : HalfName} {rec : List Word}

/-- The agreement of capture sets and queue at a tick, where set k may have reached its length and not yet stopped. -/
structure State.NearlyAgree (s : State) (k : SetNo) : Prop where
  others : ∀ j ≠ k, s.capture[j].Legal
  drain : s.DrainLegal
  sound : s.capture[k].Sound
  due : s.capture[k].due = none
  room : s.capture[k].lengthReached = false →
    ∀ h, (s.capture[k].half h).state = .filling → (s.capture[k].half h).records.length < s.capture[k].record.room

theorem State.CapturesAgree.nearly (hs : s.CapturesAgree) (k : SetNo) : s.NearlyAgree k :=
  ⟨fun j _ => hs.sets j, hs.drain, (hs.sets k).sound, (hs.sets k).due_none, fun _ h hf => ((hs.sets k).halves h).of_filling hf⟩

theorem CaptureSet.lengthReached_active (hx : x.lengthReached = true) : x.active = true := by
  simp only [CaptureSet.lengthReached, Bool.and_eq_true] at hx
  exact hx.1.1

/-- A set that has reached its length stops; one that has not is as it should be. -/
theorem State.NearlyAgree.lengthReached (hs : s.NearlyAgree k) : (lengthReached k s).CapturesAgree := by
  unfold Machine.lengthReached
  split_ifs with hl
  · exact stopCapture_agree hs.others hs.drain hs.sound (CaptureSet.lengthReached_active hl)
  · refine ⟨fun j => ?_, hs.drain⟩
    by_cases hjk : j = k
    · subst hjk
      exact hs.sound.legal hs.due (hs.room (Bool.not_eq_true _ ▸ hl))
    · exact hs.others j hjk

theorem State.drain_of_set (hq : QueueLegal (s.queuedWith k x) t.tx.drain) (ht : t.capture = (s.setCapture k x).capture) :
    t.DrainLegal := by
  refine State.drainLegal_iff.2 (hq.congr fun j h => ?_)
  rw [ht, State.capture_setCapture_fin]
  unfold State.queuedWith
  split_ifs <;> rfl

/-- Set k comes to `x`, and the queue follows. -/
theorem State.nearlyAgree_of_set (hs : ∀ j ≠ k, s.capture[j].Legal) (hx : x.Sound) (hdue : x.due = none)
    (hroom : x.lengthReached = false → ∀ h, (x.half h).state = .filling → (x.half h).records.length < x.record.room)
    (hq : QueueLegal (s.queuedWith k x) t.tx.drain) (ht : t.capture = (s.setCapture k x).capture) : t.NearlyAgree k := by
  have hset : t.capture[k] = x := by rw [ht, State.capture_setCapture_fin, if_pos rfl]
  refine ⟨fun j hj => ?_, State.drain_of_set hq ht, ?_, ?_, ?_⟩
  · rw [ht, State.capture_setCapture_fin, if_neg (Ne.symm hj)]
    exact hs j hj
  all_goals rwa [hset]

theorem State.NearlyAgree.raise (hs : s.NearlyAgree k) (hm : EventsMoved s t) : t.NearlyAgree k := by
  obtain ⟨ho, hd, hsound, hdue, hroom⟩ := hs
  have hc := hm.capture
  refine ⟨fun j hj => hc ▸ ho j hj, ?_, hc ▸ hsound, hc ▸ hdue, hc ▸ hroom⟩
  unfold State.DrainLegal at *
  rwa [hc, hm.tx_drain]

/-! ### A record taken -/

/-- A record in a half with room leaves the half no fuller than it may be. -/
theorem CaptureSet.took_sound (hx : x.Sound) (hf : (x.half h).state = .filling) (hst : x.state = .recording)
    (ho : (x.half h.other).state ≠ .filling) (hlt : (x.half h).records.length < x.record.room) (tick : BitVec 32) :
    (x.took h tick rec).Sound := by
  refine ⟨by rw [CaptureSet.took_record]; exact hx.channels, ?_, fun h' => ?_⟩
  · refine CaptureSet.stateLegal_recording (h := h) (CaptureSet.took_state.trans hst) ?_ ?_
    · rw [CaptureSet.took_half_self, CaptureSet.grown_state, hf]
    · rwa [CaptureSet.took_half_other]
  · rw [CaptureSet.took_record]
    rcases HalfName.eq_or_other h h' with rfl | rfl
    · rw [CaptureSet.took_half_self]
      unfold Half.Near
      rw [CaptureSet.grown_state, hf, CaptureSet.grown_records, List.length_append, List.length_singleton]
      exact hlt
    · rw [CaptureSet.took_half_other]
      exact hx.halves _

/-- A recording set takes its record (R145). -/
theorem takeRecord_nearly (hs : ∀ j ≠ k, s.capture[j].Legal) (hd : s.DrainLegal) (hxk : s.capture[k] = x) (hx : x.Sound)
    (hst : x.state = .recording) (hroom : ∀ h, (x.half h).state = .filling → (x.half h).records.length < x.record.room) :
    (takeRecord k rec s).NearlyAgree k := by
  obtain ⟨h, hf, ho⟩ := hx.state.of_recording hst
  have hfilling := CaptureSet.filling?_of_half _ _ hf ho
  have htook := CaptureSet.took_sound (rec := rec) hx hf hst ho (hroom h hf) s.timer.ticks
  have hself : (x.took h s.timer.ticks rec).half h = x.grown h s.timer.ticks rec := CaptureSet.took_half_self
  have hoth : (x.took h s.timer.ticks rec).half h.other = x.half h.other := CaptureSet.took_half_other
  have hlen : (x.grown h s.timer.ticks rec).records.length = (x.half h).records.length + 1 := by
    rw [CaptureSet.grown_records, List.length_append, List.length_singleton]
  have hgrown : (x.grown h s.timer.ticks rec).records ≠ [] := by
    rw [CaptureSet.grown_records]
    simp
  by_cases hturn : x.record.room ≤ (x.grown h s.timer.ticks rec).records.length
      ∧ (x.took h s.timer.ticks rec).lengthReached = false
  case neg =>
    rw [takeRecord_of_room hxk hfilling hturn]
    refine State.nearlyAgree_of_set hs htook rfl (fun hl h' hf' => ?_) (State.queue_same hd fun h' => ?_) rfl
    · rw [CaptureSet.took_record]
      rcases HalfName.eq_or_other h h' with rfl | rfl
      · rw [hself]
        by_contra hge
        exact hturn ⟨not_lt.1 hge, hl⟩
      · rw [hoth] at hf'
        exact absurd hf' ho
    · rw [hxk]
      rcases HalfName.eq_or_other h h' with rfl | rfl
      · rw [hself, Half.queued_of_not_full (by rw [CaptureSet.grown_state, hf]; nofun), Half.queued_of_not_full (by rw [hf]; nofun)]
      · rw [hoth]
  case pos =>
    have hfull : ((x.took h s.timer.ticks rec).half h).filled.Legal x.record.room := by
      rw [hself]
      exact Half.legal_filled hgrown (by have := hroom h hf; omega)
    have hset : (s.setCapture k (x.took h s.timer.ticks rec)).capture[k] = x.took h s.timer.ticks rec :=
      State.capture_setCapture_self s k _
    have hnotfull : (s.capture[k].half h).state ≠ .full := by rw [hxk, hf]; nofun
    rw [takeRecord_of_full hxk hfilling hturn.1 hturn.2]
    by_cases hv : (x.half h.other).state = .vacant
    · rw [turnHalf_of_vacant hset (by rw [hoth, hv]), State.setCapture_setCapture]
      generalize hz : ((x.took h s.timer.ticks rec).setHalf h ((x.took h s.timer.ticks rec).half h).filled).setHalf h.other
        ((x.took h s.timer.ticks rec).half h.other).opened = z
      have hzself : z.half h = ((x.took h s.timer.ticks rec).half h).filled := by
        rw [← hz, CaptureSet.half_setHalf_ne (HalfName.other_ne h).symm, CaptureSet.half_setHalf_self]
      have hzoth : z.half h.other = ((x.took h s.timer.ticks rec).half h.other).opened := by
        rw [← hz, CaptureSet.half_setHalf_self]
      have hzrec : z.record = x.record := by
        rw [← hz, CaptureSet.setHalf_record, CaptureSet.setHalf_record, CaptureSet.took_record]
      have hzst : z.state = .recording := by
        rw [← hz, CaptureSet.setHalf_state, CaptureSet.setHalf_state, CaptureSet.took_state, hst]
      have hzdue : z.due = none := by
        rw [← hz, CaptureSet.setHalf_due, CaptureSet.setHalf_due]
        rfl
      have hzlegal : z.Legal := by
        refine CaptureSet.legal_iff.2 ⟨hzrec ▸ hx.channels, CaptureSet.stateLegal_recording (h := h.other) hzst ?_ ?_, ?_, hzdue⟩
        · rw [hzoth]
          rfl
        · rw [HalfName.other_other, hzself]
          nofun
        · intro h'
          rw [hzrec]
          rcases HalfName.eq_or_other h h' with rfl | rfl
          · rw [hzself]
            exact hfull
          · rw [hzoth]
            exact Half.legal_opened hx.room_pos _
      refine State.nearlyAgree_of_set hs hzlegal.sound hzdue (fun _ h' hf' => (hzlegal.halves h').of_filling hf')
        (State.queue_filled hd hnotfull ?_ ?_ ?_) rfl
      · rw [hzself]
        rfl
      · rw [hzself, hself]
        exact hgrown
      · rw [hzoth, Half.queued_opened, hxk, Half.queued_of_not_full (by rw [hv]; nofun)]
    · rw [turnHalf_of_not_vacant hset (by rwa [hoth]), State.setCapture_setCapture]
      have hofull : (x.half h.other).state = .full := by
        cases hos : (x.half h.other).state with
        | vacant => exact absurd hos hv
        | filling => exact absurd hos ho
        | full => rfl
      generalize hz : ({ (x.took h s.timer.ticks rec).setHalf h ((x.took h s.timer.ticks rec).half h).filled with
        state := .overrun } : CaptureSet) = z
      have hzhalf (h' : HalfName) : z.half h'
          = ((x.took h s.timer.ticks rec).setHalf h ((x.took h s.timer.ticks rec).half h).filled).half h' := by
        rw [← hz]
        cases h' <;> rfl
      have hzself : z.half h = ((x.took h s.timer.ticks rec).half h).filled := by
        rw [hzhalf, CaptureSet.half_setHalf_self]
      have hzoth : z.half h.other = x.half h.other := by
        rw [hzhalf, CaptureSet.half_setHalf_other, hoth]
      have hzrec : z.record = x.record := by
        rw [← hz]
        exact CaptureSet.setHalf_record.trans CaptureSet.took_record
      have hzdue : z.due = none := by
        rw [← hz]
        exact CaptureSet.setHalf_due
      have hzlegal : z.Legal := by
        refine CaptureSet.legal_iff.2 ⟨hzrec ▸ hx.channels, CaptureSet.stateLegal_overrun (hz ▸ rfl) ?_, ?_, hzdue⟩
        · intro h'
          rcases HalfName.eq_or_other h h' with rfl | rfl
          · rw [hzself]
            rfl
          · rw [hzoth, hofull]
        · intro h'
          rw [hzrec]
          rcases HalfName.eq_or_other h h' with rfl | rfl
          · rw [hzself]
            exact hfull
          · rw [hzoth]
            exact (hx.halves _).legal fun hof => absurd hof ho
      refine State.NearlyAgree.raise (State.nearlyAgree_of_set hs hzlegal.sound hzdue
        (fun _ h' hf' => (hzlegal.halves h').of_filling hf') (State.queue_filled hd hnotfull ?_ ?_ ?_) ?_) (raise_moves _ _)
      · rw [hzself]
        rfl
      · rw [hzself, hself]
        exact hgrown
      · rw [hzoth, hxk]
      · rfl

/-- A set's record of a tick, if it is due (R145, R146). -/
theorem recordDue_nearly (hs : ∀ j ≠ k, s.capture[j].Legal) (hd : s.DrainLegal) (hxk : s.capture[k] = x)
    (hx : ({ x with due := none } : CaptureSet).Legal) : (recordDue k s).NearlyAgree k := by
  have hhalf (h : HalfName) : ({ x with due := none } : CaptureSet).half h = x.half h := by cases h <;> rfl
  have hsound : x.Sound := ⟨hx.sound.channels, hx.sound.state, fun h => hhalf h ▸ hx.sound.halves h⟩
  have hroom (h : HalfName) (hf : (x.half h).state = .filling) : (x.half h).records.length < x.record.room :=
    (hhalf h ▸ hx.halves h : (x.half h).Legal x.record.room).of_filling hf
  cases hdue : x.due with
  | none =>
    rw [recordDue_of_none hxk hdue]
    subst hxk
    exact ⟨hs, hd, hsound, hdue, fun _ => hroom⟩
  | some rec =>
    by_cases hst : x.state = .recording
    · rw [recordDue_of_recording hxk hdue hst]
      exact takeRecord_nearly hs hd hxk hsound hst hroom
    · by_cases hov : x.state = .overrun
      · rw [recordDue_of_overrun hxk hdue hov]
        refine State.NearlyAgree.raise (State.nearlyAgree_of_set (s := s) (t := s.setCapture k x.consume) (x := x.consume) hs
          ⟨hsound.channels, hsound.state, fun h => CaptureSet.consume_half x h ▸ hsound.halves h⟩ rfl (fun _ h hf => ?_)
          (State.queue_same hd fun h => ?_) rfl) (advance_moves _ _ _)
        · rw [CaptureSet.consume_half] at hf ⊢
          exact hroom h hf
        · rw [CaptureSet.consume_half, hxk]
      · have hdropped : recordDue k s = s.setCapture k { x with due := none } := by
          simp only [recordDue, hxk, hdue, hst, hov, if_false]
        rw [hdropped]
        exact State.nearlyAgree_of_set hs hx.sound rfl (fun _ h hf => (hx.halves h).of_filling hf)
          (State.queue_same hd fun h => by rw [hhalf, hxk]) rfl

/-! ### Ticks, starts and fires -/

theorem markDue_legal (vs : TickValues) (hx : x.Legal) : ({ markDue vs x with due := none } : CaptureSet).Legal := by
  have hdue := hx.due_none
  unfold markDue
  split_ifs
  · exact ⟨hx.1, hx.2.1, hx.2.2.1, hx.2.2.2.1, rfl⟩
  · exact ⟨hx.1, hx.2.1, hx.2.2.1, hx.2.2.2.1, rfl⟩
  · exact ⟨hx.1, hx.2.1, hx.2.2.1, hx.2.2.2.1, rfl⟩

theorem markDue_half (vs : TickValues) (x : CaptureSet) (h : HalfName) : (markDue vs x).half h = x.half h := by
  unfold markDue
  split_ifs <;> cases h <;> rfl

/-- Set k's event of a tick (R145, R147). -/
theorem captureTick_agree (vs : TickValues) (k : SetNo) (hs : s.CapturesAgree) : (captureTick vs k s).CapturesAgree := by
  have hlegal := markDue_legal vs (hs.sets k)
  have hhalf := markDue_half vs s.capture[k]
  unfold captureTick
  generalize markDue vs s.capture[k] = y at hlegal hhalf ⊢
  have hset : (s.setCapture k y).capture[k] = y := State.capture_setCapture_self s k y
  have hqueue : QueueLegal (s.queuedWith k y) s.tx.drain := State.queue_same hs.drain fun h => by rw [hhalf]
  have hdrain : (s.setCapture k y).DrainLegal := State.drain_of_set hqueue rfl
  refine (recordDue_nearly (fun j hj => ?_) hdrain hset hlegal).lengthReached
  rw [State.capture_setCapture_fin, if_neg (Ne.symm hj)]
  exact hs.sets j

theorem capturesTick_agree (vs : TickValues) (hs : s.CapturesAgree) : (capturesTick vs s).CapturesAgree :=
  captureTick_agree vs 1 (captureTick_agree vs 0 hs)

/-- A set without a FULL half comes to another one without. -/
theorem State.CapturesAgree.set_same (hs : s.CapturesAgree) (hx : x.Legal)
    (hq : ∀ h, (x.half h).queued = (s.capture[k].half h).queued) : (s.setCapture k x).CapturesAgree :=
  State.agree_of_set (fun j _ => hs.sets j) hx (State.queue_same hs.drain hq) rfl

theorem stopCapture_keeps (hs : s.CapturesAgree) (k : SetNo) : (stopCapture k s).CapturesAgree := by
  cases ha : s.capture[k].active with
  | true => exact stopCapture_agree (fun j _ => hs.sets j) hs.drain (hs.sets k).sound ha
  | false =>
    rw [stopCapture_of_not_active rfl ha]
    exact hs

/-- A set with two EMPTY halves that starts: half A opens (R144). -/
theorem CaptureSet.started_legal (hx : x.Sound) (hv : ∀ h, (x.half h).state = .vacant) :
    ({ x with state := .recording, halfA := x.halfA.opened, ticksToNext := 0, due := none } : CaptureSet).Legal := by
  refine CaptureSet.legal_iff.2 ⟨hx.channels, CaptureSet.stateLegal_recording (h := .a) rfl rfl ?_, fun h => ?_, rfl⟩
  · rw [show HalfName.a.other = .b from rfl]
    change x.halfB.state ≠ .filling
    rw [show x.halfB.state = .vacant from hv .b]
    nofun
  · cases h with
    | a => exact Half.legal_opened hx.room_pos _
    | b => exact (hx.halves .b).legal fun hf => by rw [hv .b] at hf; cases hf

theorem startCapture_agree (hs : s.CapturesAgree) (hst : s.capture[k].state = .armed) : (startCapture k s).CapturesAgree := by
  have hv := (hs.sets k).sound.state.of_idle_or_armed (.inr hst)
  refine hs.set_same (CaptureSet.started_legal (hs.sets k).sound hv) fun h => ?_
  cases h with
  | a => exact (Half.queued_opened _).trans (Half.queued_of_not_full (by rw [hv]; nofun)).symm
  | b => rfl

theorem fireCapture_agree (w : WatchNo) (k : SetNo) (hs : s.CapturesAgree) : (fireCapture w k s).CapturesAgree := by
  unfold fireCapture
  simp only
  split_ifs with hstart
  · exact startCapture_agree hs hstart.1
  · exact stopCapture_keeps hs k
  · exact hs

theorem fireCaptures_agree (w : WatchNo) (hs : s.CapturesAgree) : (fireCaptures w s).CapturesAgree :=
  fireCapture_agree w 1 (fireCapture_agree w 0 hs)

/-! ### Requests -/

theorem CaptureSet.armedAnew_legal (hx : x.Sound) : x.armedAnew.Legal :=
  CaptureSet.legal_iff.2 ⟨hx.channels, CaptureSet.stateLegal_idle (.inr rfl) fun h => by cases h <;> rfl,
    fun h => by cases h <;> rfl, rfl⟩

theorem armCapture_agree (hs : s.CapturesAgree) (hst : s.capture[k].state = .idle) : (armCapture k s).CapturesAgree := by
  have hv := (hs.sets k).sound.state.of_idle_or_armed (.inl hst)
  have harmed := CaptureSet.armedAnew_legal (hs.sets k).sound
  have hqueued (h : HalfName) : (s.capture[k].half h).queued = none := Half.queued_of_not_full (by rw [hv]; nofun)
  cases hw : s.capture[k].record.start with
  | some w =>
    rw [armCapture_of_watch rfl hw]
    exact hs.set_same harmed fun h => by rw [hqueued]; cases h <;> rfl
  | none =>
    rw [armCapture_of_no_watch rfl hw]
    exact hs.set_same (CaptureSet.started_legal harmed.sound fun h => by cases h <;> rfl)
      fun h => by rw [hqueued]; cases h <;> rfl

theorem CaptureSet.idle_legal (hx : x.Legal) (hst : x.state = .armed) : ({ x with state := .idle } : CaptureSet).Legal := by
  have hv := hx.sound.state.of_idle_or_armed (.inr hst)
  refine ⟨hx.1, ?_, hx.2.2.1, hx.2.2.2.1, hx.2.2.2.2⟩
  exact CaptureSet.stateLegal_idle (.inl rfl) fun h => by cases h; exacts [hv .a, hv .b]

theorem stopRequested_agree (hs : s.CapturesAgree) (k : SetNo) : (stopRequested k s).CapturesAgree := by
  by_cases hst : s.capture[k].state = .armed
  · rw [stopRequested_of_armed rfl hst]
    exact (hs.set_same (k := k) (CaptureSet.idle_legal (hs.sets k) hst) fun h => by cases h <;> rfl).congr rfl
      (raise_moves _ _).tx_drain
  · rw [stopRequested_of_not_armed rfl hst]
    exact stopCapture_keeps hs k

/-- A record written on an IDLE set, whose halves are EMPTY. -/
theorem CaptureSet.legal_of_record {r : CaptureRecord} (hx : x.Legal) (hst : x.state = .idle)
    (hr : 1 ≤ r.channels ∧ r.channels ≤ 8) : ({ x with record := r } : CaptureSet).Legal := by
  have hv := hx.sound.state.of_idle_or_armed (.inl hst)
  have hvacant {room room' : Nat} {y : Half} (hy : y.Legal room) (hyv : y.state = .vacant) : y.Legal room' := by
    unfold Half.Legal at *
    rwa [hyv] at hy ⊢
  exact ⟨hr, hx.2.1, hvacant hx.2.2.1 (hv .a), hvacant hx.2.2.2.1 (hv .b), hx.2.2.2.2⟩

/-- Sets that keep their halves keep the agreement. -/
theorem State.CapturesAgree.of_halves (hs : s.CapturesAgree) (ht : ∀ k : SetNo, t.capture[k].Legal)
    (hh : ∀ (k : SetNo) (h : HalfName), t.capture[k].half h = s.capture[k].half h) (hd : t.tx.drain = s.tx.drain) :
    t.CapturesAgree := by
  refine ⟨ht, State.drainLegal_iff.2 ?_⟩
  rw [hd]
  exact (State.drainLegal_iff.1 hs.drain).congr fun k h => by rw [hh]

theorem putCaptures_agree (hs : s.CapturesAgree) {i : Nat} {rs : List CaptureRecord}
    (hcount : ∀ r ∈ rs, 1 ≤ r.channels ∧ r.channels ≤ 8)
    (hidle : ∀ k : SetNo, i ≤ k.val → k.val < i + rs.length → s.capture[k].state = .idle)
    (ht : t.capture = Vector.ofFn fun k : SetNo =>
      { s.capture[k] with record := (written? i rs k.val).getD s.capture[k].record }) (hd : t.tx.drain = s.tx.drain) :
    t.CapturesAgree := by
  have hget (k : SetNo) : t.capture[k] = { s.capture[k] with record := (written? i rs k.val).getD s.capture[k].record } := by
    rw [ht]
    simp
  refine hs.of_halves (fun k => ?_) (fun k h => ?_) hd <;> rw [hget]
  · cases hw : written? i rs k.val with
    | none => exact hs.sets k
    | some r =>
      have hk : i ≤ k.val ∧ k.val < i + rs.length := by
        by_contra hout
        rw [written?_eq_none_iff.2 (by omega)] at hw
        cases hw
      exact CaptureSet.legal_of_record (hs.sets k) (hidle k hk.1 hk.2) (hcount r (written?_mem hw))
  · cases h <;> rfl

/-! ### The drain of a half -/

/-- The head half is told EMPTY, and its set goes on by its state (R146, R148). -/
theorem halfDrained_agree {e : DrainEntry} {es : List DrainEntry} (hs : s.CapturesAgree) (hq : s.tx.drain = e :: es) :
    (halfDrained e.set e.half { s with tx := { s.tx with drain := es } }).CapturesAgree := by
  generalize hu : ({ s with tx := { s.tx with drain := es } } : State) = u
  have hcapture : u.capture = s.capture := by rw [← hu]
  have hdrain : u.tx.drain = es := by rw [← hu]
  have hqueue := State.drainLegal_iff.1 hs.drain
  rw [hq] at hqueue
  have hx := hs.sets e.set
  have hfull : (s.capture[e.set].half e.half).state = .full :=
    (hs.drain.2.1 e.set e.half).2 (by rw [hq]; exact List.mem_cons_self ..)
  rw [← hcapture] at hx hfull
  generalize hxk : u.capture[e.set] = x at hx hfull
  have hothers : ∀ j ≠ e.set, u.capture[j].Legal := fun j _ => hcapture ▸ hs.sets j
  have hpop {z : CaptureSet} (hz : (z.half e.half).queued = none) (hzo : z.half e.half.other = x.half e.half.other) :
      QueueLegal (u.queuedWith e.set z) u.tx.drain := by
    rw [hdrain]
    refine hqueue.pop ((u.queuedWith_self _ _ _).trans hz) fun k h hne => ?_
    unfold State.queuedWith
    split_ifs with hk
    · subst hk
      have hho : h = e.half.other := (HalfName.eq_or_other e.half h).resolve_left fun heq => hne (by rw [heq]; rfl)
      rw [hho, hzo, ← hxk, hcapture]
    · rw [hcapture]
  have hemptied (h : HalfName) : (x.setHalf e.half (x.half e.half).emptied).half h
      = if h = e.half then (x.half e.half).emptied else x.half h := by
    split_ifs with hh
    · rw [hh, CaptureSet.half_setHalf_self]
    · rw [CaptureSet.half_setHalf_ne hh]
  have hemptied_legal (h : HalfName) : ((x.setHalf e.half (x.half e.half).emptied).half h).Legal x.record.room := by
    rw [hemptied]
    split_ifs
    · exact Half.legal_emptied _ _
    · exact hx.halves h
  have hquiet : QueueLegal (u.queuedWith e.set (x.setHalf e.half (x.half e.half).emptied)) u.tx.drain :=
    hpop (by rw [CaptureSet.half_setHalf_self, Half.queued_emptied]) (CaptureSet.half_setHalf_other ..)
  cases hst : x.state with
  | idle | armed =>
    rw [hx.sound.state.of_idle_or_armed (by simp [hst])] at hfull
    cases hfull
  | recording =>
    obtain ⟨h, hf, ho⟩ := hx.sound.state.of_recording hst
    have hne : h ≠ e.half := fun heq => by rw [heq, hfull] at hf; cases hf
    have htold : halfDrained e.set e.half u = u.setCapture e.set (x.setHalf e.half (x.half e.half).emptied) := by
      simp only [halfDrained, hxk, hst]
    rw [htold]
    refine State.agree_of_set hothers (CaptureSet.legal_iff.2 ⟨?_, ?_, ?_, ?_⟩) hquiet rfl
    · rw [CaptureSet.setHalf_record]
      exact hx.sound.channels
    · refine CaptureSet.stateLegal_recording (h := h) (CaptureSet.setHalf_state.trans hst) ?_ ?_
      · rw [hemptied, if_neg hne, hf]
      · rw [hemptied]
        split_ifs
        · nofun
        · exact ho
    · rw [CaptureSet.setHalf_record]
      exact hemptied_legal
    · rw [CaptureSet.setHalf_due, hx.due_none]
  | overrun =>
    have hboth := hx.sound.state.of_overrun hst
    generalize hz : ({ x.setHalf e.half (x.half e.half).opened with state := .recording } : CaptureSet) = z
    have htold : halfDrained e.set e.half u = u.setCapture e.set z := by
      simp only [halfDrained, hxk, hst, ← hz]
    have hhalf (h : HalfName) : z.half h = (x.setHalf e.half (x.half e.half).opened).half h := by rw [← hz]; cases h <;> rfl
    have hself : z.half e.half = (x.half e.half).opened := by rw [hhalf, CaptureSet.half_setHalf_self]
    have hoth : z.half e.half.other = x.half e.half.other := by rw [hhalf, CaptureSet.half_setHalf_other]
    have hrec : z.record = x.record := by rw [← hz]; exact CaptureSet.setHalf_record
    rw [htold]
    refine State.agree_of_set hothers (CaptureSet.legal_iff.2 ⟨hrec ▸ hx.sound.channels, ?_, fun h => ?_, ?_⟩)
      (hpop (by rw [hself, Half.queued_opened]) hoth) rfl
    · refine CaptureSet.stateLegal_recording (h := e.half) (hz ▸ rfl) (by rw [hself]; rfl) ?_
      rw [hoth, hboth]
      nofun
    · rw [hrec]
      rcases HalfName.eq_or_other e.half h with rfl | rfl
      · rw [hself]
        exact Half.legal_opened hx.sound.room_pos _
      · rw [hoth]
        exact hx.halves _
    · rw [← hz]
      exact CaptureSet.setHalf_due.trans hx.due_none
  | draining =>
    obtain ⟨hnf, -⟩ := hx.sound.state.of_draining hst
    have htold : halfDrained e.set e.half u
        = settleDrain e.set (u.setCapture e.set (x.setHalf e.half (x.half e.half).emptied)) := by
      simp only [halfDrained, hxk, hst]
    rw [htold]
    refine settleDrain_agree hothers hquiet (CaptureSet.setHalf_state.trans hst) ?_ ?_ (fun h => ?_) ?_
    · rw [CaptureSet.setHalf_record]
      exact hx.sound.channels
    · rw [CaptureSet.setHalf_record]
      exact hemptied_legal
    · rw [hemptied]
      split_ifs
      · nofun
      · exact hnf h
    · rw [CaptureSet.setHalf_due, hx.due_none]

/-- The end of a CAPTURE frame (R12, R148). -/
theorem settleSent_agree (f : UpFrame) (hs : s.CapturesAgree) : (settleSent f s).CapturesAgree := by
  unfold settleSent
  split
  · rename_i e es hq
    simp only
    split_ifs with hsent
    · exact halfDrained_agree hs hq
    · refine ⟨hs.sets, State.drainLegal_iff.2 ?_⟩
      have hqueue := State.drainLegal_iff.1 hs.drain
      rw [hq] at hqueue
      refine hqueue.advance fun n hn => ?_
      have hfull : (s.capture[e.set].half e.half).state = .full :=
        (hs.drain.2.1 e.set e.half).2 (by rw [hq]; exact List.mem_cons_self ..)
      rw [Half.queued_of_full hfull] at hn
      exact Option.some.inj hn ▸ not_le.1 hsent
  · exact hs

end
end Sys2Proof.Machine
end

section
/-! Every step keeps capture sets and drain queue in agreement (O57), continued: from the operations to the commands. -/

namespace Sys2Proof.Machine

/-- The phase, the capture sets and the drain queue stand. -/
structure SetsStand (s t : State) : Prop where
  phase : t.phase = s.phase
  capture : t.capture = s.capture
  drain : t.tx.drain = s.tx.drain

/-- The phase stands, and sets and queue that agree go on to. -/
structure AgreementKept (s t : State) : Prop where
  phase : t.phase = s.phase
  agree : s.CapturesAgree → t.CapturesAgree

section
variable {s t u : State}

theorem SetsStand.refl (s : State) : SetsStand s s := ⟨rfl, rfl, rfl⟩

theorem SetsStand.trans (h : SetsStand s t) (k : SetsStand t u) : SetsStand s u :=
  ⟨k.phase.trans h.phase, k.capture.trans h.capture, k.drain.trans h.drain⟩

theorem SetsStand.kept (h : SetsStand s t) : AgreementKept s t := ⟨h.phase, fun hs => hs.congr h.capture h.drain⟩

theorem SetsStand.legal (h : SetsStand s t) (hs : s.CapturesLegal) : t.CapturesLegal := by
  unfold State.CapturesLegal State.DrainLegal at *
  rwa [h.phase, h.capture, h.drain]

theorem AgreementKept.refl (s : State) : AgreementKept s s := ⟨rfl, id⟩

theorem AgreementKept.trans (h : AgreementKept s t) (k : AgreementKept t u) : AgreementKept s u :=
  ⟨k.phase.trans h.phase, k.agree ∘ h.agree⟩

theorem AgreementKept.foldl {β : Type} (f : State → β → State) (h : ∀ s b, AgreementKept s (f s b)) (l : List β) (s : State) :
    AgreementKept s (l.foldl f s) :=
  foldl_moves AgreementKept .refl (fun _ _ _ => .trans) f h l s

theorem State.CapturesLegal.agree (hs : s.CapturesLegal) (hp : s.phase ≠ .held) : s.CapturesAgree := ⟨hs.1, hs.2.1 hp⟩

theorem State.CapturesAgree.legal (hs : s.CapturesAgree) (hp : s.phase ≠ .held) : s.CapturesLegal :=
  ⟨hs.sets, fun _ => hs.drain, fun h => absurd h hp⟩

theorem AgreementKept.legal (h : AgreementKept s t) (hp : s.phase ≠ .held) (hs : s.CapturesLegal) : t.CapturesLegal :=
  (h.agree (hs.agree hp)).legal (h.phase ▸ hp)

theorem EventsMoved.sets (h : EventsMoved s t) : SetsStand s t := ⟨h.phase, h.capture, h.tx_drain⟩
theorem ScenarioMoved.sets (h : ScenarioMoved s t) : SetsStand s t := ⟨h.phase, h.capture, h.tx_drain⟩
theorem FlowMoved.sets (h : FlowMoved s t) : SetsStand s t := ⟨h.phase, h.capture, h.tx_drain⟩
theorem TracksMoved.sets (h : TracksMoved s t) : SetsStand s t := ⟨h.phase, h.capture, h.tx_drain⟩
theorem PortMoved.sets (h : PortMoved s t) : SetsStand s t := ⟨h.phase, h.capture, by rw [h.tx]⟩
theorem ValuesMoved.sets (h : ValuesMoved s t) : SetsStand s t := ⟨h.phase, h.capture, h.tx_drain⟩

theorem AcceptMoved.sets (h : AcceptMoved s t) : SetsStand s t := by
  unfold AcceptMoved at h
  constructor <;> rw [h]

section
variable (s : State)

theorem rx_sets (y : Receiver) : SetsStand s { s with rx := y } := ⟨rfl, rfl, rfl⟩
theorem ingress_sets (y : Ingress) : SetsStand s { s with ingress := y } := ⟨rfl, rfl, rfl⟩
theorem timer_sets (y : FrameTimer) : SetsStand s { s with timer := y } := ⟨rfl, rfl, rfl⟩
theorem records_sets (y : ChannelTable) : SetsStand s { s with channels := y } := ⟨rfl, rfl, rfl⟩
theorem bank_sets (y : Vector OverlayRecord 256) : SetsStand s { s with bank := y } := ⟨rfl, rfl, rfl⟩
theorem own_sets (y : Vector Ownership 32) : SetsStand s { s with own := y } := ⟨rfl, rfl, rfl⟩
theorem watch_sets (y : WatchUnit) : SetsStand s { s with watch := y } := ⟨rfl, rfl, rfl⟩
theorem replay_sets (y : ReplayUnit) : SetsStand s { s with replay := y } := ⟨rfl, rfl, rfl⟩
theorem scenario_sets (y : ScenarioUnit) : SetsStand s { s with scenario := y } := ⟨rfl, rfl, rfl⟩
theorem safe_sets (y : SafeLine) : SetsStand s { s with safe := y } := ⟨rfl, rfl, rfl⟩
theorem port_sets (y : Port) : SetsStand s { s with port := y } := ⟨rfl, rfl, rfl⟩
theorem look_sets (y : Port) (k : Nat) : SetsStand s { s with port := y, freeIx := k } := ⟨rfl, rfl, rfl⟩

end

/-! ### Fires and ticks -/

theorem noteFire_sets (w : WatchNo) (v : Word) (s : State) : SetsStand s (noteFire w v s) := by
  have hnoted : SetsStand s (advance (ctrFires w) 1 (joinHits w (s.setWatch w ((s.watchOf w).stored v s.timer.ticks)))) :=
    SetsStand.trans (t := joinHits w (s.setWatch w _)) ⟨rfl, rfl, rfl⟩ (advance_moves _ _ _).sets
  unfold noteFire
  simp only
  split_ifs
  · exact hnoted.trans (raise_moves _ _).sets
  · exact hnoted

theorem takeFire_agree (w : WatchNo) (s : State) : AgreementKept s (takeFire w s) := by
  unfold takeFire
  split
  · exact ((noteFire_sets w _ s).trans (fireSlots_scenario w _).sets).kept.trans
      ⟨(fireCaptures_moves w _).phase, fireCaptures_agree w⟩
  · exact .refl s

theorem takeFires_agree (s : State) : AgreementKept s (takeFires s) := .foldl _ (fun s w => takeFire_agree w s) _ _

theorem takeFiresOf_agree (i n : Nat) (s : State) : AgreementKept s (takeFiresOf i n s) := .foldl _ (fun t w => by
  split_ifs
  · exact takeFire_agree w t
  · exact .refl t) _ _

theorem deliverTick_agree (vs : TickValues) (s : State) : AgreementKept s (deliverTick vs s) := by
  have hwatched (u : State) : SetsStand u (watchesTick vs (beginDelivery vs u)) := ⟨rfl, rfl, rfl⟩
  unfold deliverTick
  exact (((takeValues_moves vs s).sets.trans (hwatched _)).kept.trans
    ⟨(capturesTick_moves vs _).phase, capturesTick_agree vs⟩).trans (meetTick_scenario _).sets.kept

theorem tick_agree (o : CountOrder) (s : State) : AgreementKept s (tick o s) := by
  have hclosed : AgreementKept s (closeTick s) := (scenarioTick_scenario s).sets.kept.trans (takeFires_agree _)
  have hjudged : AgreementKept s s.judged :=
    hclosed.trans ((((clearPort_moves _).sets.trans (timer_sets _ _)).trans (judge_moves _).sets).trans
      (tracksTick_moves _).sets).kept
  have hcore : AgreementKept s (tickCore s) := by
    rw [tickCore_eq]
    exact hjudged.trans (deliverTick_agree _ _)
  cases o with
  | countFirst => exact hcore.trans (scenarioTick_scenario _).sets.kept
  | eventsFirst => exact hcore

theorem takeSample_agree (us : Nat) (o : CountOrder) (f : SampleFrame) (s : State) : AgreementKept s (takeSample us o f s) := by
  rcases takeSample_cases us o f s with hs | hs <;> rw [hs]
  · exact (advance_moves _ _ _).sets.kept
  · have haccepted := (accepting_moves f s).sets
    rcases askTick_cases us o (s.accepting f) with ⟨y, hy⟩ | ⟨y, hy⟩ <;> rw [hy]
    · exact (haccepted.trans (timer_sets _ y)).kept
    · exact (haccepted.trans (timer_sets _ y)).kept.trans (tick_agree o _)

/-! ### Requests and resets -/

theorem putChannels_sets (i : Nat) (rs : List ChannelRecord) (s : State) : SetsStand s (putChannels i rs s) := by
  unfold putChannels
  exact (records_sets s _).trans (disableWritten_scenario _ _).sets

theorem putWatches_agree (i : Nat) (rs : List WatchRecord) (s : State) : AgreementKept s (putWatches i rs s) := by
  unfold putWatches
  exact (takeFiresOf_agree i _ s).trans (watch_sets _ _).kept

theorem putSetup_sets (x : Setup) (s : State) : SetsStand s (putSetup x s) := by
  unfold putSetup
  simp only
  split_ifs <;> exact ⟨rfl, rfl, rfl⟩

theorem lookAtPort_sets (s : State) : SetsStand s (lookAtPort s) := by
  unfold lookAtPort
  split
  · exact look_sets s _ _
  · exact .refl s

theorem Half.emptied_state (y : Half) : y.emptied.state = .vacant := rfl

/-- Sets whose halves are all EMPTY, and an empty queue. -/
theorem State.agree_of_vacant (hd : t.tx.drain = []) (hsets : ∀ k : SetNo, t.capture[k].Legal)
    (hv : ∀ (k : SetNo) (h : HalfName), (t.capture[k].half h).state = .vacant) : t.CapturesAgree := by
  refine ⟨hsets, State.drainLegal_iff.2 ?_⟩
  rw [hd]
  exact ⟨List.nodup_nil, fun k h => by rw [Half.queued_of_not_full (by rw [hv]; nofun)]; simp, by simp⟩

theorem CaptureSet.reset_legal {x : CaptureSet} (hx : x.Sound) : x.reset.Legal :=
  CaptureSet.legal_iff.2 ⟨hx.channels, CaptureSet.stateLegal_idle (.inl rfl) fun h => by cases h <;> rfl,
    fun h => by cases h <;> rfl, rfl⟩

theorem resetUnits_capture (s : State) (k : SetNo) : (resetUnits s).capture[k] = s.capture[k].reset := by
  change (Vector.ofFn fun k : SetNo => s.capture[k].reset)[k] = _
  simp

theorem resetUnits_agree (s : State) : AgreementKept s (resetUnits s) := by
  refine ⟨rfl, fun hs => State.agree_of_vacant rfl (fun k => ?_) fun k h => ?_⟩ <;> rw [resetUnits_capture]
  · exact CaptureSet.reset_legal (hs.sets k).sound
  · cases h <;> rfl

theorem resetDevice_agree (s : State) : AgreementKept s (resetDevice s) := by
  unfold resetDevice
  split_ifs
  · exact (resetUnits_agree s).trans (raise_moves _ _).sets.kept
  · exact resetUnits_agree s

theorem feedRing_sets (u : TrackNo) (vs : List Word) (s : State) : SetsStand s (feedRing u vs s) := by
  rw [feedRing_moves]
  exact replay_sets s _

/-- Serving a request keeps the agreement. -/
theorem Served.agree (h : Served s t) : AgreementKept s t := by
  cases h with
  | same => exact .refl s
  | channels i rs => exact (putChannels_sets i rs s).kept
  | slotMap | views => exact (ingress_sets s _).kept
  | overlays => exact (bank_sets s _).kept
  | blocks | entries => exact (scenario_sets s _).kept
  | watches i rs => exact putWatches_agree i rs s
  | tracks | memory => exact (replay_sets s _).kept
  | captures i rs hcount hidle => exact ⟨rfl, fun hs => putCaptures_agree hs hcount hidle rfl rfl⟩
  | setup x => exact (putSetup_sets x s).kept
  | standing c o => exact (own_sets s _).kept
  | patch c f v => exact (own_sets s _).kept
  | look => exact (lookAtPort_sets s).kept
  | arm n b => exact (armSlot_scenario n b _ s).sets.kept
  | abort n => exact ((leaveChannel_scenario n s).trans (setSlot_scenario _ _ _)).sets.kept
  | clear n => exact (scenario_sets s _).kept
  | resetScenarios => exact ((clearChannels_scenario s).trans (mapSlots_scenario _ _)).sets.kept
  | play | stop => exact (replay_sets s _).kept
  | append u vs _ _ hmoves => exact ((feedRing_sets u vs s).trans hmoves.sets).kept
  | armCapture k hidle => exact ⟨(armCapture_moves k s).phase, fun hs => armCapture_agree hs hidle⟩
  | stopCapture k => exact ⟨(stopRequested_moves k s).phase, fun hs => stopRequested_agree hs k⟩
  | rearm | hits => exact (watch_sets s _).kept
  | counter | events => exact SetsStand.kept ⟨rfl, rfl, rfl⟩
  | device => exact resetDevice_agree s

theorem choose_sets (s : State) : SetsStand s (choose s) := by
  unfold choose
  split
  · exact ⟨rfl, rfl, rfl⟩
  · split_ifs
    · exact ⟨rfl, rfl, rfl⟩
    · split <;> exact ⟨rfl, rfl, rfl⟩

theorem settleSent_phase (f : UpFrame) (s : State) : (settleSent f s).phase = s.phase := by
  unfold settleSent
  split
  · simp only
    split_ifs
    · exact (halfDrained_moves _ _ _).phase
    · rfl
  · rfl

theorem settleSent_of_empty {f : UpFrame} (h : s.tx.drain = []) : settleSent f s = s := by simp only [settleSent, h]

theorem settleSent_legal (f : UpFrame) (hs : s.CapturesLegal) : (settleSent f s).CapturesLegal := by
  by_cases hp : s.phase = .held
  · rw [settleSent_of_empty (hs.2.2 hp)]
    exact hs
  · exact AgreementKept.legal ⟨settleSent_phase f s, settleSent_agree f⟩ hp hs

theorem initStart_capture (s : State) (k : SetNo) : (initStart s).capture[k] = CaptureSet.cleared CaptureRecord.initial := by
  change (Vector.replicate 2 (CaptureSet.cleared CaptureRecord.initial))[k] = _
  rw [Fin.getElem_fin, Vector.getElem_replicate]

theorem cleared_legal : (CaptureSet.cleared CaptureRecord.initial).Legal :=
  CaptureSet.legal_iff.2 ⟨by decide, CaptureSet.stateLegal_idle (.inl rfl) fun h => by cases h <;> rfl,
    fun h => by cases h <;> rfl, rfl⟩

theorem initStart_legal (s : State) : (initStart s).CapturesLegal := by
  refine (State.agree_of_vacant rfl (fun k => ?_) fun k h => ?_).legal nofun <;> rw [initStart_capture]
  · exact cleared_legal
  · cases h <;> rfl

theorem initUnits_capture (s : State) : (initUnits s).capture = s.capture := rfl

/-- INIT ends with the sets and the queue as it leaves them. -/
theorem initEnd_legal (hinit : s.phase = .init) (hs : s.CapturesLegal) : (initEnd s).CapturesLegal := by
  have hagree := hs.agree (by rw [hinit]; nofun)
  have hready : SetsStand (initUnits s) (raise .ready (initUnits s)) := (raise_moves _ _).sets
  have hunits : (initUnits s).CapturesLegal := (hagree.congr (t := initUnits s) (initUnits_capture s) rfl).legal nofun
  unfold initEnd
  simp only
  split_ifs
  · exact (hready.trans (raise_moves _ _).sets).legal hunits
  · exact hready.legal hunits

theorem assertSafe_sets (s : State) : SetsStand s (assertSafe s) := by
  have habort := (ScenarioMoved.foldl _ (fun s n => abortSafe_scenario n s) (List.finRange 8) s).sets
  have hdelivery (u : State) : SetsStand u (startSafeDelivery u) := by
    unfold startSafeDelivery
    split <;> exact port_sets u _
  have hpass (u : State) : SetsStand u (clearAllToPass u) := own_sets u _
  have hstop (u : State) : SetsStand u (stopTracks u) := replay_sets u _
  unfold assertSafe
  exact ((((habort.trans (safe_sets _ _)).trans (hpass _)).trans (hstop _)).trans (hdelivery _)).trans (raise_moves _ _).sets

theorem releaseSafe_agree (s : State) : AgreementKept s (releaseSafe s) := by
  unfold releaseSafe
  exact (takeFires_agree s).trans ((safe_sets _ _).trans (raise_moves _ _).sets).kept

/-- Every effect of a command keeps the law of capture sets. -/
theorem Effect.capturesLegal (h : Effect s t) (hs : s.CapturesLegal) : t.CapturesLegal := by
  have running (hrun : s.phase = .running) : s.phase ≠ .held := by rw [hrun]; nofun
  cases h with
  | same => exact hs
  | word | start | fill => exact (rx_sets s _).legal hs
  | discard f => exact ((rx_sets s _).trans (advance_moves _ _ _).sets).legal hs
  | counted i => exact ((rx_sets s _).trans (advance_moves _ _ _).sets).legal hs
  | sample us o f hrun => exact ((rx_sets s _).kept.trans (takeSample_agree us o f _)).legal (running hrun) hs
  | served r st data u hserves hu =>
    have hserved := ((rx_sets s _).kept.trans hu.agree).legal (running hserves.running) hs
    exact SetsStand.legal (s := u) ⟨rfl, rfl, rfl⟩ hserved
  | tick o y hrun => exact ((timer_sets s y).kept.trans (tick_agree o _)).legal (running hrun) hs
  | delivered d => exact (port_sets s _).legal hs
  | live => exact (flowLive_moves s).sets.legal hs
  | starved y => exact ((timer_sets s y).trans (starved_moves _).sets).legal hs
  | spanEnd u => exact (spanEnd_moves u s).sets.legal hs
  | fire w hrun => exact (takeFire_agree w s).legal (running hrun) hs
  | delay n =>
    exact (((countSlots_scenario s).trans (claim_scenario n _)).trans (actSlots_scenario _ _ _)).sets.legal hs
  | duration n => exact ((countSlots_scenario s).trans (actSlots_scenario _ _ _)).sets.legal hs
  | record k hrun =>
    have hdue := (hs.agree (running hrun)).sets k |>.due_none
    rw [recordDue_of_none rfl hdue]
    exact hs
  | length k hrun =>
    exact AgreementKept.legal ⟨(lengthReached_moves k s).phase, fun ha => (ha.nearly k).lengthReached⟩ (running hrun) hs
  | choose => exact (choose_sets s).legal hs
  | sent f => exact (choose_sets _).legal (settleSent_legal f hs)
  | held => exact ⟨hs.1, nofun, fun _ => rfl⟩
  | init => exact initStart_legal s
  | ready hinit => exact initEnd_legal hinit hs
  | safe => exact ((safe_sets s _).trans (assertSafe_sets _)).legal hs
  | low b => exact (safe_sets s _).legal hs
  | release hrun => exact (releaseSafe_agree s).legal (running hrun) hs

end

/-- Settles O57: each operation on a set turns its halves as its state asks, and a half joins the queue as it turns FULL and leaves
it as it turns EMPTY. -/
theorem stepKeepsCapturesLegal : Obligations.StepKeepsCapturesLegal :=
  fun _ _ _ => step_keeps (fun _ _ h => h) fun _ _ h he => he.capturesLegal h

end Sys2Proof.Machine
end

section
/-! The step, the state after reset, the line's symbols, the changes of flow and the latch strobe (1.1, 2.4, 2.5, 3.3). -/

namespace Sys2Proof.Machine

/-- Settles O1. -/
theorem stepTakesTheFrontCommand : Obligations.StepTakesTheFrontCommand := fun _ _ _ => rfl

/-! ### The state after reset -/

theorem reset_slot (n : SlotNo) : State.reset.slot n = Slot.idle := by
  change (Vector.replicate 8 Slot.idle)[n] = _
  rw [Fin.getElem_fin, Vector.getElem_replicate]

theorem reset_capture (k : SetNo) : State.reset.capture[k] = CaptureSet.cleared CaptureRecord.initial := by
  change (Vector.replicate 2 (CaptureSet.cleared CaptureRecord.initial))[k] = _
  rw [Fin.getElem_fin, Vector.getElem_replicate]

theorem reset_track (u : TrackNo) : State.reset.track u = Track.cleared (TrackDescriptor.initial u) := by
  change (Vector.ofFn fun t : Fin 8 => Track.cleared (TrackDescriptor.initial t))[u] = _
  simp

theorem reset_records (c : Chan) : State.reset.channels.records[c] = ChannelRecord.initial := by
  change (Vector.replicate 32 ChannelRecord.initial)[c] = _
  rw [Fin.getElem_fin, Vector.getElem_replicate]

theorem reset_slotMap (i : Fin 32) : State.reset.ingress.slotMap[i] = some i := by
  change (Vector.ofFn fun i : Fin 32 => some i)[i] = _
  simp

/-- READY is the one event raised, and its category the one pending. -/
theorem reset_eventsConsistent : State.reset.EventsConsistent := by
  have hcleared : (initUnits (initStart State.reset)).EventsConsistent := cleared_eventsConsistent rfl rfl rfl nofun
  exact (raise_eventsConsistent .ready hcleared).congr rfl rfl rfl rfl

theorem reset_tracksLegal : State.reset.TracksLegal := initial_tracksLegal reset_track

theorem reset_contextsLegal : State.reset.ContextsLegal := by
  refine replicate_own_legal (fun i => ?_) rfl rfl
  change ((Vector.replicate 256 OverlayRecord.initial)[i]).Legal
  rw [Fin.getElem_fin, Vector.getElem_replicate]
  exact OverlayRecord.initial_legal

theorem reset_safeLineHolds : State.reset.SafeLineHolds := fun _ n => by rw [reset_slot]; rfl

theorem reset_tablesLegal : State.reset.TablesLegal :=
  ⟨fun c => reset_records c ▸ ChannelRecord.initial_legal,
    fun i j c hi hj => by
      rw [reset_slotMap] at hi hj
      exact (Option.some.inj hi).trans (Option.some.inj hj).symm,
    reset_stores_wf, ⟨Nat.zero_le _, Nat.zero_le _⟩, Setup.initial_legal, .inl rfl, .inr (.inl rfl)⟩

theorem reset_capturesLegal : State.reset.CapturesLegal := by
  refine (State.agree_of_vacant rfl (fun k => ?_) fun k h => ?_).legal nofun <;> rw [reset_capture]
  · exact cleared_legal
  · cases h <;> rfl

theorem reset_ownershipLawful : State.reset.OwnershipLawful :=
  State.ownershipLawful_iff.2 (State.lawful_of_empty replicate_empty fun n => by rw [reset_slot]; rfl)

/-- Settles O59. -/
theorem resetMeetsEveryLaw : Obligations.ResetMeetsEveryLaw :=
  ⟨reset_eventsConsistent, reset_tablesLegal, reset_tracksLegal, reset_contextsLegal, reset_safeLineHolds, reset_capturesLegal,
    reset_ownershipLawful⟩

/-! ### Words, marks and violations (1.1) -/

section
variable {s : State}

theorem State.framed_iff : s.framed = true ↔ s.phase = .running ∧ s.rx.framing = .frame := by
  simp [State.framed]

theorem State.framed_eq_false : s.framed = false ↔ ¬ (s.phase = .running ∧ s.rx.framing = .frame) := by
  rw [← Bool.not_eq_true, State.framed_iff]

/-- Where the Link Receiver delimits no frame, words and violations are nothing to it. -/
theorem exec_word_unframed (h : s.framed = false) (w : Word) : exec (.wordReceived w) s = .next s :=
  congrArg Host.Outcome.next (if_pos h)

theorem exec_violation_unframed (h : s.framed = false) : exec .codeViolation s = .next s :=
  congrArg Host.Outcome.next (if_neg (by simp [h]))

/-- A word of a frame joins the buffer while there is room. -/
theorem exec_word_framed (h : s.framed = true) (hroom : s.rx.buffer.length < 64) (w : Word) :
    exec (.wordReceived w) s = .next { s with rx := { s.rx with buffer := s.rx.buffer ++ [w] } } :=
  congrArg Host.Outcome.next ((if_neg (by simp [h])).trans (if_pos hroom))

theorem exec_word_overlong (h : s.framed = true) (hroom : 64 ≤ s.rx.buffer.length) (w : Word) :
    exec (.wordReceived w) s = .next (advance ctrBadFrames 1 s.toHunt) :=
  congrArg Host.Outcome.next ((if_neg (by simp [h])).trans (if_neg (not_lt.2 hroom)))

theorem exec_violation_framed (h : s.framed = true) : exec .codeViolation s = .next (advance ctrBadFrames 1 s.toHunt) :=
  congrArg Host.Outcome.next (if_pos h)

theorem exec_mark_not_running (h : s.phase ≠ .running) : exec .startMark s = .next s := congrArg Host.Outcome.next (if_pos h)

theorem exec_mark_framed (hp : s.phase = .running) (hf : s.rx.framing = .frame) :
    exec .startMark s = .next (advance ctrBadFrames 1 { s with rx := { s.rx with framing := .frame, buffer := [] } }) :=
  congrArg Host.Outcome.next ((if_neg (not_not.2 hp)).trans (if_pos hf))

theorem exec_mark_hunt (hp : s.phase = .running) (hf : s.rx.framing = .hunt) :
    exec .startMark s = .next { s with rx := { s.rx with framing := .frame, buffer := [] } } :=
  congrArg Host.Outcome.next ((if_neg (not_not.2 hp)).trans (if_neg (by rw [hf]; nofun)))

theorem State.after_cons {c : Instr} {cs : List Instr} {t : State} (h : exec c s = .next t) :
    s.after (c :: cs) = t.after cs := by
  rw [State.after, h]

/-- The words of a frame stand in the buffer in their order. -/
theorem after_words (ws : List Word) : ∀ {s : State}, s.framed = true → s.rx.buffer.length + ws.length ≤ 64 →
    s.after (ws.map Instr.wordReceived) = some { s with rx := { s.rx with buffer := s.rx.buffer ++ ws } } := by
  induction ws with
  | nil =>
    intro s _ _
    rw [List.append_nil]
    rfl
  | cons w ws ih =>
    intro s hs hroom
    rw [List.length_cons] at hroom
    rw [List.map_cons, State.after_cons (exec_word_framed hs (by omega) w), ih]
    · simp
    · exact hs
    · simp only [List.length_append, List.length_singleton]
      omega

end

/-- Settles O3. -/
theorem lineSymbolsDelimitFrames : Obligations.LineSymbolsDelimitFrames := by
  refine ⟨fun s w => ⟨fun hp hf => ?hunt, fun hp hf => ?frame, fun hp => ?quiet⟩, fun s content hp hf hlen => ?whole⟩
  case hunt =>
    have hn : s.framed = false := State.framed_eq_false.2 fun h => by rw [hf] at h; cases h.2
    exact ⟨exec_word_unframed hn w, exec_violation_unframed hn, exec_mark_hunt hp hf⟩
  case frame =>
    have hs : s.framed = true := State.framed_iff.2 ⟨hp, hf⟩
    exact ⟨fun hroom => exec_word_framed hs hroom w, fun hroom => exec_word_overlong hs hroom w, exec_violation_framed hs,
      exec_mark_framed hp hf⟩
  case quiet =>
    have hn : s.framed = false := State.framed_eq_false.2 fun h => hp h.1
    exact ⟨exec_word_unframed hn w, exec_violation_unframed hn, exec_mark_not_running hp⟩
  case whole =>
    rw [State.after_cons (exec_mark_hunt hp hf), after_words]
    · rfl
    · exact State.framed_iff.2 ⟨hp, rfl⟩
    · simp only [List.length_nil, List.length_append, List.length_singleton]
      omega

/-! ### The changes of flow (2.4, 2.5) and the latch strobe (3.3) -/

/-- Settles O14. -/
theorem flowChangesAct : Obligations.FlowChangesAct := by
  intro s hp
  refine ⟨fun hdue hsrc => ?_, fun hdue hsrc => ?_, fun hdue => ?_, fun hstarve hlive => ?_⟩
  · refine congrArg Host.Outcome.next ((if_pos ⟨hp, hdue⟩).trans ?_)
    simp only [flowLive, hsrc]
  · refine congrArg Host.Outcome.next ((if_pos ⟨hp, hdue⟩).trans ?_)
    simp only [flowLive, hsrc]
  · exact congrArg Host.Outcome.next (if_pos ⟨hp, hdue⟩)
  · exact congrArg Host.Outcome.next (if_pos ⟨hp, hstarve, hlive⟩)

/-- Settles O15. -/
theorem latchStrobeAppliesTheWords : Obligations.LatchStrobeAppliesTheWords := by
  intro s d hp hd
  have htick : exec .deliveryComplete s
      = .next (if s.phase = .running ∧ d.safe = false then finishDelivery d s else s) := by
    change execDeliveryComplete s = _
    simp only [execDeliveryComplete, hd]
  have hsafe : exec .safeDeliveryComplete s
      = .next (if s.phase = .running ∧ d.safe = true then finishDelivery d s else s) := by
    change execSafeDeliveryComplete s = _
    simp only [execSafeDeliveryComplete, hd]
  rw [htick, hsafe]
  refine ⟨fun h => ⟨?_, ?_⟩, fun h => ⟨?_, ?_⟩⟩
  · rw [if_pos ⟨hp, h⟩]
    rfl
  · rw [if_neg fun hs => by rw [h] at hs; cases hs.2]
  · rw [if_pos ⟨hp, h⟩]
    rfl
  · rw [if_neg fun hs => by rw [h] at hs; cases hs.2]

end Sys2Proof.Machine
end

section
/-! Requests served (1.3, 10.1): what a row answers whose meaning is known, and the requests on watches, counters, events and
tracks. -/

namespace Sys2Proof.Machine

section
variable {row : Request → Bool} {meaning : Request → State → Answer} {s t : State} {r : Request}

theorem codeIs_of {n : Nat} (h : r.code = n) : codeIs n r = true := beq_iff_eq.2 h

/-- The reply of a request whose meaning is known follows its effects. -/
theorem request_answers {a : Answer} (hs : s.serves r) (hr : row r = true) (ha : meaning r s.toHunt = a) :
    request row meaning s = .next (a.state.answered r a.status a.data) := by
  rw [request_serves hs hr, ha]

theorem request_refused {st : Status} (hs : s.serves r) (hr : row r = true) (ha : meaning r s.toHunt = refuse st s.toHunt) :
    request row meaning s = .next (s.toHunt.answered r st []) := request_answers hs hr ha

theorem request_done {data : List Word} (hs : s.serves r) (hr : row r = true) (ha : meaning r s.toHunt = done data t) :
    request row meaning s = .next (t.answered r .ok data) := request_answers hs hr ha

end

/-! ### Watches, counters and events (7.5, 11.1, 11.3) -/

section
variable {s : State} {r : Request}

theorem word_flagCode (b : Bool) : word (flagCode b) = if b = true then 1 else 0 := by cases b <;> rfl

theorem rearmWatchRequest_watch {w : WatchNo} (h : r.object = w.val) :
    rearmWatchRequest r s
      = done [word (flagCode (s.watchOf w).spent)]
          (s.setWatch w { s.watchOf w with count := 0, spent := false, latched := false }) := by
  simp only [rearmWatchRequest, h, index?_val]

theorem loadCounterRequest_counter {i : CounterNo} {v : Word} {vs : List Word} (h : r.index = i.val) (hd : r.data = v :: vs) :
    loadCounterRequest r s
      = done [s.events.counters[i]] { s with events := { s.events with counters := s.events.counters.set i v } } := by
  simp only [loadCounterRequest, h, hd, index?_val]

theorem word_getLsbD (n j : Nat) (hj : j < 16) : (word n).getLsbD j = n.testBit j := by
  rw [word, BitVec.getLsbD_ofNat, decide_eq_true hj, Bool.true_and]

/-- The first word shows the summary. -/
theorem eventWords_summary (s : State) {c : Nat} (hc : c < 8) :
    ((eventWords s).getD 0 0).getLsbD c = s.events.summary.getLsbD c := by
  change (word s.events.summary.toNat).getLsbD c = _
  rw [word_getLsbD _ _ (by omega), BitVec.getLsbD]

/-- Flag f stands in the word f / 16 after the first, at bit f mod 16. -/
theorem eventWords_flag (s : State) {f : Nat} (hf : f < 128) :
    ((eventWords s).getD (1 + f / 16) 0).getLsbD (f % 16) = s.events.flags.getLsbD f := by
  have hget : (eventWords s).getD (1 + f / 16) 0 = word (s.events.flags.toNat / 65536 ^ (f / 16)) := by
    rw [eventWords, Nat.add_comm, List.getD_cons_succ, List.getD_eq_getElem?_getD, List.getElem?_map,
      List.getElem?_range (by omega)]
    rfl
  rw [hget, word_getLsbD _ _ (Nat.mod_lt _ (by decide)), show 65536 = 2 ^ 16 by rfl, ← Nat.pow_mul,
    Nat.testBit_div_two_pow, BitVec.getLsbD]
  congr 1
  omega

end

/-- Settles O30. -/
theorem watchCounterAndEventRequests : Obligations.WatchCounterAndEventRequests := by
  refine ⟨fun s r hs => ⟨fun hr hw => ?noWatch, fun hr w hw => ?rearm, fun hr => ?hits⟩, fun s r hs => ⟨fun hr hi => ?noCounter,
    fun hr i hi => ⟨fun hd => ?noData, fun v vs hd => ?load⟩, fun hr => ⟨eventWords s, ?_, fun c => eventWords_summary s,
    fun f => eventWords_flag s, ?events⟩⟩⟩
  case noWatch => exact request_refused hs (codeIs_of hr) (by simp only [rearmWatchRequest, index?_eq_none hw])
  case rearm =>
    rw [← word_flagCode]
    exact request_done hs (codeIs_of hr) (rearmWatchRequest_watch hw)
  case hits => exact request_done hs (codeIs_of hr) rfl
  case noCounter => exact request_refused hs (codeIs_of hr) (by simp only [loadCounterRequest, index?_eq_none hi])
  case noData => exact request_refused hs (codeIs_of hr) (by simp only [loadCounterRequest, hi, index?_val, hd])
  case load => exact request_done hs (codeIs_of hr) (loadCounterRequest_counter hi hd)
  case events => exact request_done hs (codeIs_of hr) rfl
  · simp [eventWords]

/-! ### Tracks (8.5 to 8.7) -/

section
variable {s : State} {r : Request} {u : TrackNo}

theorem exec_trackSpanEnd (hp : s.phase = .running) : exec (.trackSpanEnd u.val) s = .next (spanEnd u s) := by
  change execTrackSpanEnd u.val s = _
  simp only [execTrackSpanEnd, index?_val, hp, if_true]

theorem playTrackRequest_safe (hu : r.object = u.val) (h : s.safe.asserted = true) : playTrackRequest r s = refuse .safe s := by
  simp only [playTrackRequest, hu, index?_val, h, if_true]

theorem playTrackRequest_track (hu : r.object = u.val) (h : s.safe.asserted = false) :
    playTrackRequest r s = done [word (s.track u).state.num] (s.setTrack u (playTrack (s.track u))) := by
  simp only [playTrackRequest, hu, index?_val, h, Bool.false_eq_true, if_false]

theorem stopTrackRequest_track (hu : r.object = u.val) :
    stopTrackRequest r s = done [word (s.track u).state.num] (s.setTrack u (stopTrack (s.track u))) := by
  simp only [stopTrackRequest, hu, index?_val]

theorem playTrack_stored {x : Track} (h : x.desc.mode = .stored) :
    playTrack x = { x with state := .playing, playhead := 0, phase := 0 } := by
  simp only [playTrack, h]

theorem playTrack_fed {x : Track} (h : x.desc.mode = .fed) (hp : x.state ≠ .playing) :
    playTrack x = { x with state := .playing, phase := 0 } := by
  simp only [playTrack, h, hp, if_false]

theorem playTrack_playing {x : Track} (h : x.desc.mode = .fed) (hp : x.state = .playing) : playTrack x = x := by
  simp only [playTrack, h, hp, if_true]

theorem State.setTrack_same (s : State) (u : TrackNo) : s.setTrack u (s.track u) = s := by
  simp [State.setTrack, State.track]

theorem Track.spanOver_of {x : Track} (hst : x.state = .playing) (hd : x.desc.divider ≤ x.phase) : x.spanOver = true := by
  simp [Track.spanOver, hst, hd]

theorem Track.not_spanOver {x : Track} (hd : x.phase < x.desc.divider) : x.spanOver = false := by
  simp [Track.spanOver, Nat.not_le.2 hd]

section
variable {x : Track}

theorem endSpan_stored_next (hm : x.desc.mode = .stored) (h : x.playhead + 1 < x.desc.size) :
    endSpan x = { x with phase := 0, playhead := x.playhead + 1 } := by
  simp only [endSpan, hm, endStoredSpan, if_pos h]

theorem endSpan_stored_loop (hm : x.desc.mode = .stored) (h : x.desc.size ≤ x.playhead + 1) (hl : x.desc.loop = true) :
    endSpan x = { x with phase := 0, playhead := 0 } := by
  simp only [endSpan, hm, endStoredSpan, if_neg (not_lt.2 h), if_pos hl]

theorem endSpan_stored_once (hm : x.desc.mode = .stored) (h : x.desc.size ≤ x.playhead + 1) (hl : x.desc.loop = false) :
    endSpan x = { x with phase := 0, playhead := x.desc.size - 1, state := .ended } := by
  simp only [endSpan, hm, endStoredSpan, if_neg (not_lt.2 h), hl, Bool.false_eq_true, if_false]

theorem endSpan_fed_next (hm : x.desc.mode = .fed) (h : 2 ≤ x.fill) :
    endSpan x = { x with phase := 0, readPoint := x.desc.forward x.readPoint 1, fill := x.fill - 1 } := by
  simp only [endSpan, hm, endFedSpan, if_pos h]

theorem endSpan_fed_short (hm : x.desc.mode = .fed) (h : x.fill < 2) :
    endSpan x = { x with phase := x.desc.divider - 1, state := .underrun } := by
  simp only [endSpan, hm, endFedSpan, if_neg (not_le.2 h)]

end

/-- A span that leaves the track PLAYING raises no event. -/
theorem spanEnd_playing {y : Track} (h : (s.track u).spanOver = true) (hy : endSpan (s.track u) = y) (hst : y.state = .playing) :
    spanEnd u s = s.setTrack u y := by
  rw [spanEnd_of_over h, hy, spanEvent?, hst]
  rfl

theorem spanEnd_ended {y : Track} (h : (s.track u).spanOver = true) (hy : endSpan (s.track u) = y) (hst : y.state = .ended) :
    spanEnd u s = raise (.trackEnd u) (s.setTrack u y) := by
  rw [spanEnd_of_over h, hy, spanEvent?, hst]
  rfl

theorem spanEnd_underrun {y : Track} (h : (s.track u).spanOver = true) (hy : endSpan (s.track u) = y)
    (hst : y.state = .underrun) : spanEnd u s = raise (.trackUnderrun u) (s.setTrack u y) := by
  rw [spanEnd_of_over h, hy, spanEvent?, hst]
  rfl

end

/-- Settles O33. -/
theorem tracksPlayStopAndEndSpans : Obligations.TracksPlayStopAndEndSpans := by
  refine ⟨fun s u hp hst => ?spans, fun s r hs => ⟨fun hr hu => ?noPlay, fun hr hu => ?noStop, fun u hu => ?requests⟩⟩
  case spans =>
    simp only
    rw [exec_trackSpanEnd hp]
    refine ⟨fun hd => by rw [spanEnd_of_not_over (Track.not_spanOver hd)], fun hd => ?_⟩
    have hover := Track.spanOver_of hst hd
    refine ⟨fun hm h => ?_, fun hm h hl => ?_, fun hm h hl => ?_, fun hm h => ?_, fun hm h => ?_⟩
    · rw [spanEnd_playing hover (endSpan_stored_next hm h) hst]
    · rw [spanEnd_playing hover (endSpan_stored_loop hm h hl) hst]
    · rw [spanEnd_ended hover (endSpan_stored_once hm h hl) rfl]
    · rw [spanEnd_playing hover (endSpan_fed_next hm h) hst]
      rfl
    · rw [spanEnd_underrun hover (endSpan_fed_short hm h) rfl]
  case noPlay => exact request_refused hs (codeIs_of hr) (by simp only [playTrackRequest, index?_eq_none hu])
  case noStop => exact request_refused hs (codeIs_of hr) (by simp only [stopTrackRequest, index?_eq_none hu])
  case requests =>
    refine ⟨fun hr ha => ?_, fun hr ha hm => ?_, fun hr ha hm hst => ?_, fun hr ha hm hst => ?_, fun hr => ?_⟩
    · exact request_refused hs (codeIs_of hr) (playTrackRequest_safe hu ha)
    · rw [← playTrack_stored hm]
      exact request_done hs (codeIs_of hr) (playTrackRequest_track hu ha)
    · rw [← playTrack_fed hm hst]
      exact request_done hs (codeIs_of hr) (playTrackRequest_track hu ha)
    · have hplay := playTrackRequest_track (s := s.toHunt) hu ha
      have hsame : playTrack (s.toHunt.track u) = s.toHunt.track u := playTrack_playing hm hst
      rw [hsame, State.setTrack_same] at hplay
      have hword : word (s.toHunt.track u).state.num = 1 := congrArg (fun st : TrackState => word st.num) hst
      rw [hword] at hplay
      exact request_done hs (codeIs_of hr) hplay
    · exact request_done hs (codeIs_of hr) (stopTrackRequest_track hu)

end Sys2Proof.Machine
end

section
/-! A record due and a length reached (9.4 to 9.6), as rows of their own. -/

namespace Sys2Proof.Machine

section
variable {s : State} {k : SetNo} {x : CaptureSet} {h : HalfName} {rec : List Word}

theorem exec_captureRecordDue (hp : s.phase = .running) : exec (.captureRecordDue k.val) s = .next (recordDue k s) := by
  change execCaptureRecordDue k.val s = _
  simp only [execCaptureRecordDue, index?_val, hp, if_true]

theorem exec_captureLengthReached (hp : s.phase = .running) :
    exec (.captureLengthReached k.val) s = .next (lengthReached k s) := by
  change execCaptureLengthReached k.val s = _
  simp only [execCaptureLengthReached, index?_val, hp, if_true]

/-- The records due of a set, once one more has been. -/
def CaptureSet.dueAfter (x : CaptureSet) : Nat := if x.record.length = 0 then x.recordsDue else x.recordsDue + 1

/-- The half a record has joined, its first tick and sequence number set by its first record. -/
theorem CaptureSet.grown_eq (tick : BitVec 32) :
    x.grown h tick rec
      = { x.half h with
          records := (x.half h).records ++ [rec]
          firstTick := if (x.half h).records = [] then tick else (x.half h).firstTick
          firstSeq := if (x.half h).records = [] then x.nextSeq else (x.half h).firstSeq } := by
  unfold CaptureSet.grown Half.add
  split_ifs with hr
  · simp [hr]
  · rfl

theorem CaptureSet.consume_setHalf (y : Half) :
    (x.setHalf h y).consume
      = { x.setHalf h y with
          ticksToNext := x.record.decimation - 1, nextSeq := x.nextSeq + 1, recordsDue := x.dueAfter, due := none } := by
  cases h <;> rfl

/-- Whether the record taken is the last of the set's length. -/
theorem CaptureSet.took_lengthReached (hst : x.state = .recording) (tick : BitVec 32) :
    (x.took h tick rec).lengthReached = true ↔ x.record.length ≠ 0 ∧ x.dueAfter = x.record.length := by
  have hactive : (x.took h tick rec).active = true := CaptureSet.active_iff.2 (.inl (CaptureSet.took_state.trans hst))
  have hdue : (x.took h tick rec).recordsDue = x.dueAfter := by
    unfold CaptureSet.took
    rw [CaptureSet.consume_setHalf]
  rw [CaptureSet.lengthReached, hactive, hdue, CaptureSet.took_record]
  simp

theorem CaptureSet.lengthReached_iff :
    x.lengthReached = true ↔ (x.state = .recording ∨ x.state = .overrun) ∧ x.record.length ≠ 0
      ∧ x.recordsDue = x.record.length := by
  simp only [CaptureSet.lengthReached, Bool.and_eq_true, CaptureSet.active_iff, decide_eq_true_eq, and_assoc]

/-- The record fills its half, and the other half opens. -/
theorem takeRecord_turns (hx : s.capture[k] = x) (hf : (x.half h).state = .filling) (ho : (x.half h.other).state = .vacant)
    (hroom : x.record.room ≤ (x.grown h s.timer.ticks rec).records.length)
    (hlen : (x.took h s.timer.ticks rec).lengthReached = false) :
    takeRecord k rec s
      = { s.setCapture k ((x.setHalf h (x.grown h s.timer.ticks rec).filled).setHalf h.other
            (x.half h.other).opened).consume with
          tx := { s.tx with drain := s.tx.drain ++ [{ set := k, half := h, sent := 0 }] } } := by
  have hset : (s.setCapture k (x.took h s.timer.ticks rec)).capture[k] = x.took h s.timer.ticks rec :=
    State.capture_setCapture_self s k _
  rw [takeRecord_of_full hx (CaptureSet.filling?_of_half _ _ hf (by rw [ho]; nofun)) hroom hlen,
    turnHalf_of_vacant hset (by rw [CaptureSet.took_half_other, ho]), State.setCapture_setCapture, CaptureSet.took_half_self,
    CaptureSet.took_half_other]
  cases h <;> rfl

/-- The record fills its half, and with the other FULL too the set is in OVERRUN. -/
theorem takeRecord_overruns (hx : s.capture[k] = x) (hf : (x.half h).state = .filling) (ho : (x.half h.other).state = .full)
    (hroom : x.record.room ≤ (x.grown h s.timer.ticks rec).records.length)
    (hlen : (x.took h s.timer.ticks rec).lengthReached = false) :
    takeRecord k rec s
      = raise (.captureOverrun k)
          { s.setCapture k { (x.setHalf h (x.grown h s.timer.ticks rec).filled).consume with state := .overrun } with
            tx := { s.tx with drain := s.tx.drain ++ [{ set := k, half := h, sent := 0 }] } } := by
  have hset : (s.setCapture k (x.took h s.timer.ticks rec)).capture[k] = x.took h s.timer.ticks rec :=
    State.capture_setCapture_self s k _
  rw [takeRecord_of_full hx (CaptureSet.filling?_of_half _ _ hf (by rw [ho]; nofun)) hroom hlen,
    turnHalf_of_not_vacant hset (by rw [CaptureSet.took_half_other, ho]; nofun), State.setCapture_setCapture,
    CaptureSet.took_half_self]
  cases h <;> rfl

/-- A set in OVERRUN that stops has both halves to drain. -/
theorem stopCapture_of_overrun (hx : s.capture[k] = x) (hst : x.state = .overrun) (ha : x.halfA.state = .full)
    (hb : x.halfB.state = .full) : stopCapture k s = s.setCapture k x.stopped := by
  have hdrained : ¬ x.stopped.drained = true := fun hd => ((CaptureSet.drained_iff_half _ .a).1 hd).1 ha
  rw [stopCapture_of_none hx (CaptureSet.active_iff.2 (.inr hst))
    (CaptureSet.filling?_eq_none x (by rw [ha]; nofun) (by rw [hb]; nofun)),
    settleDrain_of_not_drained (State.capture_setCapture_self s k _) hdrained]

end

/-- Settles O37. -/
theorem recordDueAndLengthReached : Obligations.RecordDueAndLengthReached := by
  refine ⟨fun s k hp => ⟨fun hd => ?none, fun sample hd => ⟨fun hst => ?overrun, fun h hst hf ho =>
    ⟨fun hroom => ?room, fun hroom hlast => ⟨fun hv => ?turns, fun hfull => ?overruns⟩⟩⟩⟩,
    fun s k hp => ⟨fun hnot => ?notReached, fun hlen hdue => ⟨fun h hst hf hrec ho => ?stops, fun hst ha hb => ?drains⟩⟩⟩
  case none => rw [exec_captureRecordDue hp, recordDue_of_none rfl hd]
  case overrun =>
    rw [exec_captureRecordDue hp, recordDue_of_overrun rfl hd hst]
    rfl
  case room =>
    rw [exec_captureRecordDue hp, recordDue_of_recording rfl hd hst,
      takeRecord_of_room rfl (CaptureSet.filling?_of_half _ _ hf ho) ?_, CaptureSet.took, CaptureSet.consume_setHalf,
      CaptureSet.grown_eq]
    · rfl
    · rintro ⟨hge, hl⟩
      rw [CaptureSet.grown_eq] at hge
      rcases hroom with hlt | hlast
      · exact absurd hlt (not_lt.2 hge)
      · rw [(CaptureSet.took_lengthReached hst _).2 hlast] at hl
        cases hl
  case turns =>
    rw [exec_captureRecordDue hp, recordDue_of_recording rfl hd hst,
      takeRecord_turns rfl hf hv (by rw [CaptureSet.grown_eq]; exact hroom) ?_, CaptureSet.grown_eq]
    · cases h <;> rfl
    · rw [Bool.eq_false_iff]
      exact fun hl => hlast ((CaptureSet.took_lengthReached hst _).1 hl)
  case overruns =>
    rw [exec_captureRecordDue hp, recordDue_of_recording rfl hd hst,
      takeRecord_overruns rfl hf hfull (by rw [CaptureSet.grown_eq]; exact hroom) ?_, CaptureSet.grown_eq]
    · cases h <;> rfl
    · rw [Bool.eq_false_iff]
      exact fun hl => hlast ((CaptureSet.took_lengthReached hst _).1 hl)
  case notReached =>
    rw [exec_captureLengthReached hp, lengthReached, if_neg]
    intro hl
    obtain ⟨hst, hlen, hdue⟩ := CaptureSet.lengthReached_iff.1 hl
    rcases hnot with h | h | ⟨h, h'⟩
    · exact hlen h
    · exact h hdue
    · exact hst.elim h h'
  case stops =>
    rw [exec_captureLengthReached hp, lengthReached, if_pos (CaptureSet.lengthReached_iff.2 ⟨.inl hst, hlen, hdue⟩),
      stopCapture_of_records rfl (CaptureSet.active_iff.2 (.inl hst)) (CaptureSet.filling?_of_half _ _ hf ho) hrec]
    rfl
  case drains =>
    rw [exec_captureLengthReached hp, lengthReached, if_pos (CaptureSet.lengthReached_iff.2 ⟨.inr hst, hlen, hdue⟩),
      stopCapture_of_overrun rfl hst ha hb]
    rfl

end Sys2Proof.Machine
end

section
/-! RESET DEVICE, power-on, and the edges of the safe line (1.5, 3.4, 10.5). -/

namespace Sys2Proof.Machine

/-! ### RESET DEVICE -/

theorem resetDevice_moves (s : State) : EventsMoved (resetUnits s) (resetDevice s) := by
  unfold resetDevice
  split_ifs
  · exact raise_moves _ _
  · exact .refl _

section
variable (s : State)

theorem resetUnits_own (c : Chan) : (resetUnits s).own[c] = Ownership.initial := by
  change (Vector.replicate 32 Ownership.initial)[c] = _
  rw [Fin.getElem_fin, Vector.getElem_replicate]

theorem resetUnits_slot (n : SlotNo) : (resetUnits s).slot n = Slot.idle := by
  change (Vector.replicate 8 Slot.idle)[n] = _
  rw [Fin.getElem_fin, Vector.getElem_replicate]

theorem resetUnits_watch (w : WatchNo) : (resetUnits s).watchOf w = Watch.cleared (s.watchOf w).record := by
  change (Vector.ofFn fun w : WatchNo => Watch.cleared s.watch.watches[w].record)[w] = _
  rw [Fin.getElem_fin, Vector.getElem_ofFn]
  rfl

theorem resetUnits_track (u : TrackNo) : (resetUnits s).track u = Track.cleared (s.track u).desc := by
  change (Vector.ofFn fun t : TrackNo => Track.cleared s.replay.tracks[t].desc)[u] = _
  rw [Fin.getElem_fin, Vector.getElem_ofFn]
  rfl

/-- SAFE_ON is the one event of a RESET DEVICE under SAFE_N. -/
theorem resetDevice_asserted (h : s.safe.asserted = true) (hm : s.setup.masks.getLsbD 7 = false) :
    (resetDevice s).events.flags = BitVec.twoPow 123 121 ∧ (resetDevice s).events.summary = 128#8
      ∧ (resetDevice s).tx.report = !s.setup.hold := by
  have hunmasked : masked .safeOn (resetUnits s) = false := hm
  rw [resetDevice, if_pos h, raise_unmasked hunmasked]
  exact ⟨BitVec.zero_or, BitVec.zero_or, rfl⟩

theorem resetDevice_masked (h : s.safe.asserted = true) (hm : s.setup.masks.getLsbD 7 = true) :
    resetDevice s = resetUnits s := by
  have hmasked : masked .safeOn (resetUnits s) = true := hm
  rw [resetDevice, if_pos h, raise_masked hmasked]

theorem resetDevice_released (h : s.safe.asserted = false) : resetDevice s = resetUnits s := by
  rw [resetDevice, if_neg (by simp [h])]

end

/-- Settles O49. -/
theorem resetDeviceStartsAgain : Obligations.ResetDeviceStartsAgain := by
  intro s r hs hr
  have hm := resetDevice_moves s.toHunt
  have hslot (n : SlotNo) : (resetDevice s.toHunt).slot n = Slot.idle := by
    rw [State.slot, hm.scenario]
    exact resetUnits_slot _ n
  have hwatch (w : WatchNo) : (resetDevice s.toHunt).watchOf w = Watch.cleared (s.watchOf w).record := by
    rw [State.watchOf, hm.watch]
    exact resetUnits_watch _ w
  have htrack (u : TrackNo) : (resetDevice s.toHunt).track u = Track.cleared (s.track u).desc := by
    rw [State.track, hm.replay]
    exact resetUnits_track _ u
  have hcapture (k : SetNo) : (resetDevice s.toHunt).capture[k] = s.capture[k].reset := by
    rw [hm.capture]
    exact resetUnits_capture _ k
  refine ⟨resetDevice s.toHunt, request_done hs (codeIs_of hr) rfl, by rw [hm.rx]; rfl, by rw [hm.tx_replies]; rfl,
    by rw [hm.tx_drain]; rfl, by rw [hm.tx_line]; rfl, by rw [hm.tx_lineCounts]; rfl, by rw [hm.ingress]; rfl,
    by rw [hm.timer]; rfl, by rw [hm.channels]; rfl, fun c => ?own, hslot, by rw [hm.scenario]; rfl, by rw [hm.scenario]; rfl,
    by rw [hm.bank]; rfl, by rw [hm.setup]; rfl, by rw [hm.port]; rfl, by rw [hm.safe]; rfl, by rw [hm.replay]; rfl, hwatch,
    by rw [hm.watch]; rfl, htrack, fun k => ?capture, ?counters, fun ha => ?released, fun ha hmask => ?asserted,
    fun ha hmask => ?masked⟩
  case own =>
    rw [hm.own, resetUnits_own]
    exact ⟨rfl, rfl, rfl, rfl⟩
  case capture =>
    rw [hcapture]
    exact ⟨rfl, rfl, fun h => by cases h <;> exact ⟨rfl, rfl⟩, rfl, rfl, rfl⟩
  case counters =>
    unfold resetDevice
    split_ifs
    · rw [raise_counters]
      rfl
    · rfl
  case released =>
    rw [resetDevice_released s.toHunt ha]
    exact ⟨rfl, rfl, rfl⟩
  case asserted => exact resetDevice_asserted _ ha hmask
  case masked =>
    rw [resetDevice_masked s.toHunt ha hmask]
    exact ⟨rfl, rfl, rfl⟩

/-! ### Power-on -/

/-- What INIT leaves of a state whose RESET_N was asserted, before READY. -/
theorem initUnits_eq (s : State) :
    initUnits (initStart (holdReset s))
      = { State.reset with
          tx := { replies := [], report := false, drain := [], line := some .idle, lineCounts := false }
          events := { counters := Vector.replicate 66 0, flags := 0, summary := 0 }
          safe := { asserted := s.safe.low, low := s.safe.low }
          freeIx := s.freeIx
          pending := s.pending } := rfl

/-- READY, raised where nothing is pending. -/
theorem ready_initUnits (s : State) :
    raise .ready (initUnits (initStart (holdReset s)))
      = { State.reset with
          safe := { asserted := s.safe.low, low := s.safe.low }, freeIx := s.freeIx, pending := s.pending } := by
  have hready : masked .ready (initUnits (initStart (holdReset s))) = false := by
    change Setup.initial.masks.getLsbD Event.ready.category = false
    decide
  have hflags : (0 : BitVec 123) ||| BitVec.twoPow 123 0 = 1 := by decide
  have hsummary : (0 : BitVec 8) ||| BitVec.twoPow 8 0 = 1 := by decide
  rw [raise_unmasked hready, initUnits_eq]
  exact congrArg₂ (fun flags summary => { State.reset with
    events := { State.reset.events with flags := flags, summary := summary }
    safe := { asserted := s.safe.low, low := s.safe.low }, freeIx := s.freeIx, pending := s.pending }) hflags hsummary

/-- Settles O50. -/
theorem powerOnGivesTheResetState : Obligations.PowerOnGivesTheResetState := by
  intro s
  refine ⟨holdReset s, initStart (holdReset s), initEnd (initStart (holdReset s)), rfl, rfl,
    congrArg Host.Outcome.next (if_pos rfl), rfl, rfl, rfl, rfl, rfl, rfl, rfl, rfl, rfl, rfl, fun c => ⟨?_, ?_⟩,
    fun w => ⟨exec_word_unframed rfl w, exec_mark_not_running nofun⟩, fun hlow => ?_, fun hlow => ?_⟩
  · change (Vector.replicate 32 ChannelRecord.initial)[c] = _
    rw [Fin.getElem_fin, Vector.getElem_replicate]
  · change (Vector.replicate 32 OutWord.initial)[c] = _
    rw [Fin.getElem_fin, Vector.getElem_replicate]
    rfl
  · rw [initEnd, ready_initUnits, hlow]
    rfl
  · have hend : initEnd (initStart (holdReset s)) = raise .safeOn
        { State.reset with safe := { asserted := true, low := true }, freeIx := s.freeIx, pending := s.pending } := by
      rw [initEnd, ready_initUnits, hlow]
      rfl
    have hmask : Setup.initial.masks.getLsbD Event.safeOn.category = false := by decide
    have hready : (1 : BitVec 123).getLsbD 0 = true := by decide
    rw [hend]
    exact ⟨rfl, raise_flag_of_flag _ _ hready, raise_flag_self hmask, rfl, rfl, rfl⟩

/-! ### The edges of the safe line -/

section
variable {s : State}

theorem abortSafe_of_busy {n : SlotNo} (h : (s.slot n).state.busy = true) :
    abortSafe n s = raise (.slotAborted n) (s.setSlot n Slot.idle) := if_pos h

theorem abortSafe_flag_of_flag (n : SlotNo) {f : Nat} (h : s.events.flags.getLsbD f = true) :
    (abortSafe n s).events.flags.getLsbD f = true := by
  unfold abortSafe
  split_ifs
  · exact raise_flag_of_flag _ _ h
  · exact h

theorem abortSafe_counters (n : SlotNo) (s : State) : (abortSafe n s).events.counters = s.events.counters := by
  unfold abortSafe
  split_ifs <;> rfl

theorem abortSafe_own (n : SlotNo) (s : State) : (abortSafe n s).own = s.own := by
  unfold abortSafe
  split_ifs <;> rfl

theorem abortSafe_replay (n : SlotNo) (s : State) : (abortSafe n s).replay = s.replay := by
  unfold abortSafe
  split_ifs <;> rfl

/-- Every slot is taken out of its activity (R45). -/
def abortAll (s : State) : State := (List.finRange 8).foldl (fun s n => abortSafe n s) s

theorem abortAll_moves (s : State) : ScenarioMoved s (abortAll s) := ScenarioMoved.foldl _ (fun s n => abortSafe_scenario n s) _ s

theorem abortAll_counters (s : State) : (abortAll s).events.counters = s.events.counters := by
  unfold abortAll
  exact List.foldlRecOn (motive := fun t : State => t.events.counters = s.events.counters) _ _ rfl
    fun t ht n _ => (abortSafe_counters n t).trans ht

theorem abortAll_replay (s : State) : (abortAll s).replay = s.replay := by
  unfold abortAll
  exact List.foldlRecOn (motive := fun t : State => t.replay = s.replay) _ _ rfl fun t ht n _ => (abortSafe_replay n t).trans ht

theorem abortAll_slot (s : State) (n : SlotNo) : (abortAll s).slot n = (s.slot n).aborted := by
  unfold abortAll
  exact foldl_finRange_get (fun s n => abortSafe n s) State.slot (fun _ => ()) (fun _ _ => Slot.aborted)
    (fun s n => abortSafe_slot_self n s) (fun s _ _ h => abortSafe_slot_ne h s) (fun _ _ => rfl) s n

/-- Each slot that was busy raises its event. -/
theorem foldl_abortSafe_flag {n : SlotNo} (l : List SlotNo) (hn : n ∈ l) : ∀ {s : State}, (s.slot n).state.busy = true →
    s.setup.masks.getLsbD 2 = false → (l.foldl (fun s n => abortSafe n s) s).events.flags.getLsbD (19 + n.val) = true := by
  induction l with
  | nil => cases hn
  | cons m l ih =>
    intro s hbusy hmask
    rw [List.foldl_cons]
    by_cases hmn : m = n
    · subst hmn
      have hmasked : masked (.slotAborted m) (s.setSlot m Slot.idle) = false := by
        rw [masked, Event.category_slotAborted]
        exact hmask
      have hflag : (abortSafe m s).events.flags.getLsbD (19 + m.val) = true := by
        rw [abortSafe_of_busy hbusy]
        exact raise_flag_self hmasked
      exact List.foldlRecOn (motive := fun t : State => t.events.flags.getLsbD (19 + m.val) = true) _ _ hflag
        fun _ ht k _ => abortSafe_flag_of_flag k ht
    · refine ih ((List.mem_cons.1 hn).resolve_left (Ne.symm hmn)) ?_ ?_
      · rw [abortSafe_slot_ne hmn]
        exact hbusy
      · rw [(abortSafe_scenario m s).setup]
        exact hmask

theorem abortAll_flag {n : SlotNo} (h : (s.slot n).state.busy = true) (hmask : s.setup.masks.getLsbD 2 = false) :
    (abortAll s).events.flags.getLsbD (19 + n.val) = true := by
  unfold abortAll
  exact foldl_abortSafe_flag _ (List.mem_finRange n) h hmask

theorem clearAllToPass_eq (v : State) : ∃ o, clearAllToPass v = { v with own := o } ∧ ∀ c : Chan, o[c]
    = { base := Context.standing v.channels.last[c], active := none, stack := [], waiting := [] } := by
  refine ⟨(clearAllToPass v).own, ?_, clearAllToPass_own v⟩
  unfold clearAllToPass
  rfl

theorem stopTracks_eq (v : State) : ∃ tr, stopTracks v = { v with replay := { v.replay with tracks := tr } }
    ∧ ∀ t : TrackNo, tr[t] = stopTrack (v.track t) := by
  refine ⟨(stopTracks v).replay.tracks, ?_, fun t => ?_⟩ <;> unfold stopTracks
  · rfl
  · simp

theorem startSafeDelivery_eq (v : State) : ∃ p, startSafeDelivery v = { v with port := p }
    ∧ (v.port.sending = none → p = { v.port with sending := some (safeDelivery (safeWords v)) })
    ∧ ∀ d, v.port.sending = some d → p = { v.port with safeNext := some (safeWords v) } := by
  cases hd : v.port.sending with
  | none =>
    refine ⟨{ v.port with sending := some (safeDelivery (safeWords v)) }, ?_, fun _ => rfl, nofun⟩
    simp only [startSafeDelivery, hd]
  | some d =>
    refine ⟨{ v.port with safeNext := some (safeWords v) }, ?_, nofun, fun _ _ => rfl⟩
    simp only [startSafeDelivery, hd]

theorem safeWords_congr {v w : State} (h : v.channels = w.channels) : safeWords v = safeWords w := by
  unfold safeWords State.enabled
  rw [h]

/-- What the assertion of SAFE_N leaves: slots aborted, channels on PASS, tracks stopped, and the safe set on its way (R45). -/
theorem assertSafe_eq (s : State) : ∃ o tr p,
    assertSafe s = raise .safeOn { abortAll s with
      own := o, replay := { s.replay with tracks := tr }, port := p, safe := { s.safe with asserted := true } }
    ∧ (∀ c : Chan, o[c] = { base := Context.standing s.channels.last[c], active := none, stack := [], waiting := [] })
    ∧ (∀ t : TrackNo, tr[t] = stopTrack (s.track t))
    ∧ (s.port.sending = none → p = { s.port with sending := some (safeDelivery (safeWords s)) })
    ∧ ∀ d, s.port.sending = some d → p = { s.port with safeNext := some (safeWords s) } := by
  have hmoved := abortAll_moves s
  have hreplay := abortAll_replay s
  have hall : assertSafe s
      = raise .safeOn (startSafeDelivery (stopTracks (clearAllToPass
          { abortAll s with safe := { (abortAll s).safe with asserted := true } }))) := by
    unfold assertSafe abortAll
    rfl
  rw [hall]
  generalize abortAll s = v at hmoved hreplay ⊢
  obtain ⟨o, ho, hpass⟩ := clearAllToPass_eq { v with safe := { v.safe with asserted := true } }
  rw [ho]
  obtain ⟨tr, htr, hstop⟩ := stopTracks_eq { v with safe := { v.safe with asserted := true }, own := o }
  rw [htr]
  obtain ⟨p, hp, hnone, hsome⟩ := startSafeDelivery_eq
    { v with safe := { v.safe with asserted := true }, own := o, replay := { v.replay with tracks := tr } }
  rw [hp]
  have hwords : safeWords { v with
      safe := { v.safe with asserted := true }, own := o, replay := { v.replay with tracks := tr } } = safeWords s :=
    safeWords_congr hmoved.channels
  rw [hwords] at hnone hsome
  refine ⟨o, tr, p, ?_, fun c => ?_, fun t => ?_, fun hs => ?_, fun d hs => ?_⟩
  · rw [← hreplay, ← hmoved.safe]
  · rw [hpass, ← hmoved.channels]
  · rw [hstop, State.track, State.track, ← hreplay]
  · rw [← hmoved.port] at hs ⊢
    exact hnone hs
  · rw [← hmoved.port] at hs ⊢
    exact hsome d hs

theorem Slot.aborted_of_busy {x : Slot} (h : x.state.busy = true) : x.aborted = Slot.idle := if_pos h

theorem Slot.aborted_of_not_busy {x : Slot} (h : x.state.busy = false) : x.aborted = x := by
  rw [Slot.aborted, if_neg (by simp [h])]

theorem safeWords_get (c : Chan) : (safeWords s)[c]
    = { value := s.channels.records[c].safeValue, cond := if s.enabled c then .none else .opened } := by
  unfold safeWords
  rw [Fin.getElem_fin, Vector.getElem_ofFn]

end

/-- The assertion of SAFE_N in a running device (R45). -/
theorem exec_safeNAssert {s : State} (hp : s.phase = .running) (hs : s.safe.asserted = false) :
    exec .safeNAssert s = .next (assertSafe (s.setLow true)) :=
  congrArg Host.Outcome.next (if_pos ⟨hp, hs⟩)

/-- The release of SAFE_N in a running device (R47). -/
theorem exec_safeNRelease {s : State} (hp : s.phase = .running) (hs : s.safe.asserted = true) :
    exec .safeNRelease s
      = .next (raise .safeOff { takeFires s with safe := { asserted := false, low := false } }) :=
  congrArg Host.Outcome.next (if_pos ⟨hp, hs⟩)

/-- Settles O51: the two edges in the running phase, and what the line's events are outside it. -/
theorem safeLineEdges : Obligations.SafeLineEdges := by
  refine ⟨fun s hp hs => ?asserted, fun s => ⟨fun hp hs => ⟨exec_safeNRelease hp hs, fun hquiet => ?quiet⟩,
    fun h => congrArg Host.Outcome.next (if_neg fun hboth => ?_), fun h => congrArg Host.Outcome.next (if_neg fun hboth => ?_)⟩⟩
  case quiet => rw [exec_safeNRelease hp hs, takeFires_id hquiet]
  case refine_1 =>
    obtain ⟨hp, hs⟩ := hboth
    simp [hp, hs] at h
  case refine_2 =>
    obtain ⟨hp, hs⟩ := hboth
    simp [hp, hs] at h
  case asserted =>
    obtain ⟨o, tr, p, heq, hpass, hstop, hnone, hsome⟩ := assertSafe_eq (s.setLow true)
    have hm := abortAll_moves (s.setLow true)
    have hslot := abortAll_slot (s.setLow true)
    have hcounters := abortAll_counters (s.setLow true)
    have hflags (n : SlotNo) (hbusy : (s.slot n).state.busy = true) (hmask : s.setup.masks.getLsbD 2 = false) :
        (abortAll (s.setLow true)).events.flags.getLsbD (19 + n.val) = true :=
      abortAll_flag hbusy hmask
    generalize abortAll (s.setLow true) = v at *
    refine ⟨_, exec_safeNAssert hp hs, ?_⟩
    rw [heq]
    refine ⟨rfl, fun n hbusy => ⟨?_, fun hmask => raise_flag_of_flag _ _ (hflags n hbusy hmask)⟩, fun n hbusy => ?_,
      fun c => ?_, fun u => hstop u, ⟨safeWords s, fun c => safeWords_get c, fun h => ?_, fun d h => hsome d h⟩,
      fun hmask => ?_, hm.rx, hm.ingress, hm.timer, hm.watch, hm.capture, hm.channels, hm.bank, hm.setup, hcounters⟩
    · exact (hslot n).trans (Slot.aborted_of_busy hbusy)
    · exact (hslot n).trans (Slot.aborted_of_not_busy hbusy)
    · rw [raise_own, hpass c]
      exact ⟨rfl, rfl, rfl, rfl⟩
    · rw [(raise_moves _ _).port]
      exact congrArg Port.sending (hnone h)
    · refine raise_flag_self (e := .safeOn) ?_
      rw [masked, hm.setup]
      exact hmask

end Sys2Proof.Machine
end

section
/-! Frames of the line: the checks at an end mark, the words of frames, FILL frames and dropped requests (1.1 to 1.3, 12.1 to
12.3). -/

namespace Sys2Proof.Machine

/-! ### Bit fields of a word made of a number -/

theorem bits_word (n lo len : Nat) : bits (word n) lo len = n % 65536 / 2 ^ lo % 2 ^ len := by
  rw [bits, word, BitVec.toNat_ofNat]

theorem word_toNat (n : Nat) : (word n).toNat = n % 65536 := BitVec.toNat_ofNat n 16

theorem word_toNat_of_lt {n : Nat} (h : n < 65536) : (word n).toNat = n := by
  rw [word_toNat, Nat.mod_eq_of_lt h]

theorem words32_spec (x : BitVec 32) : ∃ hi lo : Word, words32 x = [hi, lo] ∧ hi.toNat * 65536 + lo.toNat = x.toNat := by
  refine ⟨_, _, rfl, ?_⟩
  have := x.isLt
  rw [word_toNat, word_toNat]
  omega

/-! ### The checks -/

theorem taken?_eq {s : State} (hp : s.phase = .running) (hf : s.rx.framing = .frame) :
    s.taken? = some (takeFrame s.rx.buffer) := if_pos ⟨hp, hf⟩

theorem takeFrame_of_short {buf : List Word} (h : buf.length < 2) : takeFrame buf = .badFrame := if_pos h

/-- Checks 2 to 4 on a frame of a header, words and a check word (R2). -/
theorem takeFrame_eq (hdr : Word) (body : List Word) (chk : Word) :
    takeFrame (hdr :: (body ++ [chk])) = if chk ≠ crc16 (hdr :: body) then .crcError else sortFrame hdr body := by
  have hlong : ¬ (hdr :: (body ++ [chk])).length < 2 := by simp
  have hlast : (hdr :: (body ++ [chk])).getLastD 0 = chk := by
    rw [← List.cons_append, List.getLastD_concat]
  have hfront : (hdr :: (body ++ [chk])).dropLast = hdr :: body := by
    rw [← List.cons_append, List.dropLast_concat]
  rw [takeFrame, if_neg hlong, hlast, hfront]
  rfl

theorem takeFrame_crc (hdr : Word) (body : List Word) :
    takeFrame (hdr :: body ++ [crc16 (hdr :: body)]) = sortFrame hdr body := by
  rw [List.cons_append, takeFrame_eq, if_neg (not_not.2 rfl)]

theorem sortFrame_sample {hdr : Word} {body : List Word} {n p : Nat} (hkind : bits hdr 12 4 = 1) (hn : bits hdr 6 6 = n)
    (hp : bits hdr 3 3 = p) (hlo : 1 ≤ n) (hhi : n ≤ 32) (hpatch : p ≤ 4) (hlen : body.length = 1 + n + 2 * p) :
    sortFrame hdr body = .sample (sampleOf n body) := by
  subst hn hp
  rw [sortFrame, if_pos hkind, if_pos ⟨hlo, hhi, hpatch, hlen⟩]

theorem sortFrame_manage {hdr : Word} {body : List Word} {n : Nat} (hkind : bits hdr 12 4 = 2) (hn : bits hdr 6 6 = n)
    (hhi : n ≤ 32) (hlen : body.length = 4 + n) : sortFrame hdr body = .manage (requestOf body) := by
  subst hn
  rw [sortFrame, if_neg (by omega), if_pos hkind, if_pos ⟨hhi, hlen⟩]

theorem sortFrame_fill {hdr : Word} {body : List Word} (hkind : bits hdr 12 4 = 3) (hlen : body.length = 0) :
    sortFrame hdr body = .fill := by
  rw [sortFrame, if_neg (by omega), if_neg (by omega), if_pos hkind, if_pos hlen]

theorem sortFrame_bad {hdr : Word} {body : List Word} (h : ¬ goodHeader hdr body.length) : sortFrame hdr body = .badFrame := by
  obtain ⟨hsample, hmanage, hfill⟩ := by simpa only [goodHeader, not_or] using h
  unfold sortFrame
  by_cases hone : bits hdr 12 4 = 1
  · rw [if_pos hone, if_neg fun ⟨hlo, hhi, hp, hlen⟩ => hsample ⟨hone, ⟨hlo, hhi⟩, hp, hlen⟩]
  by_cases htwo : bits hdr 12 4 = 2
  · rw [if_neg hone, if_pos htwo, if_neg fun ⟨hhi, hlen⟩ => hmanage ⟨htwo, hhi, hlen⟩]
  by_cases hthree : bits hdr 12 4 = 3
  · rw [if_neg hone, if_neg htwo, if_pos hthree, if_neg fun hlen => hfill ⟨hthree, hlen⟩]
  · rw [if_neg hone, if_neg htwo, if_neg hthree]

theorem exec_frameRejected_bad {s : State} (h : s.taken? = some .badFrame) :
    exec .frameRejected s = .next (advance ctrBadFrames 1 s.toHunt) := by
  change execFrameRejected s = _
  rw [execFrameRejected, h]

theorem exec_frameRejected_crc {s : State} (h : s.taken? = some .crcError) :
    exec .frameRejected s = .next (advance ctrCrcErrors 1 s.toHunt) := by
  change execFrameRejected s = _
  rw [execFrameRejected, h]

/-- Settles O4. -/
theorem endMarkChecksTheFrame : Obligations.EndMarkChecksTheFrame := by
  intro s hp hf
  have htaken := taken?_eq hp hf
  refine ⟨fun hshort => exec_frameRejected_bad (htaken.trans (congrArg some (takeFrame_of_short hshort))),
    fun hdr body chk hbuf => ?_⟩
  rw [hbuf, takeFrame_eq] at htaken
  refine ⟨fun hcrc => exec_frameRejected_crc (htaken.trans (congrArg some (if_pos hcrc))), fun hcrc hbad => ?_,
    fun hcrc hgood => ?_⟩
  · rw [if_neg (not_not.2 hcrc), sortFrame_bad hbad] at htaken
    exact exec_frameRejected_bad htaken
  · rw [if_neg (not_not.2 hcrc)] at htaken
    rcases hgood with ⟨hkind, ⟨hlo, hhi⟩, hpatch, hlen⟩ | ⟨hkind, hhi, hlen⟩ | ⟨hkind, hlen⟩
    · exact .inl ⟨_, htaken.trans (congrArg some (sortFrame_sample hkind rfl rfl hlo hhi hpatch hlen))⟩
    · exact .inr (.inl ⟨_, htaken.trans (congrArg some (sortFrame_manage hkind rfl hhi hlen))⟩)
    · exact .inr (.inr (htaken.trans (congrArg some (sortFrame_fill hkind hlen))))

/-! ### FILL frames, undefined codes, and requests a full queue drops -/

theorem undefinedCode_iff {r : Request} : undefinedCode r = true ↔ r.code = 0 ∨ 27 < r.code := by simp [undefinedCode]

theorem writeRow_iff {object : Nat} {r : Request} :
    writeRow object r = true ↔ r.code = 2 ∧ (r.object = object ∨ namesTable r.object = false) := by simp [writeRow]

theorem exec_of_code {c : Instr} {n : Nat} (h : requestCode? c = some n) :
    ∃ meaning, ∀ s, exec c s = request (codeIs n) meaning s := by
  cases c <;> cases h
  all_goals exact ⟨_, fun _ => rfl⟩

theorem exec_of_table {c : Instr} {t : Nat × Nat × Nat} (h : writtenTable? c = some t) :
    ∃ meaning, ∀ s, exec c s = request (writeRow t.1) meaning s := by
  cases c <;> cases h
  all_goals exact ⟨_, fun _ => rfl⟩

/-- A request row executes the requests its row takes, and no others. -/
theorem exec_of_row {c : Instr} (h : requestCode? c ≠ none ∨ writtenTable? c ≠ none ∨ c = .unknownRequest) :
    ∃ row meaning, (∀ r, row r = true → rowTakes c r) ∧ ∀ s, exec c s = request row meaning s := by
  rcases h with hcode | htable | rfl
  · obtain ⟨n, hn⟩ := Option.ne_none_iff_exists'.1 hcode
    obtain ⟨meaning, hexec⟩ := exec_of_code hn
    exact ⟨_, meaning, fun r hr => .inl (hn.trans (congrArg some (beq_iff_eq.1 hr).symm)), hexec⟩
  · obtain ⟨t, ht⟩ := Option.ne_none_iff_exists'.1 htable
    obtain ⟨meaning, hexec⟩ := exec_of_table ht
    exact ⟨_, meaning, fun r hr => .inr (.inl ⟨(writeRow_iff.1 hr).1, t, ht, (writeRow_iff.1 hr).2⟩), hexec⟩
  · exact ⟨_, _, fun r hr => .inr (.inr ⟨rfl, undefinedCode_iff.1 hr⟩), fun _ => rfl⟩

/-- A command whose row takes the request executes it. -/
theorem exec_of_rowTakes {c : Instr} {r : Request} (h : rowTakes c r) :
    ∃ row meaning, row r = true ∧ ∀ s, exec c s = request row meaning s := by
  rcases h with hcode | ⟨hcode, t, htable, hobject⟩ | ⟨rfl, hcode⟩
  · obtain ⟨meaning, hexec⟩ := exec_of_code hcode
    exact ⟨_, meaning, codeIs_of rfl, hexec⟩
  · obtain ⟨meaning, hexec⟩ := exec_of_table htable
    exact ⟨_, meaning, writeRow_iff.2 ⟨hcode, hobject⟩, hexec⟩
  · exact ⟨_, _, undefinedCode_iff.2 hcode, fun _ => rfl⟩

/-- Settles O5. -/
theorem framesIgnoredAnsweredOrDropped : Obligations.FramesIgnoredAnsweredOrDropped := by
  refine ⟨fun s r => ⟨fun hfill => ?_, fun hs hcode => request_refused hs (undefinedCode_iff.2 hcode) rfl⟩,
    fun c r s hc htaken hfull => ?_⟩
  · change execFillFrame s = _
    rw [execFillFrame, hfill]
  · obtain ⟨row, meaning, hrow, hexec⟩ := exec_of_rowTakes hc
    rw [hexec, request_full htaken hrow hfull]

/-! ### The words of frames -/

theorem requestOf_content {r : Request} (h : r.Fits) : requestOf r.content.tail = r := by
  obtain ⟨hcode, hobject, hindex, hcount, -⟩ := h
  have htag := r.tag.isLt
  have hhigh : bits (word (r.tag.toNat * 256 + r.code)) 8 8 = r.tag.toNat := by
    rw [bits_word]
    omega
  have hlow : bits (word (r.tag.toNat * 256 + r.code)) 0 8 = r.code := by
    rw [bits_word]
    omega
  have hfields : requestOf r.content.tail =
      { tag := BitVec.ofNat 8 (bits (word (r.tag.toNat * 256 + r.code)) 8 8)
        code := bits (word (r.tag.toNat * 256 + r.code)) 0 8
        object := (word r.object).toNat
        index := (word r.index).toNat
        count := (word r.count).toNat
        data := r.data } := rfl
  rw [hfields, hhigh, hlow, word_toNat_of_lt hobject, word_toNat_of_lt hindex, word_toNat_of_lt hcount, BitVec.ofNat_toNat,
    BitVec.setWidth_eq]

theorem takeFrame_request {r : Request} (h : r.Fits) : takeFrame (r.content ++ [crc16 r.content]) = .manage r := by
  have hroom : r.data.length ≤ 32 := h.2.2.2.2
  have hsort := sortFrame_manage (hdr := word (2 * 4096 + r.data.length * 64)) (body := r.content.tail) (n := r.data.length)
    (by rw [bits_word]; omega) (by rw [bits_word]; omega) hroom (by simp [Request.content]; omega)
  rw [requestOf_content h] at hsort
  exact (takeFrame_crc _ _).trans hsort

theorem patchField?_num (f : PatchField) : patchField? f.num = some f := by cases f <;> rfl

theorem PatchField.num_lt (f : PatchField) : f.num < 4 := by cases f <;> decide

theorem word_msb (w : Word) : w.msb = decide (32768 ≤ w.toNat) := by
  rw [BitVec.msb_eq_decide]

theorem patchWordOf_words (p : PatchWord) :
    patchWordOf (word (flagCode p.view1 * 32768 + p.offset.val * 4096 + p.field.num * 1024)) p.value = p := by
  obtain ⟨view1, offset, field, value⟩ := p
  have hoffset := offset.isLt
  have hfield := field.num_lt
  have hflag : flagCode view1 = if view1 then 1 else 0 := rfl
  have hview : (word (flagCode view1 * 32768 + offset.val * 4096 + field.num * 1024)).msb = view1 := by
    rw [word_msb, word_toNat, hflag]
    cases view1
    · exact decide_eq_false (by simp only [Bool.false_eq_true, if_false]; omega)
    · exact decide_eq_true (by simp only [if_true]; omega)
  have hbits : bits (word (flagCode view1 * 32768 + offset.val * 4096 + field.num * 1024)) 12 3 = offset.val := by
    rw [bits_word, hflag]
    split_ifs <;> omega
  have hcode : bits (word (flagCode view1 * 32768 + offset.val * 4096 + field.num * 1024)) 10 2 = field.num := by
    rw [bits_word, hflag]
    split_ifs <;> omega
  rw [patchWordOf]
  simp only [hview, hbits, hcode, patchField?_num, Option.getD_some]

theorem patchWordsOf_words (ps : List PatchWord) : patchWordsOf (ps.flatMap PatchWord.words) = ps := by
  induction ps with
  | nil => rfl
  | cons p ps ih =>
    change patchWordOf _ _ :: patchWordsOf (ps.flatMap PatchWord.words) = p :: ps
    rw [ih, patchWordOf_words]

theorem length_patchWords (ps : List PatchWord) : (ps.flatMap PatchWord.words).length = 2 * ps.length := by
  induction ps with
  | nil => rfl
  | cons p ps ih =>
    rw [List.flatMap_cons, List.length_append, ih, List.length_cons]
    change 2 + _ = _
    omega

theorem sampleOf_content (f : SampleFrame) : sampleOf f.samples.length f.content.tail = f := by
  change { seq := f.seq, samples := (f.samples ++ _).take f.samples.length, patches := patchWordsOf ((f.samples ++ _).drop f.samples.length) } = f
  rw [List.take_left, List.drop_left, patchWordsOf_words]

theorem takeFrame_sample {f : SampleFrame} (hlo : 1 ≤ f.samples.length) (hhi : f.samples.length ≤ 32)
    (hpatch : f.patches.length ≤ 4) : takeFrame (f.content ++ [crc16 f.content]) = .sample f := by
  have hsort := sortFrame_sample (hdr := word (4096 + f.samples.length * 64 + f.patches.length * 8)) (body := f.content.tail)
    (n := f.samples.length) (p := f.patches.length) (by rw [bits_word]; omega) (by rw [bits_word]; omega)
    (by rw [bits_word]; omega) hlo hhi hpatch
    (by rw [SampleFrame.content, List.tail_cons, List.length_cons, List.length_append, length_patchWords]; omega)
  rw [sampleOf_content] at hsort
  exact (takeFrame_crc _ _).trans hsort

theorem Status.code_lt (st : Status) : st.code < 256 := by cases st <;> decide

theorem onLine_reply {r : Reply} (h : r.data.length ≤ 32) :
    ∃ hdr w : Word, (UpFrame.reply r).onLine = hdr :: w :: (r.data ++ [crc16 (hdr :: w :: r.data)])
      ∧ bits hdr 12 4 = 9 ∧ bits hdr 6 6 = r.data.length ∧ bits hdr 0 6 = 0 ∧ bits w 8 8 = r.tag.toNat
      ∧ bits w 0 8 = r.status.code := by
  have htag := r.tag.isLt
  have hcode := r.status.code_lt
  refine ⟨_, _, rfl, ?_, ?_, ?_, ?_, ?_⟩ <;> rw [bits_word] <;> omega

theorem onLine_report (m : BitVec 8) (tk : BitVec 32) :
    ∃ hdr w hi lo : Word, (UpFrame.report m tk).onLine = [hdr, w, hi, lo, crc16 [hdr, w, hi, lo]]
      ∧ bits hdr 12 4 = 10 ∧ bits hdr 0 12 = 0 ∧ (∀ c, w.getLsbD c = m.getLsbD c)
      ∧ hi.toNat * 65536 + lo.toNat = tk.toNat := by
  obtain ⟨hi, lo, hwords, htick⟩ := words32_spec tk
  refine ⟨word (10 * 4096), word m.toNat, hi, lo, ?_, by decide, by decide, fun c => ?_, htick⟩
  · simp only [UpFrame.onLine, UpFrame.content, hwords, List.cons_append, List.nil_append]
  · have hsmall := m.isLt
    rw [BitVec.getLsbD, word_toNat, Nat.mod_eq_of_lt (by omega)]
    rfl

theorem onLine_capture (k : SetNo) (h : HalfName) (seq : Word) (tk : BitVec 32) {n : Nat} {rs : List (List Word)}
    (hn : n ≤ 8) (hrs : rs.length ≤ 64) :
    ∃ hdr w hi lo : Word,
      (UpFrame.capture k h seq tk n rs).onLine
          = hdr :: w :: seq :: hi :: lo :: (rs.flatten ++ [crc16 (hdr :: w :: seq :: hi :: lo :: rs.flatten)])
        ∧ bits hdr 12 4 = 11 ∧ bits hdr 0 12 = 0
        ∧ bits w 15 1 = k.val ∧ bits w 14 1 = (match h with | .a => 0 | .b => 1) ∧ bits w 10 4 = n ∧ bits w 7 3 = 0
        ∧ bits w 0 7 = rs.length ∧ hi.toNat * 65536 + lo.toNat = tk.toNat := by
  obtain ⟨hi, lo, hwords, htick⟩ := words32_spec tk
  have hk := k.isLt
  refine ⟨word (11 * 4096), word (k.val * 32768 + (if h = .b then 16384 else 0) + n * 1024 + rs.length), hi, lo, ?_,
    by decide, by decide, ?_, ?_, ?_, ?_, ?_, htick⟩
  · simp only [UpFrame.onLine, UpFrame.content, hwords, List.cons_append, List.nil_append]
  all_goals
    rw [bits_word]
    cases h <;> simp only [if_true, if_false, reduceCtorEq] <;> omega

/-- Settles O6. -/
theorem downstreamFramesRoundTrip : Obligations.DownstreamFramesRoundTrip := by
  refine ⟨fun r => takeFrame_request, fun f => takeFrame_sample, fun r h => ?_, onLine_report,
    fun k h seq tk n rs hn hrs => onLine_capture k h seq tk hn hrs, word (12 * 4096), rfl, by decide, by decide⟩
  obtain ⟨hdr, w, hline, hkind, hcount, hrest, htag, hcode⟩ := onLine_reply h
  refine ⟨hdr, w, hline, hkind, hcount, hrest, htag, hcode.trans ?_⟩
  cases r.status <;> rfl

/-! ### Which commands complete -/

theorem index?_isSome {n i : Nat} (h : decide (i < n) = true) : ∃ k, index? n i = some k :=
  ⟨⟨i, of_decide_eq_true h⟩, dif_pos _⟩

theorem index?_of_not_lt {n i : Nat} (h : decide (i < n) = false) : index? n i = none :=
  index?_eq_none (Nat.not_lt.1 (of_decide_eq_false h))

theorem request_next (row : Request → Bool) (meaning : Request → State → Answer) (s : State) :
    ∃ t, request row meaning s = .next t := by
  rcases request_cases row meaning s with ⟨r, -, -, h⟩ | ⟨r, -, -, -, h⟩ | h <;> exact ⟨_, h⟩

/-- A request row whose frame does not stand in the buffer does not occur (log 1, log 2). -/
theorem request_none {row : Request → Bool} {s : State} (meaning : Request → State → Answer)
    (h : ∀ r, s.taken? = some (.manage r) → row r = false) : request row meaning s = .next s := by
  have hnone : s.request? row = none := by
    unfold State.request?
    split
    · rw [h _ ‹_›]
      rfl
    · rfl
  rw [request, hnone]

/-- A command that names an object, where the object exists and where it does not. -/
theorem exec_indexed {n i : Nat} {outcome : Host.Outcome State Fault Refusal}
    (hsome : ∀ k : Fin n, index? n i = some k → ∃ t, outcome = .next t)
    (hnone : index? n i = none → outcome = .fault .noSuchObject) :
    (decide (i < n) = true → ∃ t, outcome = .next t) ∧ (decide (i < n) = false → outcome = .fault .noSuchObject) := by
  refine ⟨fun h => ?_, fun h => hnone (index?_of_not_lt h)⟩
  obtain ⟨k, hk⟩ := index?_isSome h
  exact hsome k hk

theorem exec_wellFormed (c : Instr) (s : State) :
    (c.wellFormed = true → ∃ t, exec c s = .next t) ∧ (c.wellFormed = false → exec c s = .fault .noSuchObject) := by
  cases c
  case trackSpanEnd i | watchFire i | slotDelayExpiry i | entryDurationExpiry i | captureRecordDue i | captureLengthReached i =>
    refine exec_indexed (fun k hk => ?_) fun hnone => ?_
    · simp only [exec, execTrackSpanEnd, execWatchFire, execSlotDelayExpiry, execEntryDurationExpiry, execCaptureRecordDue,
        execCaptureLengthReached, hk]
      exact ⟨_, rfl⟩
    · simp only [exec, execTrackSpanEnd, execWatchFire, execSlotDelayExpiry, execEntryDurationExpiry, execCaptureRecordDue,
        execCaptureLengthReached, hnone]
  case deliveryComplete | safeDeliveryComplete =>
    refine ⟨fun _ => ?_, nofun⟩
    unfold exec
    simp only [execDeliveryComplete, execSafeDeliveryComplete]
    split <;> exact ⟨_, rfl⟩
  case wordReceived | startMark | codeViolation | frameRejected | sampleFrame | fillFrame | frameTimerExpiry | heldTickRelease
      | flowLive | flowStarved | starveTimerExpiry | upstreamFrameEnd | resetNAssert | initStart | initEnd
      | safeNAssert | safeNRelease => exact ⟨fun _ => ⟨_, rfl⟩, nofun⟩
  all_goals exact ⟨fun _ => request_next _ _ s, nofun⟩

/-- Settles O2. -/
theorem commandsStopOnlyOnAbsentObjects : Obligations.CommandsStopOnlyOnAbsentObjects := by
  intro c s
  obtain ⟨hnext, hfault⟩ := exec_wellFormed c s
  refine ⟨hnext, hfault, fun hc hno => ?_⟩
  obtain ⟨row, meaning, hrow, hexec⟩ := exec_of_row hc
  rw [hexec]
  exact request_none meaning fun r htaken => Bool.eq_false_iff.2 fun hr => hno r htaken (hrow r hr)

end Sys2Proof.Machine
end

section
/-! Counters and events (11.1 to 11.3), transforms and the advance by kind (4.5 to 4.7), SET STANDING and PATCH (4.3). -/

namespace Sys2Proof.Machine

/-! ### Counters and events -/

section
variable {i : CounterNo} {n : Nat} {s : State}

theorem advance_of_within (h : s.events.counters[i].toNat + n ≤ 65535) : advance i n s = bumpCounter i n s :=
  if_neg (by omega)

theorem advance_of_past (h : 65535 < s.events.counters[i].toNat + n) :
    advance i n s = raise (.counterWrap i) (bumpCounter i n s) := if_pos h

theorem masked_counterWrap (i : CounterNo) (s : State) : masked (.counterWrap i) s = s.setup.masks.getLsbD 6 := by
  rw [masked, Event.category_counterWrap]

theorem advance_toNat (i : CounterNo) (n : Nat) (s : State) :
    ((advance i n s).events.counters[i]).toNat = (s.events.counters[i].toNat + n) % 65536 := by
  rw [Fin.getElem_fin, advance_counter, if_pos rfl, word_toNat]

end

theorem getLsbD_or_twoPow {w : Nat} (x : BitVec w) {k i : Nat} (hi : i < w) :
    (x ||| BitVec.twoPow w k).getLsbD i = true ↔ i = k ∨ x.getLsbD i = true := by
  rw [BitVec.getLsbD_or, BitVec.getLsbD_twoPow, Bool.or_eq_true, Bool.and_eq_true, decide_eq_true_eq, decide_eq_true_eq, or_comm]
  exact or_congr_left ⟨fun h => h.2.symm, fun h => ⟨by omega, h.symm⟩⟩

/-- Settles O48. -/
theorem countersWrapAndEventsSetTheirFlag : Obligations.CountersWrapAndEventsSetTheirFlag := by
  refine ⟨fun i n s _ _ => ⟨advance_toNat i n s, fun j hj => advance_counter_ne (Ne.symm hj) n s, fun h => ?_, fun h hmask => ?_,
    fun h hmask => ?_⟩, fun e s => ⟨e.flag_lt, e.category_lt, raise_masked, fun hmask => ?_⟩⟩
  · rw [advance_of_within h]
    exact ⟨rfl, rfl, rfl⟩
  · have hunmasked : masked (.counterWrap i) (bumpCounter i n s) = false := (masked_counterWrap i _).trans hmask
    have hcategory : BitVec.twoPow 8 (Event.counterWrap i).category = 64#8 := by
      rw [Event.category_counterWrap]
      decide
    rw [advance_of_past h, raise_unmasked hunmasked]
    exact ⟨rfl, congrArg (s.events.summary ||| ·) hcategory⟩
  · have hmasked : masked (.counterWrap i) (bumpCounter i n s) = true := (masked_counterWrap i _).trans hmask
    rw [advance_of_past h, raise_masked hmasked]
    exact ⟨rfl, rfl⟩
  · have hunmasked : masked e s = false := hmask
    rw [raise_unmasked hunmasked]
    exact ⟨fun f hf => getLsbD_or_twoPow _ hf, fun c hc => getLsbD_or_twoPow _ hc, by simp, rfl⟩

/-! ### Transforms and the advance -/

section
variable {x : Context} (L : Int) (w v : Word)

theorem transform_of_off (h : x.fields.duty.getLsbD x.patternIndex = false) : transform x L w v = v.toInt :=
  if_neg (Bool.eq_false_iff.1 h)

theorem transform_of_on (h : x.fields.duty.getLsbD x.patternIndex = true) : transform x L w v = transformOn x L w v :=
  if_pos h

theorem transformOn_freeze {F : Int} (h : x.fields.kind = .freeze) (hF : x.freeze = some F) : transformOn x L w v = F := by
  simp only [transformOn, h, hF, Option.getD_some]

theorem transformOn_gap_on (h : x.fields.kind = .gap) (hphase : x.gapPhase < x.fields.gapOn) :
    transformOn x L w v = v.toInt := by
  simp only [transformOn, h, hphase, if_true]

theorem transformOn_gap_off {g : Int} (h : x.fields.kind = .gap) (hphase : x.fields.gapOn ≤ x.gapPhase)
    (hg : x.gapHeld = some g) : transformOn x L w v = g := by
  simp only [transformOn, h, hg, Nat.not_lt.2 hphase, if_false, Option.getD_some]

theorem transformOn_ramp (h : x.fields.kind = .ramp) : transformOn x L w v
    = (v.toInt * x.fields.gain.toInt + 2048) / 4096 + x.fields.offset.toInt + (x.drift + 128) / 256 := by
  simp only [transformOn, h, round12, round8]

/-- The limited sum, as the smaller and the greater of its bounds. -/
theorem limitDrift_eq (limit : Nat) (d : Int) :
    limitDrift limit d = max (-((limit : Int) * 256)) (min ((limit : Int) * 256) d) := by
  unfold limitDrift
  split_ifs <;> omega

end

/-- A position in a cycle moves on by one, and back to 0 at the cycle's end. -/
theorem cycle_next {p n : Nat} (h : p + 1 < n) : (p + 1) % n = p + 1 := Nat.mod_eq_of_lt h

theorem cycle_end {p n : Nat} (h : p + 1 = n) : (p + 1) % n = 0 := by rw [h, Nat.mod_self]

/-- Settles O18. -/
theorem transformAndAdvanceByKind : Obligations.TransformAndAdvanceByKind := by
  refine ⟨fun x L w v hx hL => ⟨transform_range hL hx w v, transform_of_off L w v, fun hon => ?_⟩, fun x v hx =>
    ⟨limitDrift_eq _ _, rfl, cycle_next, cycle_end, cycle_next, cycle_end, rfl, rfl, rfl, rfl, advanceContext_legal v hx⟩⟩
  rw [transform_of_on L w v hon]
  refine ⟨fun hkind => ?_, fun hkind => ?_, fun F => transformOn_freeze L w v, fun hkind => ?_, transformOn_gap_on L w v,
    fun g => transformOn_gap_off L w v, fun hkind => ⟨transformOn_ramp L w v hkind, ?_⟩⟩
  · simp only [transformOn, hkind]
  · simp only [transformOn, hkind]
  · simp only [transformOn, hkind]
  · obtain ⟨hlo, hhi⟩ := hx.drift_range
    omega

/-! ### SET STANDING and PATCH -/

section
variable {s : State} {r : Request} {c : Chan}

theorem setStandingRequest_noIndex (h : 32 ≤ r.object ∨ 256 ≤ r.index) : setStandingRequest r s = refuse .noIndex s := by
  unfold setStandingRequest
  rcases h with h | h
  · rw [index?_eq_none h]
  · rw [index?_eq_none h]
    split
    · cases ‹_›
    · rfl

theorem setStandingRequest_eq {o : Fin 256} (hc : r.object = c.val) (ho : r.index = o.val) :
    setStandingRequest r s
      = if s.safe.asserted then refuse .safe s
        else if s.bank[o].pin = .toPartner ∧ s.bank[o].partner = c then refuse .badPartner s
        else done [] (installBase c s.bank[o] s) := by
  unfold setStandingRequest
  rw [hc, ho, index?_val, index?_val]

/-- The base context a SET STANDING installs; its kept values are settled where it is active (R52, R53). -/
theorem installBase_eq (c : Chan) (o : OverlayRecord) (s : State) :
    let first : Option Int := if s.own[c].active.isSome = true then none else some s.channels.last[c]
    installBase c o s = s.setOwn c { s.own[c] with base :=
      { fields := o, owner := none, priority := -1, drift := 0, gapPhase := 0, gapHeld := first, patternIndex := 0,
        freeze := first } } := by
  unfold installBase
  cases h : s.own[c].active with
  | none => rfl
  | some a => rfl

theorem patchRequest_noIndex (h : 32 ≤ r.object) : patchRequest r s = refuse .noIndex s := by
  unfold patchRequest
  rw [index?_eq_none h]

theorem patchField?_eq_none {n : Nat} (h : 4 ≤ n) : patchField? n = none := by
  rw [patchField?, if_neg (by omega), if_neg (by omega), if_neg (by omega), if_neg (by omega)]

theorem patchField?_of_lt {n : Nat} (h : n < 4) : ∃ f, patchField? n = some f := by
  interval_cases n <;> exact ⟨_, rfl⟩

theorem patchRequest_range (hc : r.object = c.val) (h : r.data = [] ∨ 4 ≤ r.count) : patchRequest r s = refuse .range s := by
  unfold patchRequest
  rw [hc, index?_val]
  rcases h with h | h
  · rw [h]
  · rw [patchField?_eq_none h]
    cases r.data <;> rfl

theorem patchRequest_eq {f : PatchField} {v : Word} {ds : List Word} (hc : r.object = c.val) (hd : r.data = v :: ds)
    (hf : patchField? r.count = some f) :
    patchRequest r s
      = if s.enabled c then
          done [word (ownerCode s.own[c].current), patchRead f s.own[c].current] (patchChannel c f v s)
        else refuse .channelOff s := by
  unfold patchRequest
  rw [hc, index?_val, hd, hf]

/-- A patch replaces the fields of the active context. -/
theorem patchChannel_eq (f : PatchField) (v : Word) :
    patchChannel c f v s = s.setOwn c
      (match s.own[c].active with
        | some a => { s.own[c] with active := some { a with fields := (patchWrite f v s.own[c].current).fields } }
        | none => { s.own[c] with base := { s.own[c].base with fields := (patchWrite f v s.own[c].current).fields } }) := by
  unfold patchChannel
  obtain ⟨base, active, stack, waiting⟩ := s.own[c]
  cases active <;> cases f <;> rfl

theorem exec_patch {f : PatchField} {v : Word} {ds : List Word} (hs : s.serves r) (hr : r.code = 6) (hc : r.object = c.val)
    (hd : r.data = v :: ds) (hf : patchField? r.count = some f) (he : s.enabled c = true) :
    exec .patch s = .next (State.answered r .ok [word (ownerCode s.own[c].current), patchRead f s.own[c].current]
      (s.toHunt.setOwn c
        (match s.own[c].active with
          | some a => { s.own[c] with active := some { a with fields := (patchWrite f v s.own[c].current).fields } }
          | none => { s.own[c] with base := { s.own[c].base with fields := (patchWrite f v s.own[c].current).fields } }))) := by
  refine request_done hs (codeIs_of hr) ((patchRequest_eq hc hd hf).trans ?_)
  have henabled : s.toHunt.enabled c = true := he
  rw [if_pos henabled, patchChannel_eq]
  rfl

end

theorem setStanding_answers (s : State) (r : Request) (hs : s.serves r) (hr : r.code = 5) :
    ((32 ≤ r.object ∨ 256 ≤ r.index) → exec .setStanding s = .next (s.toHunt.answered r .noIndex []))
    ∧ ∀ (c : Chan) (o : Fin 256), r.object = c.val → r.index = o.val →
      (s.safe.asserted = true → exec .setStanding s = .next (s.toHunt.answered r .safe []))
      ∧ (s.safe.asserted = false → s.bank[o].pin = .toPartner → s.bank[o].partner = c →
        exec .setStanding s = .next (s.toHunt.answered r .badPartner []))
      ∧ (s.safe.asserted = false → ¬ (s.bank[o].pin = .toPartner ∧ s.bank[o].partner = c) →
        exec .setStanding s = .next (State.answered r .ok [] (installBase c s.bank[o] s.toHunt))) := by
  refine ⟨fun h => request_refused hs (codeIs_of hr) (setStandingRequest_noIndex h), fun c o hc ho => ?_⟩
  have heq := setStandingRequest_eq (s := s.toHunt) hc ho
  refine ⟨fun hsafe => ?_, fun hsafe hpin hpartner => ?_, fun hsafe hpin => ?_⟩
  · exact request_refused hs (codeIs_of hr) (heq.trans (if_pos hsafe))
  · exact request_refused hs (codeIs_of hr)
      ((heq.trans (if_neg (Bool.eq_false_iff.1 hsafe))).trans (if_pos ⟨hpin, hpartner⟩))
  · exact request_done hs (codeIs_of hr) ((heq.trans (if_neg (Bool.eq_false_iff.1 hsafe))).trans (if_neg hpin))

/-- Settles O19. -/
theorem setStandingAndPatchReachContexts : Obligations.SetStandingAndPatchReachContexts := by
  refine ⟨fun s r hs hr => ?_, fun s r hs hr => ⟨fun h => request_refused hs (codeIs_of hr) (patchRequest_noIndex h),
    fun c hc => ⟨fun h => request_refused hs (codeIs_of hr) (patchRequest_range hc h), fun hd hcount he => ?_,
      fun v ds hd he => ?_⟩⟩⟩
  · obtain ⟨hindex, hrest⟩ := setStanding_answers s r hs hr
    refine ⟨hindex, fun c o hc ho => ?_⟩
    obtain ⟨hsafe, hpartner, hdone⟩ := hrest c o hc ho
    refine ⟨hsafe, hpartner, fun h hp => (hdone h hp).trans ?_⟩
    rw [installBase_eq]
    rfl
  · obtain ⟨v, ds, hd⟩ := List.exists_cons_of_ne_nil hd
    obtain ⟨f, hf⟩ := patchField?_of_lt hcount
    exact request_refused hs (codeIs_of hr)
      ((patchRequest_eq hc hd hf).trans (if_neg (Bool.eq_false_iff.1 he)))
  · refine ⟨fun h => ?_, fun h => ?_, fun h => ?_, fun h => ?_⟩
    · exact exec_patch hs hr hc hd (f := .gain) (by rw [h]; rfl) he
    · exact exec_patch hs hr hc hd (f := .offset) (by rw [h]; rfl) he
    · exact exec_patch hs hr hc hd (f := .hold) (by rw [h]; rfl) he
    · exact exec_patch hs hr hc hd (f := .step) (by rw [h]; rfl) he

end Sys2Proof.Machine
end

section
/-! The requests that read and write memories and records as they stand (8.1, 10.2). -/

namespace Sys2Proof.Machine

/-! ### Replay Memory -/

section
variable {s : State} {r : Request}

theorem readMemoryRequest_noIndex (h : 65536 < r.index + r.count) : readMemoryRequest r s = refuse .noIndex s := if_pos h

theorem readMemoryRequest_eq (h : r.index + r.count ≤ 65536) :
    readMemoryRequest r s
      = { state := s, status := if r.count ≤ 32 then .ok else .part
          data := Mem.readAll s.replay.mem r.index (min 32 r.count) } := by
  unfold readMemoryRequest
  rw [if_neg (Nat.not_lt.2 h)]
  by_cases hc : r.count ≤ 32
  · rw [if_pos (show r.count ≤ Config.dataRoom from hc), if_pos hc, min_eq_right hc]
    rfl
  · rw [if_neg (show ¬ r.count ≤ Config.dataRoom from hc), if_neg hc, min_eq_left (by omega)]

theorem writeMemoryRequest_noIndex (h : 65536 < r.index + r.data.length) : writeMemoryRequest r s = refuse .noIndex s :=
  if_pos h

theorem writeMemoryRequest_eq (h : r.index + r.data.length ≤ 65536) :
    writeMemoryRequest r s
      = done [] { s with replay := { s.replay with mem := Mem.writeAll s.replay.mem r.index r.data } } :=
  if_neg (Nat.not_lt.2 h)

end

theorem Mem.read_writeAll_written {m : Mem} (h : Mem.Wf m) (a : Nat) {vs : List Word} {j : Nat} (hj : j < vs.length) :
    Mem.read (Mem.writeAll m a vs) (a + j) = vs.getD j 0 := by
  rw [Mem.read_writeAll vs h, if_pos (by omega), Nat.add_sub_cancel_left]

theorem Mem.read_writeAll_outside {m : Mem} (h : Mem.Wf m) {a b : Nat} {vs : List Word} (hb : b < a ∨ a + vs.length ≤ b) :
    Mem.read (Mem.writeAll m a vs) b = Mem.read m b := by
  rw [Mem.read_writeAll vs h, if_neg (by omega)]

/-- Settles O35. -/
theorem replayMemoryReadsAndWrites : Obligations.ReplayMemoryReadsAndWrites := by
  intro s r hs
  refine ⟨fun hr => ⟨fun h => ?_, fun h => ?_⟩, fun hr => ⟨fun h => ?_, fun h hwf =>
    ⟨Mem.writeAll s.replay.mem r.index r.data, ?_, ?_⟩⟩⟩
  · exact request_refused hs (codeIs_of hr) (readMemoryRequest_noIndex h)
  · exact request_answers hs (codeIs_of hr) (readMemoryRequest_eq h)
  · exact request_refused hs (codeIs_of hr) (writeMemoryRequest_noIndex h)
  · exact request_done hs (codeIs_of hr) (writeMemoryRequest_eq h)
  · exact ⟨Mem.writeAll_wf _ hwf _, fun j => Mem.read_writeAll_written hwf _, fun a => Mem.read_writeAll_outside hwf⟩

/-! ### READ RECORD -/

section
variable {s : State} {r : Request} {v : TableView} {record : Nat → List Word}

theorem tableView?_eq_none {object : Nat} (h : object = 0 ∨ 9 < object) : tableView? s object = none := by
  unfold tableView?
  split <;> first | omega | rfl

theorem readRecordRequest_noIndex (hv : tableView? s r.object = some v) (h : v.size ≤ r.index ∨ v.size < r.index + r.count) :
    readRecordRequest r s = refuse .noIndex s := by
  unfold readRecordRequest
  rw [hv]
  exact if_pos h

theorem TableView.records_congr {i c : Nat} (hrec : ∀ j, j < v.size → v.record j = record j) (h : i + c ≤ v.size) :
    v.records i c = (List.range c).flatMap fun j => record (i + j) := by
  unfold TableView.records
  refine List.flatMap_congr fun j hj => hrec _ ?_
  have := List.mem_range.1 hj
  omega

theorem readRecordRequest_eq {room : Nat} (hv : tableView? s r.object = some v) (hi : r.index < v.size)
    (hc : r.index + r.count ≤ v.size) (hroom : 32 / v.readWords = room) (hrec : ∀ j, j < v.size → v.record j = record j) :
    readRecordRequest r s
      = { state := s, status := if r.count ≤ room then .ok else .part
          data := (List.range (min room r.count)).flatMap fun j => record (r.index + j) } := by
  unfold readRecordRequest
  rw [hv]
  simp only []
  rw [if_neg (by omega), show Config.dataRoom / v.readWords = room from hroom]
  by_cases h : r.count ≤ room
  · rw [if_pos h, if_pos h, min_eq_right h, TableView.records_congr hrec hc]
    rfl
  · rw [if_neg h, if_neg h, min_eq_left (by omega), TableView.records_congr hrec (by omega)]

/-- READ RECORD of a table, whatever it holds. -/
theorem exec_readRecord {size room words : Nat} (hs : s.serves r) (hr : r.code = 1) (hv : tableView? s r.object = some v)
    (hsize : v.size = size) (hread : v.readWords = words) (hroom : 32 / words = room) (hrec : ∀ j, j < v.size → v.record j = record j)
    (hwords : ∀ j, j < v.size → (v.record j).length = words) :
    ((size ≤ r.index ∨ size < r.index + r.count) → exec .readRecord s = .next (s.toHunt.answered r .noIndex []))
    ∧ (r.index < size → r.index + r.count ≤ size →
      exec .readRecord s
        = .next (s.toHunt.answered r (if r.count ≤ room then .ok else .part)
            ((List.range (min room r.count)).flatMap fun j => record (r.index + j)))
      ∧ ∀ j, j < size → (record j).length = words) := by
  subst hsize hread
  refine ⟨fun h => request_refused hs (codeIs_of hr) (readRecordRequest_noIndex hv h), fun hi hc => ⟨?_, fun j hj => ?_⟩⟩
  · exact request_answers hs (codeIs_of hr) (readRecordRequest_eq hv hi hc hroom hrec)
  · rw [← hrec j hj]
    exact hwords j hj

end

theorem CaptureRecord.length_words (x : CaptureRecord) : x.words.length = 11 := by
  simp [CaptureRecord.words]

theorem length_mapEntryWords (e : Option Chan) : (mapEntryWords e).length = 1 := by cases e <;> rfl

theorem Mem.length_readAll (m : Mem) (a n : Nat) : (Mem.readAll m a n).length = n := by simp [Mem.readAll]

/-- Settles O42: the table's view agrees with the records, and each record has the table's number of words. -/
theorem readRecordAnswersWholeRecords : Obligations.ReadRecordAnswersWholeRecords := by
  intro s r hs hr
  refine ⟨fun h => request_refused hs (codeIs_of hr) ?_, fun size words room record h => ?_⟩
  · unfold readRecordRequest
    rw [tableView?_eq_none h]
  rcases h with ⟨ho, rfl, rfl, rfl, hrec⟩ | ⟨ho, rfl, rfl, rfl, hrec⟩ | ⟨ho, rfl, rfl, rfl, hrec⟩ | ⟨ho, rfl, rfl, rfl, hrec⟩
    | ⟨ho, rfl, rfl, rfl, hrec⟩ | ⟨ho, rfl, rfl, rfl, hrec⟩ | ⟨ho, rfl, rfl, rfl, hrec⟩ | ⟨ho, rfl, rfl, rfl, hrec⟩
    | ⟨ho, rfl, rfl, rfl, hrec⟩
  · refine exec_readRecord hs hr (congrArg (tableView? s) ho) rfl rfl (by decide) (fun j hj => ?_) fun j hj => ?_
    · exact (dif_pos hj).trans (hrec ⟨j, hj⟩).symm
    · exact congrArg List.length (dif_pos hj)
  · refine exec_readRecord hs hr (congrArg (tableView? s) ho) rfl rfl (by decide) (fun j hj => ?_) fun j hj => ?_
    · exact (dif_pos hj).trans (hrec ⟨j, hj⟩).symm
    · exact (congrArg List.length (dif_pos hj)).trans (length_mapEntryWords _)
  · refine exec_readRecord hs hr (congrArg (tableView? s) ho) rfl rfl (by decide) (fun j hj => ?_) fun j hj => ?_
    · exact (dif_pos hj).trans (hrec ⟨j, hj⟩).symm
    · exact congrArg List.length (dif_pos hj)
  · exact exec_readRecord hs hr (congrArg (tableView? s) ho) rfl rfl (by decide) (fun j _ => (hrec j).symm)
      fun j _ => Mem.length_readAll _ _ _
  · exact exec_readRecord hs hr (congrArg (tableView? s) ho) rfl rfl (by decide) (fun j _ => (hrec j).symm)
      fun j _ => Mem.length_readAll _ _ _
  · refine exec_readRecord hs hr (congrArg (tableView? s) ho) rfl rfl (by decide) (fun j hj => ?_) fun j hj => ?_
    · exact (dif_pos hj).trans (hrec ⟨j, hj⟩).symm
    · exact congrArg List.length (dif_pos hj)
  · refine exec_readRecord hs hr (congrArg (tableView? s) ho) rfl rfl (by decide) (fun j hj => ?_) fun j hj => ?_
    · exact (dif_pos hj).trans (hrec ⟨j, hj⟩).symm
    · exact congrArg List.length (dif_pos hj)
  · refine exec_readRecord hs hr (congrArg (tableView? s) ho) rfl rfl (by decide) (fun j hj => ?_) fun j hj => ?_
    · exact (dif_pos hj).trans (hrec ⟨j, hj⟩).symm
    · exact (congrArg List.length (dif_pos hj)).trans (CaptureRecord.length_words _)
  · obtain ⟨hno, hyes⟩ := exec_readRecord (room := 5) (words := 6) hs hr (congrArg (tableView? s) ho) rfl rfl (by decide)
      (fun j _ => (hrec j).symm) fun _ _ => rfl
    refine ⟨hno, fun hi hc => ?_⟩
    have hcount : r.count ≤ 1 := le_trans (Nat.le_add_left _ _) hc
    have h := hyes hi hc
    rw [if_pos (le_trans hcount (by decide)), min_eq_right (le_trans hcount (by decide))] at h
    rw [if_pos hcount, min_eq_right hcount]
    exact h

end Sys2Proof.Machine
end

section
/-! The status requests and READ COUNTERS (5.6, 6.2, 8.7, 9.7, 11.1). -/

namespace Sys2Proof.Machine

section
variable {s : State} {r : Request}

/-! ### Slots and tracks -/

theorem exec_slotStatus {n : SlotNo} (hs : s.serves r) (hr : r.code = 12) (hn : r.object = n.val) :
    exec .slotStatus s = .next (s.toHunt.answered r .ok (slotStatusWords (s.slot n))) := by
  refine request_done hs (codeIs_of hr) ?_
  unfold slotStatusRequest
  rw [hn, index?_val]
  rfl

theorem exec_trackStatus {u : TrackNo} (hs : s.serves r) (hr : r.code = 18) (hu : r.object = u.val) :
    exec .trackStatus s = .next (s.toHunt.answered r .ok (trackStatusWords (s.track u))) := by
  refine request_done hs (codeIs_of hr) ?_
  unfold trackStatusRequest
  rw [hu, index?_val]
  rfl

/-- A set of slots built one slot at a time holds the bits of the slots taken into it. -/
theorem getLsbD_foldl_slots (p : SlotNo → Bool) (l : List SlotNo) {i : Nat} (hi : i < 16) : ∀ w : Word,
    (l.foldl (fun w n => if p n then w ||| BitVec.twoPow 16 n.val else w) w).getLsbD i = true
      ↔ w.getLsbD i = true ∨ ∃ n ∈ l, p n = true ∧ n.val = i := by
  induction l with
  | nil => simp
  | cons n l ih =>
    intro w
    rw [List.foldl_cons, ih]
    by_cases hp : p n = true
    · rw [if_pos hp, getLsbD_or_twoPow w hi, List.exists_mem_cons_iff, eq_comm (a := n.val)]
      tauto
    · rw [if_neg hp, List.exists_mem_cons_iff]
      tauto

theorem getLsbD_slotSet (p : SlotState → Bool) (i : SlotNo) : (slotSet p s).getLsbD i.val = p (s.slot i).state := by
  have h := getLsbD_foldl_slots (fun n => p (s.slot n).state) (List.finRange 8) (i := i.val) (by omega) 0
  refine Bool.eq_iff_iff.2 (h.trans ⟨fun h => ?_, fun h => .inr ⟨i, List.mem_finRange i, h, rfl⟩⟩)
  obtain hzero | ⟨n, -, hn, hi⟩ := h
  · rw [BitVec.ofNat_eq_ofNat, BitVec.getLsbD_zero] at hzero
    cases hzero
  · rwa [← Fin.ext hi]

theorem getLsbD_slotSet_of_le (p : SlotState → Bool) {i : Nat} (hi : 8 ≤ i) : (slotSet p s).getLsbD i = false := by
  by_cases h16 : i < 16
  · have h := getLsbD_foldl_slots (fun n => p (s.slot n).state) (List.finRange 8) h16 0
    refine Bool.eq_false_iff.2 fun htrue => ?_
    obtain hzero | ⟨n, -, -, hn⟩ := h.1 htrue
    · rw [BitVec.ofNat_eq_ofNat, BitVec.getLsbD_zero] at hzero
      cases hzero
    · have := n.isLt
      omega
  · exact BitVec.getLsbD_of_ge _ _ (by omega)

/-! ### Counters -/

theorem counterAt_map {i n : Nat} (h : i + n ≤ 66) :
    (List.range n).map (fun j => counterAt s (i + j)) = (s.events.counters.toList.drop i).take n := by
  refine List.ext_getElem (by simp; omega) fun j hj _ => ?_
  have hlt : j < n := by simpa using hj
  have hin : i + j < 66 := by omega
  simp [counterAt, hin]

theorem readCountersRequest_eq (hi : r.index ≤ 65) (hc : r.index + r.count ≤ 66) :
    readCountersRequest r s
      = { state := s, status := if r.count ≤ 32 then .ok else .part
          data := (s.events.counters.toList.drop r.index).take (min 32 r.count) } := by
  unfold readCountersRequest
  rw [if_neg (by omega)]
  by_cases h : r.count ≤ 32
  · rw [if_pos (show r.count ≤ Config.dataRoom from h), if_pos h, min_eq_right h, counterAt_map hc]
    rfl
  · rw [if_neg (show ¬ r.count ≤ Config.dataRoom from h), if_neg h, min_eq_left (by omega),
      counterAt_map (by rw [Config.dataRoom]; omega)]

/-! ### Capture sets -/

theorem exec_captureStatus {k : SetNo} (hs : s.serves r) (hr : r.code = 21) (hk : r.object = k.val) :
    exec .captureStatus s = .next (s.toHunt.answered r .ok (captureStatusWords k s)) := by
  refine request_done hs (codeIs_of hr) ?_
  unfold captureStatusRequest
  rw [hk, index?_val]
  rfl

section
variable {k : SetNo} {h : HalfName}

theorem halfCount_vacant (hst : (s.capture[k].half h).state = .vacant) : halfCount k h s = 0 := by
  simp only [halfCount, hst]

theorem halfCount_filling (hst : (s.capture[k].half h).state = .filling) :
    halfCount k h s = (s.capture[k].half h).records.length := by
  simp only [halfCount, hst]

theorem halfCount_full (hst : (s.capture[k].half h).state = .full) :
    halfCount k h s = (s.capture[k].half h).records.length - sentOf k h s.tx.drain := by
  simp only [halfCount, hst]

theorem sentOf_of_mem {q : List DrainEntry} (hnodup : (q.map fun e => (e.set, e.half)).Nodup) {e : DrainEntry} (he : e ∈ q) :
    sentOf e.set e.half q = e.sent := by
  induction q with
  | nil => cases he
  | cons d q ih =>
    rw [List.map_cons, List.nodup_cons] at hnodup
    rcases List.mem_cons.1 he with rfl | hin
    · exact if_pos ⟨rfl, rfl⟩
    · have hne : ¬ (d.set = e.set ∧ d.half = e.half) := fun ⟨hset, hhalf⟩ =>
        hnodup.1 (List.mem_map.2 ⟨e, hin, by rw [hset, hhalf]⟩)
      exact (if_neg hne).trans (ih hnodup.2 hin)

theorem halfCount_queued (hdrain : s.DrainLegal) {e : DrainEntry} (he : e ∈ s.tx.drain) :
    halfCount e.set e.half s = (s.capture[e.set].half e.half).records.length - e.sent := by
  obtain ⟨hnodup, hfull, -⟩ := hdrain
  rw [halfCount_full ((hfull _ _).2 (List.mem_map.2 ⟨e, he, rfl⟩)), sentOf_of_mem hnodup he]

end

theorem recordsLeft_of_zero {x : CaptureSet} (h : x.record.length = 0) : recordsLeft x = 0 := if_pos h

theorem recordsLeft_of_le {x : CaptureSet} (h : x.recordsDue ≤ x.record.length) :
    recordsLeft x = word (x.record.length - x.recordsDue) := by
  unfold recordsLeft
  split_ifs with hzero
  · rw [hzero, Nat.zero_sub]
    rfl
  · rfl

/-! ### Channels -/

theorem Port.shown_of_none {p : Port} (h : p.sending = none) (ix : Nat) (c : Chan) : (p.shown ix)[c] = p.set[c] := by
  simp only [Port.shown, h]

theorem Port.shown_of_some {p : Port} {d : Delivery} (h : p.sending = some d) (ix : Nat) (c : Chan) :
    (p.shown ix)[c] = if c.val < wordsSent d ix then d.words[c] else p.set[c] := by
  simp [Port.shown, h]

theorem lookAtPort_of_none (h : s.port.sending = none) : lookAtPort s = s := by
  simp only [lookAtPort, h]

theorem lookAtPort_of_some {d : Delivery} (h : s.port.sending = some d) :
    lookAtPort s = { s with
      port := { s.port with sending := some { d with sent := wordsSent d s.freeIx } }, freeIx := s.freeIx + 1 } := by
  simp only [lookAtPort, h]

theorem wordsSent_range {d : Delivery} (h : d.sent ≤ 32) (ix : Nat) : d.sent ≤ wordsSent d ix ∧ wordsSent d ix ≤ 32 := by
  unfold wordsSent
  omega

theorem exec_channelStatus {c : Chan} (hs : s.serves r) (hr : r.code = 8) (hc : r.object = c.val) :
    exec .channelStatus s = .next ((lookAtPort s.toHunt).answered r .ok (channelStatusWords c s)) := by
  refine request_done hs (codeIs_of hr) ?_
  unfold channelStatusRequest
  rw [hc, index?_val]
  rfl

end

/-- The first part of O39: slots, tracks and counters. -/
theorem slotTrackAndCounterStatus (s : State) (r : Request) (hs : s.serves r) :
    (r.code = 12 → ∀ n : SlotNo, r.object = n.val →
      let x := s.slot n
      exec .slotStatus s
        = .next (s.toHunt.answered r .ok
            [word x.state.num, word x.block, word x.latch.target.val, word x.latch.priority, word x.entryIndex,
             word x.entriesLeft, word x.passesLeft, word x.ticksLeft, word x.delayLeft,
             if x.awaiting = true then 1 else 0, word x.fault.num, x.entryAtFault.elim 65535 word]))
    ∧ (r.code = 13 → ∃ busy faulted : Word, exec .slotSummary s = .next (s.toHunt.answered r .ok [busy, faulted])
      ∧ (∀ i : SlotNo, busy.getLsbD i.val = (s.slot i).state.busy)
      ∧ (∀ i : SlotNo, faulted.getLsbD i.val = decide ((s.slot i).state = .faulted))
      ∧ ∀ i, 8 ≤ i → busy.getLsbD i = false ∧ faulted.getLsbD i = false)
    ∧ (r.code = 18 → ∀ u : TrackNo, r.object = u.val →
      let x := s.track u
      (x.desc.mode = .stored →
        exec .trackStatus s
          = .next (s.toHunt.answered r .ok
              [word x.state.num, 0, word x.playhead, word x.phase, word x.desc.base, word x.desc.base, 0, 0, x.presented]))
      ∧ (x.desc.mode = .fed →
        exec .trackStatus s
          = .next (s.toHunt.answered r .ok
              [word x.state.num, 1, 0, word x.phase, word x.readPoint, word x.writePoint, word (x.fill / 65536),
               word x.fill, x.presented]))) := by
  refine ⟨fun hr n hn => ?_, fun hr => ⟨_, _, request_done hs (codeIs_of hr) rfl, getLsbD_slotSet SlotState.busy,
    getLsbD_slotSet _, fun i hi => ⟨getLsbD_slotSet_of_le _ hi, getLsbD_slotSet_of_le _ hi⟩⟩,
    fun hr u hu => ⟨fun hmode => ?_, fun hmode => ?_⟩⟩
  · rw [exec_slotStatus hs hr hn]
    generalize s.slot n = x
    obtain ⟨state, block, latch, entryIndex, entriesLeft, passesLeft, ticksLeft, delayLeft, awaiting, fault, entryAtFault⟩ := x
    cases awaiting <;> cases entryAtFault <;> rfl
  · rw [exec_trackStatus hs hr hu, trackStatusWords, hmode]
    rfl
  · rw [exec_trackStatus hs hr hu, trackStatusWords, hmode]
    rfl

/-- Settles O39. -/
theorem statusRequestsAnswerAsThingsStand : Obligations.StatusRequestsAnswerAsThingsStand := by
  refine ⟨fun s r hs => ?_, fun s r hs => ⟨fun hr h => ?_, fun hr h => ?_, fun hr k hk => ?_, fun hr c hc => ?_⟩⟩
  · obtain ⟨hslot, hsummary, htrack⟩ := slotTrackAndCounterStatus s r hs
    refine ⟨hslot, fun hr h => ?_, hsummary, htrack, fun hr h => ?_, fun hr h => ?_, fun hr hi hc => ?_⟩
    · refine request_refused hs (codeIs_of hr) ?_
      rw [slotStatusRequest, index?_eq_none h]
    · refine request_refused hs (codeIs_of hr) ?_
      rw [trackStatusRequest, index?_eq_none h]
    · exact request_refused hs (codeIs_of hr) (if_pos h)
    · exact request_answers hs (codeIs_of hr) (readCountersRequest_eq hi hc)
  · refine request_refused hs (codeIs_of hr) ?_
    rw [captureStatusRequest, index?_eq_none h]
  · refine request_refused hs (codeIs_of hr) ?_
    rw [channelStatusRequest, index?_eq_none h]
  · refine ⟨word (halfCount k .a s), word (halfCount k .b s), recordsLeft s.capture[k], exec_captureStatus hs hr hk,
      recordsLeft_of_zero, recordsLeft_of_le, fun h => ?_, fun h => ?_, fun h => ?_, fun h => ?_, fun hdrain e he hset => ?_⟩
    · exact congrArg word (halfCount_vacant (h := .a) h)
    · exact congrArg word (halfCount_vacant (h := .b) h)
    · exact congrArg word (halfCount_filling (h := .a) h)
    · exact congrArg word (halfCount_filling (h := .b) h)
    · have hcount := halfCount_queued hdrain he
      subst hset
      exact ⟨fun h => by rw [h] at hcount; exact congrArg word hcount, fun h => by rw [h] at hcount; exact congrArg word hcount⟩
  · refine ⟨lookAtPort s.toHunt, (s.port.shown s.freeIx)[c], ?_, fun h => ⟨Port.shown_of_none h _ c, lookAtPort_of_none h⟩,
      fun d h hsent => ⟨wordsSent d s.freeIx, wordsSent_range hsent _, Port.shown_of_some h _ c, ?_, ?_⟩⟩
    · rw [exec_channelStatus hs hr hc, channelStatusWords]
      simp only [List.append_assoc, List.cons_append, List.nil_append, contextPair]
      rfl
    · rw [lookAtPort_of_some (s := s.toHunt) h]
      rfl
    · rw [lookAtPort_of_some (s := s.toHunt) h]

end Sys2Proof.Machine
end

section
/-! The arbiter at the end of an upstream frame, and the drain of a half (1.4, 9.5, 9.6). -/

namespace Sys2Proof.Machine

section
variable {s t : State} {f : UpFrame} {e : DrainEntry} {es : List DrainEntry}

/-! ### The arbiter's choice -/

theorem choose_reply {r : Reply} {rs : List Reply} (h : s.tx.replies = r :: rs) :
    choose s = { s with tx := { s.tx with replies := rs, line := some (.reply r), lineCounts := false } } := by
  simp only [choose, h]
  rfl

theorem choose_report (h : s.tx.replies = []) (hr : s.tx.report = true) :
    choose s = { s with tx := { s.tx with
      report := false, line := some (.report s.events.summary s.timer.ticks), lineCounts := false } } := by
  simp only [choose, h, hr, if_true]
  rfl

theorem choose_records (h : s.tx.replies = []) (hr : s.tx.report = false) (hd : s.tx.drain = e :: es) :
    choose s = { s with tx := { s.tx with line := some (captureFrame e s), lineCounts := true } } := by
  simp only [choose, putOnLine, h, hr, hd, Bool.false_eq_true, if_false]

theorem choose_idle (h : s.tx.replies = []) (hr : s.tx.report = false) (hd : s.tx.drain = []) :
    choose s = { s with tx := { s.tx with line := some .idle, lineCounts := false } } := by
  simp only [choose, putOnLine, h, hr, hd, Bool.false_eq_true, if_false]

/-- The frame on the line no longer counts for the half it was read from. -/
def State.uncounted (s : State) : State := { s with tx := { s.tx with lineCounts := false } }

theorem raise_uncounted (e : Event) (s : State) : (raise e s).uncounted = raise e s.uncounted := rfl

/-- The arbiter does not ask whether the frame before counted. -/
theorem choose_uncounted (s : State) : choose s.uncounted = choose s := by
  cases hreplies : s.tx.replies with
  | cons r rs =>
    rw [choose_reply hreplies, choose_reply (s := s.uncounted) hreplies]
    rfl
  | nil =>
    cases hreport : s.tx.report with
    | true =>
      rw [choose_report hreplies hreport, choose_report (s := s.uncounted) hreplies hreport]
      rfl
    | false =>
      cases hdrain : s.tx.drain with
      | nil =>
        rw [choose_idle hreplies hreport hdrain, choose_idle (s := s.uncounted) hreplies hreport hdrain]
        rfl
      | cons e es =>
        rw [choose_records hreplies hreport hdrain, choose_records (s := s.uncounted) hreplies hreport hdrain]
        rfl

/-! ### The end of a frame -/

theorem exec_frameEnd (hline : s.tx.line = some f) (hcounts : s.tx.lineCounts = false) :
    exec .upstreamFrameEnd s = .next (choose s) := by
  change execUpstreamFrameEnd s = _
  rw [execUpstreamFrameEnd, hline]
  simp only [hcounts, Bool.false_eq_true, if_false]

/-- The end of a CAPTURE frame is the settling of what was sent, and then the end of a frame that does not count. -/
theorem exec_frameEnd_counts (hline : s.tx.line = some f) (hcounts : s.tx.lineCounts = true) (ht : settleSent f s = t)
    (htline : t.tx.line = some f) {u : State} (hu : t.uncounted = u) :
    exec .upstreamFrameEnd s = exec .upstreamFrameEnd u := by
  subst hu
  rw [exec_frameEnd (s := t.uncounted) htline rfl, choose_uncounted]
  change execUpstreamFrameEnd s = _
  rw [execUpstreamFrameEnd, hline]
  simp only [hcounts, if_true, ht]

theorem settleSent_of_left (hd : s.tx.drain = e :: es)
    (h : e.sent + f.recordCount < (s.capture[e.set].half e.half).records.length) :
    settleSent f s = { s with tx := { s.tx with drain := { e with sent := e.sent + f.recordCount } :: es } } := by
  simp only [settleSent, hd]
  exact if_neg (Nat.not_le.2 h)

theorem settleSent_of_none_left (hd : s.tx.drain = e :: es)
    (h : (s.capture[e.set].half e.half).records.length ≤ e.sent + f.recordCount) :
    settleSent f s = halfDrained e.set e.half { s with tx := { s.tx with drain := es } } := by
  simp only [settleSent, hd]
  exact if_pos h

/-! ### A half that is EMPTY -/

section
variable {k : SetNo} {h : HalfName} {x : CaptureSet}

theorem halfDrained_overrun (hx : s.capture[k] = x) (hst : x.state = .overrun) :
    halfDrained k h s = s.setCapture k { x.setHalf h (x.half h).opened with state := .recording } := by
  simp only [halfDrained, hx, hst]

theorem halfDrained_recording (hx : s.capture[k] = x) (hst : x.state = .recording) :
    halfDrained k h s = s.setCapture k (x.setHalf h (x.half h).emptied) := by
  simp only [halfDrained, hx, hst]

theorem halfDrained_draining (hx : s.capture[k] = x) (hst : x.state = .draining) :
    halfDrained k h s = settleDrain k (s.setCapture k (x.setHalf h (x.half h).emptied)) := by
  simp only [halfDrained, hx, hst]

theorem emptied_drained_iff (x : CaptureSet) (h : HalfName) :
    (x.setHalf h (x.half h).emptied).drained = true ↔ (x.half h.other).state ≠ .full :=
  CaptureSet.stopped_emptied_drained_iff x h

theorem halfDrained_draining_more (hx : s.capture[k] = x) (hst : x.state = .draining) (ho : (x.half h.other).state = .full) :
    halfDrained k h s = s.setCapture k (x.setHalf h (x.half h).emptied) := by
  rw [halfDrained_draining hx hst]
  exact settleDrain_of_not_drained (s.capture_setCapture_self k _) fun hd => (emptied_drained_iff x h).1 hd ho

theorem halfDrained_draining_last (hx : s.capture[k] = x) (hst : x.state = .draining) (ho : (x.half h.other).state ≠ .full) :
    halfDrained k h s
      = raise (.captureDone k) (s.setCapture k { x.setHalf h (x.half h).emptied with state := .idle }) := by
  rw [halfDrained_draining hx hst,
    settleDrain_of_drained (s.capture_setCapture_self k _) ((emptied_drained_iff x h).2 ho), State.setCapture_setCapture]

end

end

/-- Settles O7. -/
theorem frameEndChoosesTheNextFrame : Obligations.FrameEndChoosesTheNextFrame := by
  refine ⟨fun s f hline hcounts => ⟨fun r rs h => ?_, fun h hr => ?_, fun h hr e es hd => ?_, fun h hr hd => ?_⟩,
    fun s f e es hline hcounts hd => ⟨fun hleft => ?_, fun hnone => ⟨fun hst => ?_, fun hst => ?_, fun hst ho => ?_⟩⟩,
    fun s k hmask => ?_⟩
  · rw [exec_frameEnd hline hcounts, choose_reply h]
  · rw [exec_frameEnd hline hcounts, choose_report h hr]
  · rw [exec_frameEnd hline hcounts, choose_records h hr hd]
    rfl
  · rw [exec_frameEnd hline hcounts, choose_idle h hr hd]
  · exact exec_frameEnd_counts hline hcounts (settleSent_of_left hd hleft) hline rfl
  · have h := (settleSent_of_none_left hd hnone).trans (halfDrained_overrun rfl hst)
    exact exec_frameEnd_counts hline hcounts h hline rfl
  · rcases hst with hst | ⟨hst, ho⟩
    · have h := (settleSent_of_none_left hd hnone).trans (halfDrained_recording rfl hst)
      exact exec_frameEnd_counts hline hcounts h hline rfl
    · have h := (settleSent_of_none_left hd hnone).trans (halfDrained_draining_more rfl hst ho)
      exact exec_frameEnd_counts hline hcounts h hline rfl
  · have h := (settleSent_of_none_left hd hnone).trans (halfDrained_draining_last rfl hst ho)
    exact exec_frameEnd_counts hline hcounts h hline (raise_uncounted _ _)
  · have hunmasked : masked (.captureDone k) s = false := by
      rw [masked, Event.category_captureDone]
      exact hmask
    rw [raise_unmasked hunmasked]
    exact ⟨rfl, fun hsum hhold => by simp [hsum, hhold]⟩

/-! ### Patch words and views (2.3) -/

section
variable {s : State} {p : PatchWord} {c : Chan}

theorem applyPatch_off (hc : patchChannelOf p s = c.val) (he : s.enabled c = false) : applyPatch p s = s := by
  unfold applyPatch
  rw [hc, index?_val]
  exact if_neg (Bool.eq_false_iff.1 he)

theorem applyPatch_on (hc : patchChannelOf p s = c.val) (he : s.enabled c = true) :
    applyPatch p s = patchChannel c p.field p.value s := by
  unfold applyPatch
  rw [hc, index?_val]
  exact if_pos he

theorem setCurrent_stands (o : Ownership) (x : Context) : (o.setCurrent x).stack = o.stack ∧ (o.setCurrent x).waiting = o.waiting
    ∧ (∀ a, o.active = some a → (o.setCurrent x).base = o.base) ∧ (o.setCurrent x).current = x := by
  obtain ⟨base, active, stack, waiting⟩ := o
  cases active with
  | none => exact ⟨rfl, rfl, fun a h => absurd h (Option.some_ne_none a).symm, rfl⟩
  | some a => exact ⟨rfl, rfl, fun _ _ => rfl, rfl⟩

theorem viewBase_eq (v : Word) : viewBase v = min 24 (8 * (v.toNat / 8)) := by rw [viewBase, Nat.mul_comm]

end

/-- Settles O9. -/
theorem patchWordsAndViews : Obligations.PatchWordsAndViews := by
  refine ⟨fun s p ps c hc => ⟨fun he => ?_, fun he => ⟨applyPatch p s, rfl, ?_⟩⟩, fun s r hs hr => ⟨fun a b ds hd => ?_, fun h => ?_⟩⟩
  · exact congrArg (applyPatches ps) (applyPatch_off hc.symm he)
  · rw [applyPatch_on hc.symm he]
    obtain ⟨hstack, hwaiting, hbase, hcurrent⟩ :=
      setCurrent_stands s.own[c] (patchWrite p.field p.value s.own[c].current)
    refine ⟨rfl, fun d hd => s.own_setOwn_ne c d _ (Ne.symm hd), ?_⟩
    rw [patchChannel, State.own_setOwn_same]
    refine ⟨hstack, hwaiting, hbase, hcurrent.trans ?_⟩
    cases p.field <;> rfl
  · refine request_done hs (codeIs_of hr) ?_
    rw [setViewsRequest, hd]
    simp only [viewBase_eq]
    rfl
  · refine request_refused hs (codeIs_of hr) ?_
    unfold setViewsRequest
    split
    · rename_i hd
      rw [hd] at h
      simp at h
    · rfl

end Sys2Proof.Machine
end

section
/-! Which events and counters the parts of a tick can raise and advance (11.1, 11.2). -/

namespace Sys2Proof.Machine

/-! ### What stands in the event log -/

/-- Between `s` and `t` only events of `P` were raised, a counter's advance being the business of its COUNTER_WRAP. -/
structure Logs (P : Event → Prop) (s t : State) : Prop where
  counters : ∀ i : CounterNo, ¬ P (.counterWrap i) → t.events.counters[i] = s.events.counters[i]
  flags : ∀ f, (∀ e, P e → e.flag ≠ f) → t.events.flags.getLsbD f = s.events.flags.getLsbD f
  rises : ∀ f, s.events.flags.getLsbD f = true → t.events.flags.getLsbD f = true

namespace Logs

variable {P Q : Event → Prop} {s t u : State}

theorem quiet (h : t.events = s.events) : Logs P s t := ⟨fun _ _ => by rw [h], fun _ _ => by rw [h], fun _ hf => by rw [h]; exact hf⟩

theorem refl (s : State) : Logs P s s := quiet rfl

/-- What leaves the events as they are comes first. -/
theorem after (k : Logs P t u) (h : t.events = s.events) : Logs P s u :=
  ⟨fun i hi => by rw [k.counters i hi, h], fun f hf => by rw [k.flags f hf, h], fun f hf => k.rises f (by rw [h]; exact hf)⟩

theorem trans (h : Logs P s t) (k : Logs P t u) : Logs P s u :=
  ⟨fun i hi => (k.counters i hi).trans (h.counters i hi), fun f hf => (k.flags f hf).trans (h.flags f hf),
    fun f hf => k.rises f (h.rises f hf)⟩

theorem mono (h : Logs P s t) (hPQ : ∀ e, P e → Q e) : Logs Q s t :=
  ⟨fun i hi => h.counters i fun hp => hi (hPQ _ hp), fun f hf => h.flags f fun e he => hf e (hPQ e he), h.rises⟩

theorem foldl {β : Type} (f : State → β → State) (h : ∀ s b, Logs P s (f s b)) (l : List β) (s : State) :
    Logs P s (l.foldl f s) := foldl_moves (Logs P) refl (fun _ _ _ => trans) f h l s

end Logs

section
variable {P : Event → Prop} (s : State)

theorem raise_logs {e : Event} (he : P e) : Logs P s (raise e s) where
  counters _ _ := rfl
  flags f hf := by
    cases hm : masked e s with
    | true => rw [raise_masked hm]
    | false =>
      rw [raise_unmasked hm]
      change (s.events.flags ||| BitVec.twoPow 123 e.flag).getLsbD f = _
      rw [BitVec.getLsbD_or, BitVec.getLsbD_twoPow, decide_eq_false (hf e he), Bool.and_false, Bool.or_false]
  rises _ hf := raise_flag_of_flag e s hf

theorem bumpCounter_logs {i : CounterNo} (hi : P (.counterWrap i)) (n : Nat) : Logs P s (bumpCounter i n s) where
  counters j hj := by
    have hij : i ≠ j := fun h => hj (h ▸ hi)
    change (s.events.counters.set i _)[j] = _
    exact Vector.getElem_set_ne _ _ fun h => hij (Fin.ext h)
  flags _ _ := rfl
  rises _ hf := hf

theorem advance_logs {i : CounterNo} (hi : P (.counterWrap i)) (n : Nat) : Logs P s (advance i n s) := by
  unfold advance
  split_ifs
  · exact (bumpCounter_logs s hi n).trans (raise_logs _ hi)
  · exact bumpCounter_logs s hi n

theorem raise?_logs {e : Option Event} (he : ∀ x ∈ e, P x) : Logs P s (raise? e s) := by
  cases e with
  | none => exact .refl s
  | some x => exact raise_logs s (he x rfl)

end

/-! ### The scenario side (chapters 5 and 6) -/

/-- The events of scenario slots. -/
def Event.ofSlot : Event → Prop
  | .slotDone _ | .slotFault _ | .slotAborted _ => True
  | _ => False

/-- The scenario side raises the events of slots only, and leaves what the tracks present. -/
structure SlotLogs (s t : State) : Prop where
  logs : Logs Event.ofSlot s t
  presented : ∀ u : TrackNo, (t.track u).presented = (s.track u).presented

namespace SlotLogs

variable {s t u : State}

theorem quiet (h : t.events = s.events) (hr : t.replay = s.replay) : SlotLogs s t :=
  ⟨.quiet h, fun u => by rw [State.track, State.track, hr]⟩

theorem refl (s : State) : SlotLogs s s := quiet rfl rfl

theorem trans (h : SlotLogs s t) (k : SlotLogs t u) : SlotLogs s u :=
  ⟨h.logs.trans k.logs, fun v => (k.presented v).trans (h.presented v)⟩

theorem after (k : SlotLogs t u) (h : t.events = s.events) (hr : t.replay = s.replay) : SlotLogs s u := (quiet h hr).trans k

theorem foldl {β : Type} (f : State → β → State) (h : ∀ s b, SlotLogs s (f s b)) (l : List β) (s : State) :
    SlotLogs s (l.foldl f s) := foldl_moves SlotLogs refl (fun _ _ _ => trans) f h l s

end SlotLogs

theorem raise_slotLogs (s : State) {e : Event} (he : e.ofSlot) : SlotLogs s (raise e s) := ⟨raise_logs s he, fun _ => rfl⟩

theorem playTrack_presented (x : Track) : (playTrack x).presented = x.presented := by
  unfold playTrack
  split
  · rfl
  · split_ifs <;> rfl

theorem cueTrack_presented (s : State) (v u : TrackNo) : ((cueTrack v s).track u).presented = (s.track u).presented := by
  by_cases h : v = u
  · subst h
    rw [cueTrack, State.track_setTrack_self, playTrack_presented]
  · rw [cueTrack, State.track_setTrack_ne _ _ _ _ h]

section
variable (s : State)

theorem faultFetch_logs (n : SlotNo) (f : FaultCode) : SlotLogs s (faultFetch n f s) :=
  SlotLogs.after (raise_slotLogs _ trivial) rfl rfl

theorem cueOf_logs (r : OverlayRecord) : SlotLogs s (cueOf r s) := by
  unfold cueOf
  split_ifs
  · exact ⟨.quiet rfl, cueTrack_presented s r.track⟩
  · exact .refl s

theorem fetch_logs (n : SlotNo) : SlotLogs s (fetch n s).1 := by
  unfold fetch
  simp only
  split
  · exact faultFetch_logs s _ _
  · exact SlotLogs.after (cueOf_logs _ _) rfl rfl

theorem fetch_logs_of {n : SlotNo} {t : State} {b : Bool} (h : fetch n s = (t, b)) : SlotLogs s t := by
  have := fetch_logs s n
  rwa [h] at this

theorem setOwnerState_logs (x : Context) (st : SlotState) : SlotLogs s (setOwnerState x st s) := by
  unfold setOwnerState
  split <;> exact .quiet rfl rfl

theorem pushActive_logs (c : Chan) : SlotLogs s (pushActive c s) := by
  unfold pushActive
  split
  · exact SlotLogs.after (setOwnerState_logs _ _ _) rfl rfl
  · exact .refl s

theorem popOrBase_logs (c : Chan) : SlotLogs s (popOrBase c s) := by
  unfold popOrBase
  split
  · exact SlotLogs.after (setOwnerState_logs _ _ _) rfl rfl
  · exact .quiet rfl rfl

theorem removeWaiter_logs (n : SlotNo) (c : Chan) : SlotLogs s (removeWaiter n c s) := .quiet rfl rfl

theorem resolve_logs (k : Nat) (c : Chan) : SlotLogs s (resolve k c s) := by
  induction k generalizing s with
  | zero => exact popOrBase_logs s c
  | succ k ih =>
    unfold resolve
    split
    · split_ifs
      · split
        · exact (removeWaiter_logs s _ _).trans (fetch_logs_of _ ‹_›)
        · exact ((removeWaiter_logs s _ _).trans (fetch_logs_of _ ‹_›)).trans (ih _)
      · exact popOrBase_logs s c
    · exact popOrBase_logs s c

theorem resolveAll_logs (c : Chan) : SlotLogs s (resolveAll c s) := resolve_logs s _ c

theorem reexamine_logs (k : Nat) (c : Chan) : SlotLogs s (reexamine k c s) := by
  induction k generalizing s with
  | zero => exact .refl s
  | succ k ih =>
    unfold reexamine
    split
    · rename_i w _
      have hpush := (pushActive_logs s c).trans (removeWaiter_logs _ w.slot c)
      split_ifs
      · split
        · exact (hpush.trans (fetch_logs_of _ ‹_›)).trans (ih _)
        · exact ((hpush.trans (fetch_logs_of _ ‹_›)).trans (resolveAll_logs _ c)).trans (ih _)
      · exact .refl s
    · exact .refl s

theorem vacate_logs (c : Chan) : SlotLogs s (vacate c s) := (resolveAll_logs s c).trans (reexamine_logs _ _ c)

theorem release_logs (c : Chan) : SlotLogs s (release c s) := SlotLogs.after (vacate_logs _ c) rfl rfl

theorem takeOver_logs (n : SlotNo) : SlotLogs s (takeOver n s) := by
  unfold takeOver
  split
  · exact fetch_logs_of s ‹_›
  · exact (fetch_logs_of s ‹_›).trans (vacate_logs _ _)

theorem claim_logs (n : SlotNo) : SlotLogs s (claim n s) := by
  unfold claim
  simp only
  split
  · exact takeOver_logs s n
  · split_ifs
    · exact (pushActive_logs s _).trans (takeOver_logs _ n)
    · exact .quiet rfl rfl

theorem withdraw_logs (n : SlotNo) (c : Chan) : SlotLogs s (withdraw n c s) := SlotLogs.after (reexamine_logs _ _ c) rfl rfl

theorem startSlot_logs (n : SlotNo) : SlotLogs s (startSlot n s) := by
  unfold startSlot
  simp only
  split
  · exact claim_logs s n
  · split_ifs
    · exact claim_logs s n
    · exact .quiet rfl rfl
  · exact .quiet rfl rfl

theorem armSlot_logs (n : SlotNo) (b : Nat) (x : Block) : SlotLogs s (armSlot n b x s) :=
  SlotLogs.after (startSlot_logs _ n) rfl rfl

theorem followOn_logs (n : SlotNo) (b : Nat) : SlotLogs s (followOn n b s) := by
  unfold followOn
  split
  · exact SlotLogs.after (raise_slotLogs _ trivial) rfl rfl
  · exact armSlot_logs s _ _ _

theorem leaveBlock_logs (n : SlotNo) : SlotLogs s (leaveBlock n s) := by
  unfold leaveBlock
  simp only
  split
  · exact SlotLogs.after (release_logs _ _) rfl rfl
  · exact release_logs s _

theorem finishBlock_logs (n : SlotNo) (next : Option Nat) : SlotLogs s (finishBlock n next s) := by
  unfold finishBlock
  split
  · exact SlotLogs.after (raise_slotLogs _ trivial) rfl rfl
  · exact followOn_logs s _ _

theorem blockEnd_logs (n : SlotNo) : SlotLogs s (blockEnd n s) := (leaveBlock_logs s n).trans (finishBlock_logs _ _ _)

theorem fetchInPlace_logs (n : SlotNo) : SlotLogs s (fetchInPlace n s) := by
  unfold fetchInPlace
  split
  · exact fetch_logs_of s ‹_›
  · exact (fetch_logs_of s ‹_›).trans (release_logs _ _)

theorem endEntry_logs (n : SlotNo) : SlotLogs s (endEntry n s) := by
  unfold endEntry
  split
  · exact SlotLogs.after (fetchInPlace_logs _ n) rfl rfl
  · exact blockEnd_logs s n

theorem fetchSaved_logs (n : SlotNo) : SlotLogs s (fetchSaved n s) := by
  unfold fetchSaved
  simp only
  split
  · exact (faultFetch_logs s _ _).trans (withdraw_logs _ _ _)
  · exact SlotLogs.after (cueOf_logs _ _) rfl rfl

theorem adoptSaved_logs (n : SlotNo) (c : Chan) : SlotLogs s (adoptSaved n c s) := by
  unfold adoptSaved
  split <;> exact .quiet rfl rfl

theorem leaveSaved_logs (n : SlotNo) : SlotLogs s (leaveSaved n s) := by
  unfold leaveSaved
  simp only
  split
  · exact (adoptSaved_logs s _ _).trans (withdraw_logs _ _ _)
  · exact withdraw_logs s _ _

theorem endSaved_logs (n : SlotNo) : SlotLogs s (endSaved n s) := by
  unfold endSaved
  split
  · exact SlotLogs.after (fetchSaved_logs _ n) rfl rfl
  · exact (leaveSaved_logs s n).trans (finishBlock_logs _ _ _)

theorem entryRunsOut_logs (n : SlotNo) : SlotLogs s (entryRunsOut n s) := by
  unfold entryRunsOut
  split
  · exact endEntry_logs s n
  · exact endSaved_logs s n
  all_goals exact .refl s

theorem actSlots_logs (ends claims : List SlotNo) : SlotLogs s (actSlots ends claims s) :=
  (SlotLogs.foldl _ entryRunsOut_logs ends s).trans (.foldl _ claim_logs claims _)

theorem scenarioTick_logs : SlotLogs s (scenarioTick s) := SlotLogs.after (actSlots_logs _ _ _) rfl rfl

theorem fireStart_logs (n : SlotNo) : SlotLogs s (fireStart n s) := by
  unfold fireStart
  simp only
  split_ifs
  · exact SlotLogs.after (claim_logs _ n) rfl rfl
  · exact .quiet rfl rfl

theorem fireSlot_logs (n : SlotNo) : SlotLogs s (fireSlot n s) := by
  unfold fireSlot
  split_ifs
  · exact fireStart_logs s n
  · exact endEntry_logs s n

theorem fireSlots_logs (w : WatchNo) : SlotLogs s (fireSlots w s) := by
  refine SlotLogs.foldl _ (fun t n => ?_) _ _
  split_ifs
  · exact fireSlot_logs t n
  · exact .refl t

end

/-! ### Captures and fires (chapters 7 and 9) -/

/-- The events of capture sets, with the counts of records dropped. -/
def Event.ofCapture : Event → Prop
  | .captureOverrun _ | .captureDone _ => True
  | .counterWrap i => ∃ k, i = ctrRecordsDropped k
  | _ => False

/-- The events of capture set k, with the count of its records dropped. -/
def Event.ofSet (k : SetNo) (e : Event) : Prop :=
  e = .captureOverrun k ∨ e = .captureDone k ∨ e = .counterWrap (ctrRecordsDropped k)

theorem Event.ofSet.ofCapture {k : SetNo} {e : Event} (h : e.ofSet k) : e.ofCapture := by
  rcases h with rfl | rfl | rfl
  · trivial
  · trivial
  · exact ⟨k, rfl⟩

/-- The Capture Unit raises the events of capture sets only. -/
abbrev CaptureLogs : State → State → Prop := Logs Event.ofCapture

section
variable (s : State)

theorem settleDrain_logs (k : SetNo) : Logs (Event.ofSet k) s (settleDrain k s) := by
  unfold settleDrain
  split_ifs
  · exact Logs.after (raise_logs _ (.inr (.inl rfl))) rfl
  · exact .refl s

theorem closeFilling_logs (k : SetNo) : Logs (Event.ofSet k) s (closeFilling k s) := by
  unfold closeFilling
  simp only
  split
  · split_ifs <;> exact .quiet rfl
  · exact .refl s

theorem stopCapture_logs (k : SetNo) : Logs (Event.ofSet k) s (stopCapture k s) := by
  unfold stopCapture
  split_ifs
  · exact (closeFilling_logs s k).trans (Logs.after (settleDrain_logs _ k) rfl)
  · exact .refl s

theorem turnHalf_logs (k : SetNo) (h : HalfName) : Logs (Event.ofSet k) s (turnHalf k h s) := by
  unfold turnHalf
  simp only
  split_ifs
  · exact .quiet rfl
  · exact Logs.after (raise_logs _ (.inl rfl)) rfl

theorem takeRecord_logs (k : SetNo) (r : List Word) : Logs (Event.ofSet k) s (takeRecord k r s) := by
  unfold takeRecord
  simp only
  split
  · exact .quiet rfl
  · split_ifs
    · exact Logs.after (turnHalf_logs _ _ _) rfl
    · exact .quiet rfl

theorem recordDue_logs (k : SetNo) : Logs (Event.ofSet k) s (recordDue k s) := by
  unfold recordDue
  simp only
  split
  · exact .refl s
  · split_ifs
    · exact takeRecord_logs s _ _
    · exact Logs.after (advance_logs _ (.inr (.inr rfl)) _) rfl
    · exact .quiet rfl

theorem lengthReached_logs (k : SetNo) : Logs (Event.ofSet k) s (lengthReached k s) := by
  unfold lengthReached
  split_ifs
  · exact stopCapture_logs s k
  · exact .refl s

theorem captureTick_logs (vs : TickValues) (k : SetNo) : Logs (Event.ofSet k) s (captureTick vs k s) :=
  Logs.after ((recordDue_logs _ k).trans (lengthReached_logs _ k)) rfl

theorem capturesTick_logs (vs : TickValues) : CaptureLogs s (capturesTick vs s) :=
  ((captureTick_logs s vs 0).mono fun _ => Event.ofSet.ofCapture).trans
    ((captureTick_logs _ vs 1).mono fun _ => Event.ofSet.ofCapture)

theorem fireCapture_logs (w : WatchNo) (k : SetNo) : Logs (Event.ofSet k) s (fireCapture w k s) := by
  unfold fireCapture
  simp only
  split_ifs
  · exact .quiet rfl
  · exact stopCapture_logs s k
  · exact .refl s

theorem fireCaptures_logs (w : WatchNo) : CaptureLogs s (fireCaptures w s) :=
  ((fireCapture_logs s w 0).mono fun _ => Event.ofSet.ofCapture).trans
    ((fireCapture_logs _ w 1).mono fun _ => Event.ofSet.ofCapture)

/-- The events a fire can bring about: its own, and those of the slots and capture sets it reaches. -/
def Event.ofFire (e : Event) : Prop :=
  e.ofSlot ∨ e.ofCapture ∨ (∃ w, e = .watchFire w) ∨ ∃ w, e = .counterWrap (ctrFires w)

theorem noteFire_logs (w : WatchNo) (v : Word) :
    Logs (fun e => e = .watchFire w ∨ e = .counterWrap (ctrFires w)) s (noteFire w v s) := by
  unfold noteFire
  simp only
  split_ifs
  · exact Logs.after ((advance_logs _ (Or.inr rfl) _).trans (raise_logs _ (Or.inl rfl))) rfl
  · exact Logs.after (advance_logs _ (Or.inr rfl) _) rfl

theorem takeFire_logs (w : WatchNo) : Logs Event.ofFire s (takeFire w s) := by
  unfold takeFire
  split
  · refine (((noteFire_logs s w _).mono ?_).trans ((fireSlots_logs _ w).logs.mono fun e he => .inl he)).trans
      ((fireCaptures_logs _ w).mono fun e he => .inr (.inl he))
    rintro e (he | he)
    · exact .inr (.inr (.inl ⟨w, he⟩))
    · exact .inr (.inr (.inr ⟨w, he⟩))
  · exact .refl s

theorem takeFires_logs : Logs Event.ofFire s (takeFires s) := .foldl _ takeFire_logs _ _

theorem closeTick_logs : Logs Event.ofFire s (closeTick s) :=
  ((scenarioTick_logs s).logs.mono fun _ he => .inl he).trans (takeFires_logs _)

end

/-! ### The sample flow, the tracks and the values of a tick (chapters 2, 4 and 8) -/

/-- The events of the sample flow, with the count of stale ticks. -/
def Event.ofFlow : Event → Prop
  | .linkLive | .linkStarved => True
  | .counterWrap i => i = ctrStaleTicks
  | _ => False

/-- The events of tracks, with the counts of their underrun ticks. -/
def Event.ofTrack : Event → Prop
  | .trackEnd _ | .trackUnderrun _ => True
  | .counterWrap i => ∃ u, i = ctrUnderrunTicks u
  | _ => False

/-- The counts of clips. -/
def Event.ofClip : Event → Prop
  | .counterWrap i => ∃ c, i = ctrClips c
  | _ => False

section
variable (s : State)

theorem clearPort_logs (P : Event → Prop) : Logs P s (clearPort s) := .quiet (clearPort_moves s).events

theorem judge_logs : Logs Event.ofFlow s (judge s) := by
  have hruns (b : Bool) (t : State) : Logs Event.ofFlow t (judgeRuns b t) := by
    unfold judgeRuns
    split
    · exact .quiet rfl
    · split
      · exact Logs.after (advance_logs _ (show Event.ofFlow (.counterWrap ctrStaleTicks) from rfl) 1) rfl
      · exact .refl t
    · exact .quiet rfl
    · exact .quiet rfl
  have hflow (t : State) : Logs Event.ofFlow t (takeFlow t) := by
    unfold takeFlow
    split
    · exact Logs.after (raise_logs _ (e := .linkLive) trivial) rfl
    · exact Logs.after (raise_logs _ (e := .linkStarved) trivial) rfl
    · exact .refl t
  exact Logs.after ((hruns _ _).trans (hflow _)) rfl

theorem spanEvent?_ofTrack (u : TrackNo) (x : Track) : ∀ e ∈ spanEvent? u x, e.ofTrack := by
  intro e he
  unfold spanEvent? at he
  split at he <;> cases he <;> trivial

theorem spanEnd_logs (u : TrackNo) : Logs Event.ofTrack s (spanEnd u s) := by
  unfold spanEnd
  simp only
  split_ifs
  · exact Logs.after (raise?_logs _ (spanEvent?_ofTrack u _)) rfl
  · exact .refl s

theorem trackTick_logs (u : TrackNo) : Logs Event.ofTrack s (trackTick u s) := by
  unfold trackTick
  simp only
  split_ifs
  · exact Logs.after ((advance_logs _ (show Event.ofTrack (.counterWrap _) from ⟨u, rfl⟩) 1).trans (spanEnd_logs _ u)) rfl
  · exact Logs.after (spanEnd_logs _ u) rfl

theorem tracksTick_logs : Logs Event.ofTrack s (tracksTick s) := .foldl _ trackTick_logs _ _

theorem countClips_logs (vs : TickValues) : Logs Event.ofClip s (countClips vs s) := by
  refine Logs.foldl _ (fun t c => ?_) _ _
  split_ifs
  · exact advance_logs t (show Event.ofClip (.counterWrap _) from ⟨c, rfl⟩) 1
  · exact .refl t

theorem takeValues_logs (vs : TickValues) : Logs Event.ofClip s (takeValues vs s) := by
  have hput : (putValues vs s).events = s.events := by
    unfold putValues
    rfl
  rw [takeValues_eq]
  exact Logs.after (countClips_logs _ vs) hput

/-- What the values of a tick raise once they are computed: clips, captures, and the slots' actions. -/
def Event.ofValues (e : Event) : Prop := e.ofClip ∨ e.ofCapture ∨ e.ofSlot

theorem watchesTick_events (vs : TickValues) : (watchesTick vs (beginDelivery vs s)).events = s.events := by
  unfold watchesTick beginDelivery
  rfl

theorem meetTick_events : (meetTick s).events = s.events := by
  unfold meetTick
  rfl

theorem deliverTick_logs (vs : TickValues) : Logs Event.ofValues s (deliverTick vs s) := by
  have hcaptures := (capturesTick_logs (watchesTick vs (beginDelivery vs (takeValues vs s))) vs).mono fun e he =>
    (show e.ofValues from .inr (.inl he))
  have hvalues := (takeValues_logs s vs).mono fun e he => (show e.ofValues from .inl he)
  exact (hvalues.trans (hcaptures.after (watchesTick_events _ vs))).trans (.quiet (meetTick_events _))

theorem tick_logs (o : CountOrder) : Logs Event.ofValues s.judged (tick o s) := by
  have hcore : Logs Event.ofValues s.judged (tickCore s) := by
    rw [tickCore_eq]
    exact deliverTick_logs _ _
  cases o
  · exact hcore.trans ((scenarioTick_logs _).logs.mono fun _ he => .inr (.inr he))
  · exact hcore

/-- From the state a tick starts in, where it is settled, to the tick judged and its tracks settled. -/
theorem State.Settled.judged_logs {s : State} (h : s.Settled) : Logs (fun e => e.ofFlow ∨ e.ofTrack) s s.judged := by
  have hclear : (countTick (clearPort (Machine.closeTick s))).events = s.events := by
    rw [h.closeTick]
    exact (clearPort_moves s).events
  have hjudge := (judge_logs (countTick (clearPort (Machine.closeTick s)))).mono fun e he =>
    (show e.ofFlow ∨ e.ofTrack from .inl he)
  exact Logs.after (hjudge.trans ((tracksTick_logs _).mono fun e he => .inr he)) hclear

end

end Sys2Proof.Machine
end

section
/-! The acceptance of SAMPLE frames (2.1 to 2.4). -/

namespace Sys2Proof.Machine

/-! ### Samples into the held sample set -/

section
variable {s : State}

theorem holdSample_of_none {i : Fin 32} (h : s.ingress.slotMap[i] = none) (w : Word) (held : Vector Word 32) :
    holdSample s i.val w held = held := by
  unfold holdSample
  rw [dif_pos i.isLt]
  simp only [Fin.getElem_fin] at h
  rw [h]

theorem holdSample_of_some {i : Fin 32} {c : Chan} (h : s.ingress.slotMap[i] = some c) (w : Word) (held : Vector Word 32) :
    holdSample s i.val w held = held.set c w := by
  unfold holdSample
  rw [dif_pos i.isLt]
  simp only [Fin.getElem_fin] at h
  rw [h]

theorem holdSample_of_le {i : Nat} (h : 32 ≤ i) (w : Word) (held : Vector Word 32) : holdSample s i w held = held :=
  dif_neg (Nat.not_lt.2 h)

/-- A sample word at a position reaches the channel mapped there, and no other. -/
theorem holdSample_get (hd : s.MapDistinct) {i : Fin 32} {c : Chan} (hi : s.ingress.slotMap[i] = some c) (p : Nat) (w : Word)
    (held : Vector Word 32) : (holdSample s p w held)[c] = if p = i.val then w else held[c] := by
  by_cases hp : p < 32
  · cases hmap : s.ingress.slotMap[(⟨p, hp⟩ : Fin 32)] with
    | none =>
      have hne : p ≠ i.val := by
        rintro rfl
        rw [hi] at hmap
        cases hmap
      rw [holdSample_of_none (i := ⟨p, hp⟩) hmap, if_neg hne]
    | some d =>
      rw [holdSample_of_some (i := ⟨p, hp⟩) hmap, Fin.getElem_fin, Vector.getElem_set]
      by_cases hdc : d = c
      · have hpi := hd _ _ _ hmap (hdc ▸ hi)
        rw [if_pos (congrArg Fin.val hdc), if_pos (congrArg Fin.val hpi)]
      · have hne : p ≠ i.val := by
          rintro rfl
          rw [hi] at hmap
          exact hdc (Option.some.inj hmap).symm
        rw [if_neg fun h => hdc (Fin.ext h), if_neg hne]
        rfl
  · rw [holdSample_of_le (Nat.not_lt.1 hp), if_neg (by omega)]

theorem holdSample_unmapped {c : Chan} (hc : ∀ i : Fin 32, s.ingress.slotMap[i] ≠ some c) (p : Nat) (w : Word)
    (held : Vector Word 32) : (holdSample s p w held)[c] = held[c] := by
  by_cases hp : p < 32
  · cases hmap : s.ingress.slotMap[(⟨p, hp⟩ : Fin 32)] with
    | none => rw [holdSample_of_none (i := ⟨p, hp⟩) hmap]
    | some d =>
      have hdc : d ≠ c := fun h => hc _ (h ▸ hmap)
      rw [holdSample_of_some (i := ⟨p, hp⟩) hmap]
      exact Vector.getElem_set_ne _ _ fun h => hdc (Fin.ext h)
  · rw [holdSample_of_le (Nat.not_lt.1 hp)]

/-- The held sample of a mapped channel: the word at its position, if that lies below E and the frame has it (R17). -/
theorem holdSamples_get (hd : s.MapDistinct) {i : Fin 32} {c : Chan} (hi : s.ingress.slotMap[i] = some c) (ws : List Word) :
    ∀ (p : Nat) (held : Vector Word 32), (holdSamples s p ws held)[c]
      = if i.val < s.setup.expected ∧ p ≤ i.val then (ws[i.val - p]?).getD held[c] else held[c] := by
  induction ws with
  | nil =>
    intro p held
    simp [holdSamples]
  | cons w ws ih =>
    intro p held
    rw [holdSamples, ih]
    rcases lt_trichotomy p i.val with hlt | heq | hgt
    · have hnext : i.val - p = (i.val - (p + 1)) + 1 := by omega
      have hkept : (if p < s.setup.expected then holdSample s p w held else held)[c] = held[c] := by
        split_ifs
        · rw [holdSample_get hd hi, if_neg (by omega)]
        · rfl
      rw [hkept, hnext, List.getElem?_cons_succ]
      simp only [Nat.succ_le_of_lt hlt, Nat.le_of_lt hlt, and_true]
    · subst heq
      rw [if_neg (by omega), Nat.sub_self, List.getElem?_cons_zero, Option.getD_some]
      simp only [le_refl, and_true]
      split_ifs
      · rw [holdSample_get hd hi, if_pos rfl]
      · rfl
    · rw [if_neg (show ¬ (i.val < s.setup.expected ∧ p + 1 ≤ i.val) by omega),
        if_neg (show ¬ (i.val < s.setup.expected ∧ p ≤ i.val) by omega)]
      split_ifs
      · rw [holdSample_get hd hi, if_neg (by omega)]
      · rfl

theorem holdSamples_unmapped {c : Chan} (hc : ∀ i : Fin 32, s.ingress.slotMap[i] ≠ some c) (ws : List Word) :
    ∀ (p : Nat) (held : Vector Word 32), (holdSamples s p ws held)[c] = held[c] := by
  induction ws with
  | nil => exact fun _ _ => rfl
  | cons w ws ih =>
    intro p held
    rw [holdSamples, ih]
    split_ifs
    · exact holdSample_unmapped hc p w held
    · rfl

theorem holdSamples_congr {t : State} (hm : t.ingress.slotMap = s.ingress.slotMap) (he : t.setup.expected = s.setup.expected)
    (ws : List Word) : ∀ (p : Nat) (held : Vector Word 32), holdSamples t p ws held = holdSamples s p ws held := by
  induction ws with
  | nil => exact fun _ _ => rfl
  | cons w ws ih =>
    intro p held
    have hone : holdSample t p w held = holdSample s p w held := by
      unfold holdSample
      rw [hm]
    rw [holdSamples, holdSamples, ih, he, hone]

end

/-! ### The counters of an acceptance -/

theorem advance_counters_add (i j : CounterNo) (n : Nat) (s : State) :
    (advance i n s).events.counters[j] = s.events.counters[j] + if j = i then word n else 0 := by
  rw [Fin.getElem_fin, Fin.getElem_fin]
  by_cases h : j = i
  · subst h
    rw [advance_counter_self, if_pos rfl]
  · rw [advance_counter_ne (Ne.symm h), if_neg h]
    exact (BitVec.add_zero _).symm

/-- A counter advanced by one where a condition holds. -/
theorem advance_if_counters {p : Prop} [Decidable p] (i j : CounterNo) (s : State) :
    (if p then advance i 1 s else s).events.counters[j] = s.events.counters[j] + if j = i then (if p then 1 else 0) else 0 := by
  by_cases h : p
  · simp only [if_pos h]
    exact advance_counters_add i j 1 s
  · simp only [if_neg h, ite_self]
    exact (BitVec.add_zero _).symm

theorem countMissing_counters (d : Nat) (j : CounterNo) (s : State) :
    (countMissing d s).events.counters[j] = s.events.counters[j] + if j = ctrSeqMissing then word d else 0 := by
  unfold countMissing
  by_cases hd : d = 0
  · subst hd
    have hzero : word 0 = 0 := rfl
    rw [if_pos rfl, hzero, ite_self]
    exact (BitVec.add_zero _).symm
  · rw [if_neg hd, advance_counters_add]

section
variable (f : SampleFrame) (s : State)

/-- The state in which a frame's sample words are taken, the words missing before them counted. -/
def State.caughtUp : State :=
  match s.ahead? f.seq with
  | some d => countMissing d s
  | none => s

theorem caughtUp_moves : EventsMoved s (s.caughtUp f) := by
  unfold State.caughtUp
  split
  · exact countMissing_moves _ _
  · exact .refl s

theorem accepting_eq : s.accepting f = acceptSamples f (s.caughtUp f) := by
  unfold State.accepting State.caughtUp
  cases s.ahead? f.seq <;> rfl

theorem caughtUp_counters (j : CounterNo) :
    (s.caughtUp f).events.counters[j] = s.events.counters[j]
      + if j = ctrSeqMissing then (match s.rx.expected with | some e => f.seq - e | none => 0) else 0 := by
  unfold State.caughtUp State.ahead?
  cases he : s.rx.expected with
  | none => simp
  | some e =>
    simp only [Option.map_some]
    rw [countMissing_counters, word, BitVec.ofNat_toNat, BitVec.setWidth_eq]

theorem applyPatches_events (ps : List PatchWord) (s : State) : (applyPatches ps s).events = s.events := by
  have hone (p : PatchWord) (t : State) : (applyPatch p t).events = t.events := by
    unfold applyPatch
    split
    · split_ifs <;> rfl
    · rfl
  exact List.foldlRecOn (motive := fun t : State => t.events = s.events) _ _ rfl fun t ht p _ => (hone p t).trans ht

theorem applyPatches_rx (ps : List PatchWord) (s : State) : (applyPatches ps s).rx = s.rx := by
  have hone (p : PatchWord) (t : State) : (applyPatch p t).rx = t.rx := by
    unfold applyPatch
    split
    · split_ifs <;> rfl
    · rfl
  exact List.foldlRecOn (motive := fun t : State => t.rx = s.rx) _ _ rfl fun t ht p _ => (hone p t).trans ht

theorem applyPatches_ingress (ps : List PatchWord) (s : State) : (applyPatches ps s).ingress = s.ingress := by
  have hone (p : PatchWord) (t : State) : (applyPatch p t).ingress = t.ingress := by
    unfold applyPatch
    split
    · split_ifs <;> rfl
    · rfl
  exact List.foldlRecOn (motive := fun t : State => t.ingress = s.ingress) _ _ rfl fun t ht p _ => (hone p t).trans ht

theorem storeSamples_eq : ∃ t, EventsMoved { s with
      rx := { s.rx with expected := some (f.seq + 1) }
      ingress := { s.ingress with held := holdSamples s 0 f.samples s.ingress.held } } t ∧ storeSamples f s = t
    ∧ ∀ j : CounterNo, t.events.counters[j] = s.events.counters[j]
        + if j = ctrShortFrames then (if f.samples.length < s.setup.expected then 1 else 0) else 0 := by
  refine ⟨_, ?_, rfl, fun j => ?_⟩
  · unfold storeSamples
    simp only
    split_ifs
    · exact advance_moves _ _ _
    · exact .refl _
  · unfold storeSamples
    exact advance_if_counters _ _ _

theorem markFresh_eq : ∃ t, EventsMoved s t ∧ markFresh s = { t with ingress := { t.ingress with fresh := true } }
    ∧ ∀ j : CounterNo, t.events.counters[j] = s.events.counters[j]
        + if j = ctrOvertaken then (if s.ingress.fresh = true then 1 else 0) else 0 := by
  refine ⟨if s.ingress.fresh then advance ctrOvertaken 1 s else s, ?_, rfl, fun j => advance_if_counters _ _ _⟩
  split_ifs
  · exact advance_moves _ _ _
  · exact .refl _

/-- What an acceptance leaves in the Link Receiver, in Sample Ingress and in the counters. -/
structure Accepted (u : State) : Prop where
  rx : u.rx = { s.rx with expected := some (f.seq + 1) }
  ingress : u.ingress = { s.ingress with held := holdSamples s 0 f.samples s.ingress.held, fresh := true }
  counters : ∀ j : CounterNo, u.events.counters[j] = s.events.counters[j]
    + if j = ctrSeqMissing then (match s.rx.expected with | some e => f.seq - e | none => 0)
      else if j = ctrShortFrames then (if f.samples.length < s.setup.expected then 1 else 0)
      else if j = ctrOvertaken then (if s.ingress.fresh = true then 1 else 0)
      else 0

/-- At most one of three conditions holds, so a sum of three terms is one of them. -/
theorem add_three_ite {p q r : Prop} [Decidable p] [Decidable q] [Decidable r] (hpq : p → ¬ q) (hpr : p → ¬ r) (hqr : q → ¬ r)
    (v a b c : Word) : v + (if p then a else 0) + (if q then b else 0) + (if r then c else 0)
      = v + if p then a else if q then b else if r then c else 0 := by
  by_cases hp : p
  · simp [hp, hpq hp, hpr hp]
  · by_cases hq : q
    · simp [hp, hq, hqr hq]
    · simp [hp, hq]

theorem accepting_accepted : Accepted f s (s.accepting f) := by
  have hc := caughtUp_moves f s
  obtain ⟨t, ht, htstore, htcounters⟩ := storeSamples_eq f (s.caughtUp f)
  obtain ⟨u, hu, humark, hucounters⟩ := markFresh_eq (applyPatches f.patches t)
  have heq : s.accepting f = { u with ingress := { u.ingress with fresh := true } } := by
    rw [accepting_eq, acceptSamples, htstore, humark]
  have hrx : t.rx = { s.rx with expected := some (f.seq + 1) } := by rw [ht.rx, hc.rx]
  have hingress : t.ingress = { s.ingress with held := holdSamples s 0 f.samples s.ingress.held } := by
    rw [ht.ingress, hc.ingress, holdSamples_congr (congrArg _ hc.ingress) (congrArg _ hc.setup)]
  rw [heq]
  refine ⟨?_, ?_, fun j => ?_⟩
  · rw [← hrx, ← applyPatches_rx f.patches t]
    exact hu.rx
  · simp only [hu.ingress, applyPatches_ingress, hingress]
  · have hfresh : (applyPatches f.patches t).ingress.fresh = s.ingress.fresh := by rw [applyPatches_ingress, hingress]
    have hmissing : ctrSeqMissing ≠ ctrShortFrames ∧ ctrSeqMissing ≠ ctrOvertaken ∧ ctrShortFrames ≠ ctrOvertaken := by decide
    obtain ⟨hms, hmo, hso⟩ := hmissing
    rw [← add_three_ite (fun h k => hms (h.symm.trans k)) (fun h k => hmo (h.symm.trans k)) fun h k => hso (h.symm.trans k)]
    refine (hucounters j).trans ?_
    rw [applyPatches_events, htcounters, caughtUp_counters, hfresh, hc.setup]

end

/-- What an acceptance leaves as it is, the frame's words gone from the buffer. -/
theorem AcceptMoved.toHunt_stands {s t : State} (h : AcceptMoved s.toHunt t) :
    t = { s with rx := t.rx, ingress := t.ingress, own := t.own, events := t.events, tx := { s.tx with report := t.tx.report } } := by
  unfold AcceptMoved at h
  rw [h]
  rfl

/-- Settles O8. -/
theorem sampleFrameIsAcceptedByItsNumber : Obligations.SampleFrameIsAcceptedByItsNumber := by
  intro s f us o htaken
  have hexec : exec (.sampleFrame us o) s = .next (takeSample us o f s.toHunt) := execSampleFrame_taken htaken
  refine ⟨fun e he hfar => ?_, fun hnear hmap hidle => ⟨s.toHunt.accepting f, ?_, ?_⟩⟩
  · have hahead : s.toHunt.ahead? f.seq = some (f.seq - e).toNat := congrArg _ he
    rw [hexec, takeSample, hahead]
    exact congrArg Host.Outcome.next (if_pos hfar)
  · have hm := accepting_moves f s.toHunt
    rw [hexec, takeSample_accepts (s := s.toHunt) hnear]
    refine congrArg Host.Outcome.next (if_neg ?_)
    rw [hm.setup, hm.ingress_flow]
    rintro ⟨hpaced, hlive⟩
    rcases hidle with h | h
    · exact TickSource.noConfusion (h.symm.trans hpaced)
    · exact h hlive
  · obtain ⟨hrx, hingress, hcounters⟩ := accepting_accepted f s.toHunt
    have hheld : (s.toHunt.accepting f).ingress.held = holdSamples s.toHunt 0 f.samples s.ingress.held := by rw [hingress]; rfl
    refine ⟨hrx, fun i c hi => ?_, fun c hc => ?_, ?_, hcounters, ?_, accepting_own f _, fun hp => ?_⟩
    · rw [hheld, holdSamples_get (s := s.toHunt) hmap hi]
      simp only [Nat.zero_le, and_true, Nat.sub_zero]
      rfl
    · rw [hheld]
      exact holdSamples_unmapped (s := s.toHunt) hc _ _ _
    · rw [hheld]
      exact hingress
    · exact (accepting_moves f s.toHunt).toHunt_stands
    · rw [accepting_own, hp]
      rfl

end Sys2Proof.Machine
end

section
/-! The judging of a tick, and the ticks of PACED mode (2.4, 2.5). -/

namespace Sys2Proof.Machine

/-! ### How a tick is judged (R28 to R30) -/

/-- Sample Ingress with the fresh marker read and no change of flow due. -/
def Ingress.read (x : Ingress) : Ingress := { x with fresh := false, flowDue := none }

section
variable {s : State}

theorem judge_live_fresh (hflow : s.ingress.flow = .live) (hfresh : s.ingress.fresh = true) :
    judge s = { s with ingress := { s.ingress.read with staleRun := 0 } } := by
  simp only [judge, judgeRuns, takeFlow, hflow, hfresh, Ingress.read]

theorem judge_live_paced (hflow : s.ingress.flow = .live) (hfresh : s.ingress.fresh = false) (hsource : s.setup.source = .paced) :
    judge s = { s with ingress := s.ingress.read } := by
  simp only [judge, judgeRuns, takeFlow, hflow, hfresh, hsource, Ingress.read]

/-- A stale tick in LIVE, LOCAL mode. -/
theorem judge_stale (hflow : s.ingress.flow = .live) (hfresh : s.ingress.fresh = false) (hsource : s.setup.source = .lcl) :
    judge s = takeFlow (advance ctrStaleTicks 1 { s with ingress := { s.ingress.read with
      staleRun := s.ingress.staleRun + 1
      flowDue := if s.setup.staleLimit ≤ s.ingress.staleRun + 1 then some .toStarved else none } }) := by
  simp only [judge, judgeRuns, staleLive, hflow, hfresh, hsource, Ingress.read]

/-- A fresh tick outside LIVE. -/
theorem judge_fresh (hflow : s.ingress.flow ≠ .live) (hfresh : s.ingress.fresh = true) :
    judge s = takeFlow { s with ingress := { s.ingress.read with
      flow := .recovering
      freshRun := s.ingress.freshRun + 1
      flowDue := if s.setup.recovery ≤ s.ingress.freshRun + 1 then some .toLive else none } } := by
  unfold judge
  rw [hfresh]
  cases hcase : s.ingress.flow
  case live => exact absurd hcase hflow
  all_goals simp only [judgeRuns, freshRunTick, hcase, Ingress.read]

theorem judge_idle (hflow : s.ingress.flow ≠ .live) (hfresh : s.ingress.fresh = false) :
    judge s = { s with ingress := { s.ingress.read with freshRun := 0 } } := by
  unfold judge
  rw [hfresh]
  cases hcase : s.ingress.flow
  case live => exact absurd hcase hflow
  all_goals simp only [judgeRuns, takeFlow, hcase, Ingress.read]

theorem takeFlow_of_none (h : s.ingress.flowDue = none) : takeFlow s = s := by simp only [takeFlow, h]

theorem takeFlow_of_live (h : s.ingress.flowDue = some .toLive) : takeFlow s = flowLive s := by simp only [takeFlow, h]

theorem takeFlow_of_starved (h : s.ingress.flowDue = some .toStarved) : takeFlow s = starved s := by simp only [takeFlow, h]

theorem judge_stale_on (hflow : s.ingress.flow = .live) (hfresh : s.ingress.fresh = false) (hsource : s.setup.source = .lcl)
    (h : s.ingress.staleRun + 1 < s.setup.staleLimit) :
    judge s = advance ctrStaleTicks 1 { s with ingress := { s.ingress.read with staleRun := s.ingress.staleRun + 1 } } := by
  rw [judge_stale hflow hfresh hsource, if_neg (Nat.not_le.2 h)]
  exact takeFlow_of_none (by rw [(advance_moves _ _ _).ingress])

theorem judge_starved (hflow : s.ingress.flow = .live) (hfresh : s.ingress.fresh = false) (hsource : s.setup.source = .lcl)
    (h : s.setup.staleLimit ≤ s.ingress.staleRun + 1) :
    judge s = starved (advance ctrStaleTicks 1 { s with ingress := { s.ingress.read with
      staleRun := s.ingress.staleRun + 1, flowDue := some .toStarved } }) := by
  rw [judge_stale hflow hfresh hsource, if_pos h]
  exact takeFlow_of_starved (by rw [(advance_moves _ _ _).ingress])

theorem judge_fresh_on (hflow : s.ingress.flow ≠ .live) (hfresh : s.ingress.fresh = true)
    (h : s.ingress.freshRun + 1 < s.setup.recovery) :
    judge s = { s with ingress := { s.ingress.read with flow := .recovering, freshRun := s.ingress.freshRun + 1 } } := by
  rw [judge_fresh hflow hfresh, if_neg (Nat.not_le.2 h)]
  exact takeFlow_of_none rfl

theorem judge_live (hflow : s.ingress.flow ≠ .live) (hfresh : s.ingress.fresh = true)
    (h : s.setup.recovery ≤ s.ingress.freshRun + 1) :
    judge s = flowLive { s with ingress := { s.ingress.read with
      flow := .recovering, freshRun := s.ingress.freshRun + 1, flowDue := some .toLive } } := by
  rw [judge_fresh hflow hfresh, if_pos h]
  exact takeFlow_of_live rfl

end

/-! ### The tick around its judging -/

/-- The state a tick is judged in: what stood open is taken, the port is clear, the tick is counted. -/
def State.opened (s : State) : State := countTick (clearPort (closeTick s))

section
variable (s : State) (o : CountOrder)

theorem countTick_ingress : (countTick s).ingress = s.ingress := rfl

theorem countTick_timer : (countTick s).timer = { s.timer with ticks := s.timer.ticks + 1 } := rfl

theorem countTick_events : (countTick s).events = s.events := rfl

theorem judged_eq : s.judged = tracksTick (judge s.opened) := rfl

theorem opened_ingress : s.opened.ingress = s.ingress := by
  rw [State.opened, countTick_ingress, (clearPort_moves _).ingress, (closeTick_fire s).ingress]

theorem opened_setup : s.opened.setup = s.setup := by
  rw [State.opened, countTick_setup, (clearPort_moves _).setup, (closeTick_fire s).setup]

theorem opened_timer : s.opened.timer = { s.timer with ticks := s.timer.ticks + 1 } := by
  rw [State.opened, countTick_timer, (clearPort_moves _).timer, (closeTick_fire s).timer]

theorem opened_logs : Logs Event.ofFire s s.opened := by
  have hclear : s.opened.events = (closeTick s).events := by
    rw [State.opened, countTick_events, (clearPort_moves _).events]
  exact (closeTick_logs s).trans (.quiet hclear)

theorem tick_ingress : (tick o s).ingress = (judge s.opened).ingress := by
  rw [(tick_keeps o s).1, judged_eq, (tracksTick_moves _).ingress]

theorem tick_timer : (tick o s).timer = (judge s.opened).timer := by
  rw [(tick_keeps o s).2.1, judged_eq, (tracksTick_moves _).timer]

/-- What a tick raises after it is judged. -/
theorem tick_logs_judge : Logs (fun e => e.ofTrack ∨ e.ofValues) (judge s.opened) (tick o s) :=
  ((tracksTick_logs _).mono fun _ he => .inl he).trans ((tick_logs s o).mono fun _ he => .inr he)

end

/-! ### Runs, flow and events of a judged tick -/

theorem raise_flag_iff (e : Event) (s : State) {f : Nat} (hf : f < 123) :
    (raise e s).events.flags.getLsbD f = true ↔ s.events.flags.getLsbD f = true ∨ (f = e.flag ∧ masked e s = false) := by
  cases hm : masked e s with
  | true => simp [raise_masked hm]
  | false =>
    rw [raise_unmasked hm, or_comm]
    simpa using getLsbD_or_twoPow s.events.flags hf

section
variable (s : State)

theorem takeFlow_fresh : (takeFlow s).ingress.fresh = s.ingress.fresh := by
  unfold takeFlow
  split <;> rfl

theorem takeFlow_flowDue : (takeFlow s).ingress.flowDue = none := by
  unfold takeFlow
  split
  · rfl
  · rfl
  · assumption

theorem takeFlow_counters : (takeFlow s).events.counters = s.events.counters := by
  unfold takeFlow
  split <;> rfl

theorem judgeRuns_fresh (b : Bool) : (judgeRuns b s).ingress.fresh = s.ingress.fresh := by
  unfold judgeRuns
  split
  · rfl
  · split
    · rw [staleLive, (advance_moves _ _ _).ingress]
    · rfl
  · rfl
  · rfl

theorem judge_read : (judge s).ingress.fresh = false ∧ (judge s).ingress.flowDue = none := by
  refine ⟨?_, takeFlow_flowDue _⟩
  rw [judge, takeFlow_fresh, judgeRuns_fresh]

/-- STALE_TICKS counts the stale ticks in LIVE, LOCAL, and no others. -/
theorem judge_staleTicks : (judge s).events.counters[ctrStaleTicks] = s.events.counters[ctrStaleTicks]
    + (if s.ingress.flow = .live ∧ s.ingress.fresh = false ∧ s.setup.source = .lcl then 1 else 0) := by
  have hzero (v : Word) : v = v + 0 := (BitVec.add_zero v).symm
  by_cases hflow : s.ingress.flow = .live
  · cases hfresh : s.ingress.fresh with
    | true =>
      rw [judge_live_fresh hflow hfresh, if_neg (by simp)]
      exact hzero _
    | false =>
      cases hsource : s.setup.source with
      | lcl =>
        have hcounted : s.ingress.flow = .live ∧ false = false ∧ TickSource.lcl = .lcl := ⟨hflow, rfl, rfl⟩
        rw [judge_stale hflow hfresh hsource, takeFlow_counters, advance_counters_add,
          if_pos (rfl : ctrStaleTicks = ctrStaleTicks), if_pos hcounted]
        rfl
      | paced =>
        rw [judge_live_paced hflow hfresh hsource, if_neg (by simp)]
        exact hzero _
  · rw [if_neg fun h => hflow h.1]
    cases hfresh : s.ingress.fresh with
    | true =>
      rw [judge_fresh hflow hfresh, takeFlow_counters]
      exact hzero _
    | false =>
      rw [judge_idle hflow hfresh]
      exact hzero _

theorem takeFlow_linkLive : (takeFlow s).events.flags.getLsbD 1 = true
    ↔ s.events.flags.getLsbD 1 = true ∨ (s.ingress.flowDue = some .toLive ∧ s.setup.masks.getLsbD 1 = false) := by
  unfold takeFlow
  split <;> rename_i hdue
  · rw [flowLive, raise_flag_iff _ _ (by decide)]
    simp [hdue, Event.flag, masked]
  · rw [starved, raise_flag_iff _ _ (by decide)]
    simp [hdue, Event.flag]
  · simp [hdue]

theorem takeFlow_linkStarved : (takeFlow s).events.flags.getLsbD 2 = true
    ↔ s.events.flags.getLsbD 2 = true ∨ (s.ingress.flowDue = some .toStarved ∧ s.setup.masks.getLsbD 1 = false) := by
  unfold takeFlow
  split <;> rename_i hdue
  · rw [flowLive, raise_flag_iff _ _ (by decide)]
    simp [hdue, Event.flag]
  · rw [starved, raise_flag_iff _ _ (by decide)]
    simp [hdue, Event.flag, masked]
  · simp [hdue]

theorem advance_flag_other (i : CounterNo) (n : Nat) {f : Nat} (hf : f < 55) :
    (advance i n s).events.flags.getLsbD f = s.events.flags.getLsbD f := by
  refine (advance_logs (P := fun e => e = .counterWrap i) s rfl n).flags f ?_
  rintro _ rfl
  change 55 + i.val ≠ f
  omega

/-- LINK_LIVE is raised by the K-th fresh tick outside LIVE, and by no other tick. -/
theorem judge_linkLive : (judge s).events.flags.getLsbD 1 = true ↔ s.events.flags.getLsbD 1 = true
    ∨ ((s.ingress.flow ≠ .live ∧ s.ingress.fresh = true ∧ s.setup.recovery ≤ s.ingress.freshRun + 1)
      ∧ s.setup.masks.getLsbD 1 = false) := by
  by_cases hflow : s.ingress.flow = .live
  · cases hfresh : s.ingress.fresh with
    | true => simp [judge_live_fresh hflow hfresh, hflow]
    | false =>
      cases hsource : s.setup.source with
      | lcl =>
        rw [judge_stale hflow hfresh hsource, takeFlow_linkLive, advance_flag_other _ _ _ (by decide), (advance_moves _ _ _).ingress]
        simp [hflow]
      | paced => simp [judge_live_paced hflow hfresh hsource, hflow]
  · cases hfresh : s.ingress.fresh with
    | true =>
      rw [judge_fresh hflow hfresh, takeFlow_linkLive]
      simp [hflow]
    | false => simp [judge_idle hflow hfresh]

/-- LINK_STARVED is raised by the S-th stale tick in LIVE, LOCAL mode, and by no other tick. -/
theorem judge_linkStarved : (judge s).events.flags.getLsbD 2 = true ↔ s.events.flags.getLsbD 2 = true
    ∨ ((s.ingress.flow = .live ∧ s.ingress.fresh = false ∧ s.setup.source = .lcl
        ∧ s.setup.staleLimit ≤ s.ingress.staleRun + 1) ∧ s.setup.masks.getLsbD 1 = false) := by
  by_cases hflow : s.ingress.flow = .live
  · cases hfresh : s.ingress.fresh with
    | true => simp [judge_live_fresh hflow hfresh]
    | false =>
      cases hsource : s.setup.source with
      | lcl =>
        rw [judge_stale hflow hfresh hsource, takeFlow_linkStarved, advance_flag_other _ _ _ (by decide),
          (advance_moves _ _ _).ingress, (advance_moves _ _ _).setup]
        simp [hflow]
      | paced => simp [judge_live_paced hflow hfresh hsource]
  · cases hfresh : s.ingress.fresh with
    | true =>
      rw [judge_fresh hflow hfresh, takeFlow_linkStarved]
      simp [hflow]
    | false => simp [judge_idle hflow hfresh, hflow]

end

/-! ### The sample flow's events are no other unit's -/

theorem Event.three_le_flag {e : Event} (h : e.ofFire ∨ e.ofTrack ∨ e.ofValues) : 3 ≤ e.flag := by
  cases e <;> simp only [Event.flag] <;> first
    | omega
    | (simp only [Event.ofFire, Event.ofTrack, Event.ofValues, Event.ofSlot, Event.ofCapture, Event.ofClip, reduceCtorEq,
        exists_false, or_self] at h)

theorem not_staleTicks : ¬ ((Event.counterWrap ctrStaleTicks).ofFire ∨ (Event.counterWrap ctrStaleTicks).ofTrack
    ∨ (Event.counterWrap ctrStaleTicks).ofValues) := by
  have hk (k : SetNo) : ctrStaleTicks ≠ ctrRecordsDropped k := fun h => by simp [ctrStaleTicks, ctrRecordsDropped, Fin.ext_iff] at h; omega
  have hu (u : TrackNo) : ctrStaleTicks ≠ ctrUnderrunTicks u := fun h => by simp [ctrStaleTicks, ctrUnderrunTicks, Fin.ext_iff] at h; omega
  have hw (w : WatchNo) : ctrStaleTicks ≠ ctrFires w := fun h => by simp [ctrStaleTicks, ctrFires, Fin.ext_iff] at h; omega
  have hc (c : Chan) : ctrStaleTicks ≠ ctrClips c := fun h => by simp [ctrStaleTicks, ctrClips, Fin.ext_iff] at h; omega
  simp [Event.ofFire, Event.ofTrack, Event.ofValues, Event.ofSlot, Event.ofCapture, Event.ofClip, hk, hu, hw, hc]

/-- What the tick's judging leaves in the counters and the flags of the sample flow stands at the tick's end. -/
theorem tick_flow_events (o : CountOrder) (s : State) :
    (tick o s).events.counters[ctrStaleTicks] = s.events.counters[ctrStaleTicks]
      + (if s.ingress.flow = .live ∧ s.ingress.fresh = false ∧ s.setup.source = .lcl then 1 else 0)
    ∧ ((tick o s).events.flags.getLsbD 1 = true ↔ s.events.flags.getLsbD 1 = true
      ∨ ((s.ingress.flow ≠ .live ∧ s.ingress.fresh = true ∧ s.setup.recovery ≤ s.ingress.freshRun + 1)
        ∧ s.setup.masks.getLsbD 1 = false))
    ∧ ((tick o s).events.flags.getLsbD 2 = true ↔ s.events.flags.getLsbD 2 = true
      ∨ ((s.ingress.flow = .live ∧ s.ingress.fresh = false ∧ s.setup.source = .lcl
          ∧ s.setup.staleLimit ≤ s.ingress.staleRun + 1) ∧ s.setup.masks.getLsbD 1 = false)) := by
  have hopened := opened_logs s
  have hafter := tick_logs_judge s o
  have hflag {f : Nat} (hf : f < 3) : s.opened.events.flags.getLsbD f = s.events.flags.getLsbD f
      ∧ (tick o s).events.flags.getLsbD f = (judge s.opened).events.flags.getLsbD f :=
    ⟨hopened.flags f fun e he => by have := Event.three_le_flag (.inl he); omega,
      hafter.flags f fun e he => by have := Event.three_le_flag (.inr he); omega⟩
  refine ⟨?_, ?_, ?_⟩
  · rw [hafter.counters _ fun h => not_staleTicks (.inr h), judge_staleTicks,
      hopened.counters _ fun h => not_staleTicks (.inl h), opened_ingress, opened_setup]
  · obtain ⟨hbefore, hend⟩ := hflag (f := 1) (by decide)
    rw [hend, judge_linkLive, hbefore, opened_ingress, opened_setup]
  · obtain ⟨hbefore, hend⟩ := hflag (f := 2) (by decide)
    rw [hend, judge_linkStarved, hbefore, opened_ingress, opened_setup]

/-- The runs and the flow of a judged tick, case by case; `x` is Sample Ingress before, `y` after, `z` the timers after. -/
structure Judged (g : Setup) (x y : Ingress) (z : FrameTimer) : Prop where
  liveFresh : x.flow = .live → x.fresh = true → y.flow = .live ∧ y.staleRun = 0
  starved : x.flow = .live → x.fresh = false → g.source = .lcl → g.staleLimit ≤ x.staleRun + 1 →
    y.flow = .starved ∧ y.freshRun = 0 ∧ y.staleRun = x.staleRun + 1
  stale : x.flow = .live → x.fresh = false → g.source = .lcl → x.staleRun + 1 < g.staleLimit →
    y.flow = .live ∧ y.staleRun = x.staleRun + 1
  paced : x.flow = .live → g.source = .paced → y.flow = .live
  lives : x.flow ≠ .live → x.fresh = true → g.recovery ≤ x.freshRun + 1 →
    y.flow = .live ∧ y.staleRun = 0 ∧ (g.source = .paced → z.interval = none ∧ z.starve = some g.starve)
  recovers : x.flow ≠ .live → x.fresh = true → x.freshRun + 1 < g.recovery →
    y.flow = .recovering ∧ y.freshRun = x.freshRun + 1
  idle : x.flow ≠ .live → x.fresh = false → y.flow = x.flow ∧ y.freshRun = 0

theorem judge_judged (s : State) : Judged s.setup s.ingress (judge s).ingress (judge s).timer where
  liveFresh hflow hfresh := by
    rw [judge_live_fresh hflow hfresh]
    exact ⟨hflow, rfl⟩
  starved hflow hfresh hsource h := by
    rw [judge_starved hflow hfresh hsource h, Machine.starved, (raise_moves _ _).ingress, (advance_moves _ _ _).ingress]
    exact ⟨rfl, rfl, rfl⟩
  stale hflow hfresh hsource h := by
    rw [judge_stale_on hflow hfresh hsource h, (advance_moves _ _ _).ingress]
    exact ⟨hflow, rfl⟩
  paced hflow hsource := by
    cases hfresh : s.ingress.fresh with
    | true =>
      rw [judge_live_fresh hflow hfresh]
      exact hflow
    | false =>
      rw [judge_live_paced hflow hfresh hsource]
      exact hflow
  lives hflow hfresh h := by
    rw [judge_live hflow hfresh h]
    refine ⟨rfl, rfl, fun hsource => ?_⟩
    rw [flowLive, (raise_moves _ _).timer]
    simp [hsource]
  recovers hflow hfresh h := by
    rw [judge_fresh_on hflow hfresh h]
    exact ⟨rfl, rfl⟩
  idle hflow hfresh := by
    rw [judge_idle hflow hfresh]
    exact ⟨rfl, rfl⟩

theorem tick_judged (o : CountOrder) (s : State) : Judged s.setup s.ingress (tick o s).ingress (tick o s).timer := by
  have h := judge_judged s.opened
  rw [opened_setup, opened_ingress] at h
  rw [tick_ingress, tick_timer]
  exact h

theorem tick_read (o : CountOrder) (s : State) : (tick o s).ingress.fresh = false ∧ (tick o s).ingress.flowDue = none := by
  rw [tick_ingress]
  exact judge_read _

/-- Settles O13. -/
theorem tickJudgesTheFlow : Obligations.TickJudgesTheFlow := by
  intro s s0 o c hstart live starves
  obtain ⟨hstale, hlive, hstarved⟩ := tick_flow_events o s0
  have hj := tick_judged o s0
  obtain ⟨hfresh, hdue⟩ := tick_read o s0
  refine ⟨tick o s0, hstart.exec, hfresh, hdue, hj.liveFresh, fun hflow hfresh hsource => ⟨fun h => ?_, fun h => ?_, ?_, ?_⟩,
    fun hflow hsource => ⟨hj.paced hflow hsource, ?_⟩, fun hflow hfresh => ⟨hj.lives hflow hfresh, hj.recovers hflow hfresh⟩,
    hj.idle, hstale, hlive, hstarved⟩
  · exact ⟨(hj.starved hflow hfresh hsource h).1, (hj.starved hflow hfresh hsource h).2.1⟩
  · exact (hj.stale hflow hfresh hsource h).1
  · rcases Nat.lt_or_ge (s0.ingress.staleRun + 1) s0.setup.staleLimit with h | h
    · exact (hj.stale hflow hfresh hsource h).2
    · exact (hj.starved hflow hfresh hsource h).2.2
  · rw [hstale, if_pos ⟨hflow, hfresh, hsource⟩]
  · rw [hstale, if_neg fun h => TickSource.noConfusion (h.2.2.symm.trans hsource)]
    exact BitVec.add_zero _

/-! ### Frames in PACED mode (2.4) -/

/-- In PACED mode while LIVE a tick leaves the timers as they are, its count aside. -/
theorem tick_timer_paced (o : CountOrder) {s : State} (hflow : s.ingress.flow = .live) (hsource : s.setup.source = .paced) :
    (tick o s).timer = { s.timer with ticks := s.timer.ticks + 1 } := by
  have hflow' : s.opened.ingress.flow = .live := by rw [opened_ingress, hflow]
  have hsource' : s.opened.setup.source = .paced := by rw [opened_setup, hsource]
  rw [tick_timer, ← opened_timer]
  generalize s.opened = p at hflow' hsource' ⊢
  cases hfresh : p.ingress.fresh with
  | true => rw [judge_live_fresh hflow' hfresh]
  | false => rw [judge_live_paced hflow' hfresh hsource']

section
variable {us : Nat} {o : CountOrder} {s : State}

theorem askTick_held (hsource : s.setup.source = .paced) (hflow : s.ingress.flow = .live) (hheld : s.timer.heldTick = true) :
    askTick us o s = { s with timer := { s.timer with starve := some s.setup.starve } } := by
  unfold askTick
  rw [if_pos ⟨hsource, hflow⟩]
  exact if_pos hheld

theorem askTick_hold (hsource : s.setup.source = .paced) (hflow : s.ingress.flow = .live) (hheld : s.timer.heldTick = false)
    (hus : us < 5) :
    askTick us o s = { s with timer := { s.timer with starve := some s.setup.starve, heldTick := true } } := by
  unfold askTick
  rw [if_pos ⟨hsource, hflow⟩]
  exact (if_neg (Bool.eq_false_iff.1 hheld)).trans (if_neg (Nat.not_le.2 hus))

end

/-- Settles O10. -/
theorem pacedFramesMakeOrHoldATick : Obligations.PacedFramesMakeOrHoldATick := by
  intro s f us o htaken hnear hsource hflow accepted
  have hexec : exec (.sampleFrame us o) s = .next (askTick us o (s.toHunt.accepting f)) :=
    (execSampleFrame_taken htaken).trans (congrArg Host.Outcome.next (takeSample_accepts (s := s.toHunt) hnear))
  have hm := accepting_moves f s.toHunt
  have haccepted (y : FrameTimer) : accepted { s.toHunt.accepting f with timer := y } := by
    obtain ⟨hrx, hingress, hcounters⟩ := accepting_accepted f s.toHunt
    have hheld : (s.toHunt.accepting f).ingress.held = holdSamples s.toHunt 0 f.samples s.ingress.held := by rw [hingress]; rfl
    refine ⟨hrx, ?_, fun hmap i c hi => ?_, fun c hc => ?_, accepting_own f _, hcounters, ?_⟩
    · simp only [hheld]
      exact hingress
    · simp only [hheld]
      rw [holdSamples_get (s := s.toHunt) hmap hi]
      simp only [Nat.zero_le, and_true, Nat.sub_zero]
      rfl
    · simp only [hheld]
      exact holdSamples_unmapped (s := s.toHunt) hc _ _ _
    · exact congrArg (fun v : State => { v with timer := y }) hm.toHunt_stands
  have hexpected (y : FrameTimer) : ({ s.toHunt.accepting f with timer := y } : State).rx.expected = some (f.seq + 1) := by
    rw [(haccepted y).1]
  have hsource' : (s.toHunt.accepting f).setup.source = .paced := by rw [hm.setup]; exact hsource
  have hflow' : (s.toHunt.accepting f).ingress.flow = .live := by rw [hm.ingress_flow]; exact hflow
  have hstarve : (s.toHunt.accepting f).setup.starve = s.setup.starve := by rw [hm.setup]; rfl
  have htimer : (s.toHunt.accepting f).timer = s.timer := hm.timer
  cases hheld : s.timer.heldTick with
  | true =>
    refine ⟨_, hexec.trans (congrArg _ (askTick_held hsource' hflow' (by rw [htimer, hheld]))), ?_⟩
    rw [htimer, hstarve]
    exact ⟨rfl, hexpected _, fun _ => ⟨rfl, haccepted _⟩, nofun, nofun⟩
  | false =>
    rcases Nat.lt_or_ge us 5 with hus | hus
    · refine ⟨_, hexec.trans (congrArg _ (askTick_hold hsource' hflow' (by rw [htimer, hheld]) hus)), ?_⟩
      rw [htimer, hstarve]
      exact ⟨rfl, hexpected _, nofun, fun _ _ => ⟨rfl, haccepted _⟩, fun _ h => absurd hus (Nat.not_lt.2 h)⟩
    · have hstart : s.TickStarts (.sampleFrame us o) o
          { s.toHunt.accepting f with timer := { s.timer with starve := some s.setup.starve } } :=
        ⟨State.taken?_running htaken, .inr (.inr ⟨us, f, rfl, htaken, hnear, hsource, hflow, hheld, hus, rfl⟩)⟩
      have hacc := haccepted { s.timer with starve := some s.setup.starve }
      have hexp := hexpected { s.timer with starve := some s.setup.starve }
      have hpaced := tick_timer_paced o
        (s := { s.toHunt.accepting f with timer := { s.timer with starve := some s.setup.starve } }) hflow' hsource'
      generalize hs0 : ({ s.toHunt.accepting f with timer := { s.timer with starve := some s.setup.starve } } : State) = s0
        at hstart hacc hexp hpaced
      have htimer0 : s0.timer = { s.timer with starve := some s.setup.starve } := by rw [← hs0]
      have hflow0 : s0.ingress.flow = .live := by rw [← hs0]; exact hflow'
      have hsource0 : s0.setup.source = .paced := by rw [← hs0]; exact hsource'
      rw [htimer0] at hpaced
      refine ⟨tick o s0, hstart.exec, by rw [hpaced], by rw [(tick_keeps o s0).2.2.2.2.2.1]; exact hexp, nofun,
        fun _ h => absurd h (Nat.not_lt.2 hus), fun _ _ => ⟨hpaced, (tick_read o s0).1, (tick_judged o s0).paced hflow0 hsource0,
          ⟨_, congrArg Port.sending (tick_port o s0), rfl⟩, s0, hstart, rfl, hacc, htimer0⟩⟩

end Sys2Proof.Machine
end

section
/-! What a tick computes for each channel, delivers, and offers to the taps (3.2 to 3.5, 4.4 to 4.6, 7.2, 7.3). -/

namespace Sys2Proof.Machine

/-! ### The evaluation of a tick by a watch (7.3) -/

section
variable {s : State} {vs : TickValues} {x : Watch}

theorem evaluate_off (h : x.record.enabled = false) : x.evaluate s vs = x := if_pos h

theorem evaluate_on (h : x.record.enabled = true) (hc : s.enabled x.record.channel = true) : x.evaluate s vs
    = if conditionHolds x.record (tapValue vs x.record.tap x.record.channel)
      then x.held (tapValue vs x.record.tap x.record.channel) else x.missed := by
  unfold Watch.evaluate
  rw [if_neg (by simp [h]), if_neg (by simp [hc])]

theorem evaluate_missed (h : x.record.enabled = true)
    (hm : s.enabled x.record.channel = false ∨ conditionHolds x.record (tapValue vs x.record.tap x.record.channel) = false) :
    x.evaluate s vs = x.missed := by
  cases hc : s.enabled x.record.channel with
  | false =>
    unfold Watch.evaluate
    rw [if_neg (by simp [h]), if_pos hc]
  | true =>
    have hfalse := hm.resolve_left (by simp [hc])
    rw [evaluate_on h hc, if_neg (by simp [hfalse])]

/-- The count of a watch whose condition holds once more. -/
def Watch.counted (x : Watch) : Nat := if x.count < x.record.persistence then x.count + 1 else x.record.persistence

theorem held_waits (v : Word) (h : x.counted < x.record.persistence ∨ x.latched = true ∨ x.spent = true) :
    x.held v = { x with count := x.counted } := by
  refine if_neg fun ⟨hcount, hlatched, hspent⟩ => ?_
  rcases h with h | h | h
  · exact absurd hcount (Nat.ne_of_lt h)
  · simp [h] at hlatched
  · simp [h] at hspent

theorem held_fires (v : Word) (hn : x.counted = x.record.persistence) (hl : x.latched = false) (hs : x.spent = false) :
    x.held v = { x with
      count := x.counted
      latched := match x.record.rearm with | .every => true | .oneShot => x.latched
      spent := match x.record.rearm with | .oneShot => true | .every => x.spent
      fire := some v } := if_pos ⟨hn, hl, hs⟩

end

/-- Settles O27. -/
theorem watchCountsAndFires : Obligations.WatchCountsAndFires := by
  intro s vs x r v n
  refine ⟨evaluate_off, evaluate_missed, fun h hc hv => ⟨fun hw => ?_, fun hn hl hs => ⟨fun hr => ?_, fun hr => ?_⟩⟩⟩
  · rw [evaluate_on h hc, if_pos hv]
    exact held_waits v hw
  · rw [evaluate_on h hc, if_pos hv, held_fires v hn hl hs]
    simp only [show x.record.rearm = .every from hr]
    rfl
  · rw [evaluate_on h hc, if_pos hv, held_fires v hn hl hs]
    simp only [show x.record.rearm = .oneShot from hr]
    rfl

/-! ### What one channel's tick comes to -/

section
variable {s : State} {c : Chan}

theorem channelTick_disabled (h : s.enabled c = false) :
    channelTick s c = heldTick s.channels.records[c] s.channels.records[c].safeValue .opened := if_pos h

theorem channelTick_bypassed (h : s.enabled c = true) (hv : sourceValue? c s = none) :
    channelTick s c = heldTick s.channels.records[c] s.channels.records[c].safeValue .none := by
  have henabled : s.channels.records[c].enabled = true := h
  unfold channelTick
  simp only [henabled, hv, Bool.true_eq_false, if_false]

theorem channelTick_safe {v : Word} (h : s.enabled c = true) (hv : sourceValue? c s = some v) (ha : s.safe.asserted = true) :
    channelTick s c = heldTick s.channels.records[c] v .none := by
  have henabled : s.channels.records[c].enabled = true := h
  unfold channelTick
  simp only [henabled, hv, Bool.true_eq_false, if_false, ha, if_true]

theorem channelTick_runs {v : Word} (h : s.enabled c = true) (hv : sourceValue? c s = some v) (ha : s.safe.asserted = false) :
    channelTick s c = pipeline c v s := by
  have henabled : s.channels.records[c].enabled = true := h
  unfold channelTick
  simp only [henabled, hv, Bool.true_eq_false, if_false, ha, Bool.false_eq_true]

theorem tickValues_get (s : State) (c : Chan) : (tickValues s)[c] = channelTick s c := by
  unfold tickValues
  rw [Fin.getElem_fin, Vector.getElem_ofFn]

theorem heldTick_input (r : ChannelRecord) (v : Word) (p : PinCondition) : (heldTick r v p).input = v := rfl

theorem outs_get (vs : TickValues) (c : Chan) : (Vector.ofFn fun c : Chan => vs[c].out)[c] = vs[c].out := by
  rw [Fin.getElem_fin, Vector.getElem_ofFn]

/-- The INPUT tap of an enabled channel is its source value, also under SAFE_N (R40). -/
theorem channelTick_input {v : Word} (h : s.enabled c = true) (hv : sourceValue? c s = some v) : (channelTick s c).input = v := by
  cases ha : s.safe.asserted with
  | true =>
    rw [channelTick_safe h hv ha]
    rfl
  | false =>
    rw [channelTick_runs h hv ha]
    rfl

/-! ### The source value (R37, R38) -/

theorem sourceValue?_code (h : s.channels.records[c].source = .code) : sourceValue? c s = some s.channels.records[c].insert := by
  simp only [sourceValue?, h]

theorem sourceValue?_track {u : TrackNo} (h : s.channels.records[c].source = .track u) :
    sourceValue? c s = some (s.track u).presented := by
  simp only [sourceValue?, h]

theorem sourceValue?_live (h : s.channels.records[c].source = .live) (hf : s.ingress.flow = .live) :
    sourceValue? c s = some s.ingress.held[c] := by
  simp only [sourceValue?, h, hf, if_true]

theorem sourceValue?_starve (h : s.channels.records[c].source = .live) (hf : s.ingress.flow ≠ .live) :
    sourceValue? c s = starveValue? s.channels.records[c] s.ingress.held[c] := by
  simp only [sourceValue?, h, hf, if_false]

theorem sourceValue?_hold (h : s.channels.records[c].source = .live) (hs : s.channels.records[c].starve = .hold) :
    sourceValue? c s = some s.ingress.held[c] := by
  by_cases hf : s.ingress.flow = .live
  · exact sourceValue?_live h hf
  · rw [sourceValue?_starve h hf]
    simp only [starveValue?, hs]

theorem sourceValue?_insert (h : s.channels.records[c].source = .live) (hf : s.ingress.flow ≠ .live)
    (hs : s.channels.records[c].starve = .code) : sourceValue? c s = some s.channels.records[c].insert := by
  rw [sourceValue?_starve h hf]
  simp only [starveValue?, hs]

theorem sourceValue?_bypassed (h : s.channels.records[c].source = .live) (hf : s.ingress.flow ≠ .live)
    (hs : s.channels.records[c].starve = .safe) : sourceValue? c s = none := by
  rw [sourceValue?_starve h hf]
  simp only [starveValue?, hs]

end

/-! ### The state a tick computes from, seen at the tick's end -/

section
variable (o : CountOrder) (s : State)

theorem judged_flow : s.judged.ingress.flow = (tick o s).ingress.flow := by rw [(tick_keeps o s).1]

theorem judged_enabled (c : Chan) : s.judged.enabled c = s.enabled c := by
  unfold State.enabled
  rw [judged_channels]

theorem tick_sending : (tick o s).port.sending = some
    { safe := false, words := Vector.ofFn fun c => (tickValues s.judged)[c].out, designations := designationsOf (tickValues s.judged),
      sent := 0 } := congrArg Port.sending (tick_port o s)

theorem takeValues_replay (vs : TickValues) : (takeValues vs s).replay = s.replay := (takeValues_moves vs s).replay

theorem deliverTick_replay (vs : TickValues) : (deliverTick vs s).replay = s.replay := by
  obtain ⟨u, hu, hd⟩ := deliverTick_eq vs s
  have hmeet : (meetTick u).replay = u.replay := State.mapSlots_replay _ _
  have hwatches : (watchesTick vs (beginDelivery vs (takeValues vs s))).replay = (takeValues vs s).replay := rfl
  rw [hd, hmeet, hu.replay, hwatches, takeValues_replay]

/-- What the tracks present at a tick stands at its end. -/
theorem tick_presented (u : TrackNo) : ((tick o s).track u).presented = (s.judged.track u).presented := by
  have hcore : ((tickCore s).track u).presented = (s.judged.track u).presented := by
    rw [tickCore_eq, State.track, deliverTick_replay]
    rfl
  cases o
  · exact ((scenarioTick_logs (tickCore s)).presented u).trans hcore
  · exact hcore

end

/-- A watch's evaluation reads whether its channel is enabled, and nothing else of the state. -/
theorem evaluate_congr {s t : State} (h : ∀ c, t.enabled c = s.enabled c) (vs : TickValues) (x : Watch) :
    x.evaluate t vs = x.evaluate s vs := by
  unfold Watch.evaluate
  rw [h]

theorem tick_watchOf (o : CountOrder) {s : State} (hs : s.Settled) (w : WatchNo) :
    (tick o s).watchOf w = (s.watchOf w).evaluate s (tickValues s.judged) := by
  have hwatch : s.judged.watchOf w = s.watchOf w := by rw [State.watchOf, hs.judged_watch]; rfl
  rw [State.watchOf, tick_watch]
  change (Vector.ofFn fun w => (s.judged.watchOf w).evaluate s.judged (tickValues s.judged))[w] = _
  rw [Fin.getElem_fin, Vector.getElem_ofFn, hwatch]
  exact evaluate_congr (judged_enabled s) _ _

theorem tick_hits (o : CountOrder) (s : State) : (tick o s).watch.hits = s.judged.watch.hits := by rw [tick_watch]

/-- The words a tick begins to deliver, for its OUTPUT taps. -/
theorem tapValue_output (vs : TickValues) (c : Chan) :
    tapValue vs .output c = (Vector.ofFn fun c => vs[c].out)[c].value := by
  have hget := outs_get vs c
  exact congrArg OutWord.value hget.symm

section
variable {s s0 : State} {o : CountOrder} {k : Instr}

/-- What the state a tick is judged in has of the channels before it. -/
theorem State.TickStarts.judged_channels (hstart : s.TickStarts k o s0) (c : Chan) :
    s0.judged.enabled c = s.enabled c ∧ s0.judged.channels.records = s.channels.records := by
  obtain ⟨-, hchannels, -⟩ := hstart.keeps
  refine ⟨?_, by rw [Machine.judged_channels, hchannels]⟩
  rw [judged_enabled]
  unfold State.enabled
  rw [hchannels]

theorem inputTap_eq (s : State) (c : Chan) : tapValue (tickValues s) .input c = (channelTick s c).input := by
  rw [tapValue, tickValues_get]

/-- What a disabled channel offers its INPUT tap at a tick (7.2). -/
theorem inputTap_disabled (hstart : s.TickStarts k o s0) {c : Chan} (he : s.enabled c = false) :
    tapValue (tickValues s0.judged) .input c = s.channels.records[c].safeValue := by
  obtain ⟨henabled, hrecords⟩ := hstart.judged_channels c
  rw [inputTap_eq, channelTick_disabled (henabled.trans he), heldTick_input, hrecords]

/-- What an enabled channel offers its INPUT tap at a tick: its source's value, or the safe value where its starve policy
bypasses it (7.2). -/
theorem inputTap_enabled (hstart : s.TickStarts k o s0) {c : Chan} (he : s.enabled c = true) :
    let r := s.channels.records[c]
    let v := tapValue (tickValues s0.judged) .input c
    (r.source = .code → v = r.insert)
      ∧ (∀ u, r.source = .track u → v = ((tick o s0).track u).presented)
      ∧ (r.source = .live → ((tick o s0).ingress.flow = .live ∨ r.starve = .hold) → v = s0.ingress.held[c])
      ∧ (r.source = .live → (tick o s0).ingress.flow ≠ .live → r.starve = .code → v = r.insert)
      ∧ (r.source = .live → (tick o s0).ingress.flow ≠ .live → r.starve = .safe → v = r.safeValue) := by
  obtain ⟨henabled, hrecords⟩ := hstart.judged_channels c
  have hheld : s0.judged.ingress.held = s0.ingress.held := judged_ingress_held s0
  have hflow := judged_flow o s0
  have hsource {v : Word} (hv : sourceValue? c s0.judged = some v) : tapValue (tickValues s0.judged) .input c = v := by
    rw [inputTap_eq, channelTick_input (henabled.trans he) hv]
  intro r v
  refine ⟨fun h => ?_, fun u h => ?_, fun h hf => ?_, fun h hf hs => ?_, fun h hf hs => ?_⟩
  · change s.channels.records[c].source = _ at h
    change tapValue _ _ _ = s.channels.records[c].insert
    rw [← hrecords] at h ⊢
    exact hsource (sourceValue?_code h)
  · change s.channels.records[c].source = _ at h
    rw [← hrecords] at h
    rw [tick_presented]
    exact hsource (sourceValue?_track h)
  · change s.channels.records[c].source = _ at h
    change _ ∨ s.channels.records[c].starve = _ at hf
    rw [← hrecords] at h hf
    rw [← hheld]
    refine hsource ?_
    rcases hf with hf | hf
    · exact sourceValue?_live h (hflow.trans hf)
    · exact sourceValue?_hold h hf
  · change s.channels.records[c].source = _ at h
    change s.channels.records[c].starve = _ at hs
    change tapValue _ _ _ = s.channels.records[c].insert
    rw [← hrecords] at h hs ⊢
    exact hsource (sourceValue?_insert h (fun k => hf (hflow.symm.trans k)) hs)
  · change s.channels.records[c].source = _ at h
    change s.channels.records[c].starve = _ at hs
    change tapValue _ _ _ = s.channels.records[c].safeValue
    rw [← hrecords] at h hs ⊢
    rw [inputTap_eq, channelTick_bypassed (henabled.trans he)
        (sourceValue?_bypassed h (fun k => hf (hflow.symm.trans k)) hs), heldTick_input]

end

/-- Settles O28. -/
theorem tickFeedsTheTaps : Obligations.TickFeedsTheTaps := by
  intro s s0 o k hstart hsettled
  obtain ⟨-, hchannels, -, hwatch, -⟩ := hstart.keeps
  refine ⟨tick o s0, _, tickValues s0.judged, hstart.exec, tick_sending o s0, fun w => ?_, ?_, tapValue_output _,
    fun c => inputTap_disabled hstart, fun c => inputTap_enabled hstart⟩
  · have hsame : s0.watchOf w = s.watchOf w := by rw [State.watchOf, hwatch]; rfl
    rw [tick_watchOf o hsettled, hsame]
    exact evaluate_congr (fun c => by unfold State.enabled; rw [hchannels]) _ _
  · rw [tick_hits, hsettled.judged_watch, hwatch]

end Sys2Proof.Machine
end

section
/-! The words a tick delivers, and the slots a tick meets (3.3 to 3.5, 6.4). -/

namespace Sys2Proof.Machine

/-! ### Words within limits (R48, R69) -/

/-- A clamped value lies within the limits it is clamped to. -/
theorem clampOut_between {r : ChannelRecord} (h : r.lo.toInt ≤ r.hi.toInt) (z : Int) :
    r.lo.toInt ≤ (clampOut r z).toInt ∧ (clampOut r z).toInt ≤ r.hi.toInt := by
  unfold clampOut
  split_ifs with hlo hhi
  · exact ⟨le_refl _, h⟩
  · exact ⟨h, le_refl _⟩
  · have hmin := r.lo.le_toInt
    have hmax := r.hi.toInt_lt
    have hz : (BitVec.ofInt 16 z).toInt = z := by
      refine BitVec.toInt_ofInt_eq_self (by decide) ?_ ?_ <;> simp at hmin hmax ⊢ <;> omega
    rw [hz]
    omega

section
variable {s : State} {c : Chan}

/-- A channel's tick holds its safe value, or runs its pipeline on its source value (R37 to R39). -/
theorem channelTick_held_or_runs (s : State) (c : Chan) :
    (∃ v p, p ≠ .toPartner ∧ channelTick s c = heldTick s.channels.records[c] v p) ∨ ∃ v, channelTick s c = pipeline c v s := by
  cases he : s.enabled c with
  | false => exact .inl ⟨_, _, (by decide), channelTick_disabled he⟩
  | true =>
    cases hv : sourceValue? c s with
    | none => exact .inl ⟨_, _, (by decide), channelTick_bypassed he hv⟩
    | some v =>
      cases ha : s.safe.asserted with
      | true => exact .inl ⟨_, _, (by decide), channelTick_safe he hv ha⟩
      | false => exact .inr ⟨v, channelTick_runs he hv ha⟩

theorem heldTick_out (r : ChannelRecord) (v : Word) (p : PinCondition) :
    (heldTick r v p).out = { value := r.safeValue, cond := p } := rfl

/-- Every word a tick computes is within the limits of its channel's record (R48). -/
theorem channelTick_between (h : s.channels.records[c].Legal) :
    s.channels.records[c].lo.toInt ≤ (channelTick s c).out.value.toInt
      ∧ (channelTick s c).out.value.toInt ≤ s.channels.records[c].hi.toInt := by
  obtain ⟨hlo, hhi, -⟩ := h
  rcases channelTick_held_or_runs s c with ⟨v, p, -, hc⟩ | ⟨v, hc⟩
  · rw [hc, heldTick_out]
    exact ⟨hlo, hhi⟩
  · rw [hc]
    exact clampOut_between (hlo.trans hhi) _

/-- Under SAFE_N an enabled channel's word is its safe value without condition (R45). -/
theorem channelTick_asserted (he : s.enabled c = true) (ha : s.safe.asserted = true) :
    (channelTick s c).out = { value := s.channels.records[c].safeValue, cond := .none } := by
  cases hv : sourceValue? c s with
  | none => rw [channelTick_bypassed he hv, heldTick_out]
  | some v => rw [channelTick_safe he hv ha, heldTick_out]

end

/-! ### The timers at a tick -/

theorem takeFlow_timer_local {s : State} (h : s.setup.source = .lcl) : (takeFlow s).timer = s.timer := by
  unfold takeFlow
  split
  · change { s.timer with
      interval := match s.setup.source with | .paced => none | .lcl => s.timer.interval
      starve := match s.setup.source with | .paced => some s.setup.starve | .lcl => s.timer.starve } = s.timer
    rw [h]
  · rfl
  · rfl

theorem judgeRuns_timer (b : Bool) (s : State) : (judgeRuns b s).timer = s.timer := by
  unfold judgeRuns
  split
  · rfl
  · split
    · exact (advance_moves _ _ _).timer
    · rfl
  · rfl
  · rfl

theorem judgeRuns_setup (b : Bool) (s : State) : (judgeRuns b s).setup = s.setup := by
  unfold judgeRuns
  split
  · rfl
  · split
    · exact (advance_moves _ _ _).setup
    · rfl
  · rfl
  · rfl

theorem judge_timer_local {s : State} (h : s.setup.source = .lcl) : (judge s).timer = s.timer := by
  unfold judge
  rw [takeFlow_timer_local, judgeRuns_timer]
  rw [judgeRuns_setup]
  exact h

/-- In LOCAL mode a tick leaves the timers as they are, its count aside. -/
theorem tick_timer_local (o : CountOrder) {s : State} (h : s.setup.source = .lcl) :
    (tick o s).timer = { s.timer with ticks := s.timer.ticks + 1 } := by
  have hsource : s.opened.setup.source = .lcl := by rw [opened_setup, h]
  rw [tick_timer, judge_timer_local hsource, opened_timer]

theorem tick_ticks (o : CountOrder) (s : State) : (tick o s).timer.ticks = s.timer.ticks + 1 := by
  rw [(tick_keeps o s).2.1, judged_ticks]

theorem tick_heldTick (o : CountOrder) (s : State) : (tick o s).timer.heldTick = s.timer.heldTick := by
  rw [(tick_keeps o s).2.1, judged_timer_heldTick]

/-- What the state a tick occurs in has beside the fields a tick reads. -/
theorem State.TickStarts.stands {s s0 : State} {c : Instr} {o : CountOrder} (h : s.TickStarts c o s0) :
    s0.bank = s.bank ∧ s0.tx.replies = s.tx.replies ∧ s0.tx.line = s.tx.line := by
  obtain ⟨-, ⟨rfl, -, rfl⟩ | ⟨rfl, -, rfl⟩ | ⟨us, f, rfl, -, -, -, -, -, -, rfl⟩⟩ := h
  · exact ⟨rfl, rfl, rfl⟩
  · exact ⟨rfl, rfl, rfl⟩
  · have hm := accepting_moves f s.toHunt
    refine ⟨?_, ?_, ?_⟩
    · change (s.toHunt.accepting f).bank = s.toHunt.bank
      rw [hm]
    · change (s.toHunt.accepting f).tx.replies = s.toHunt.tx.replies
      rw [hm]
    · change (s.toHunt.accepting f).tx.line = s.toHunt.tx.line
      rw [hm]

theorem State.TickStarts.released {s s0 : State} {o p : CountOrder} (h : s.TickStarts (.heldTickRelease o) p s0) :
    s0.timer.heldTick = false := by
  obtain ⟨-, ⟨h, -, rfl⟩ | ⟨-, -, rfl⟩ | ⟨us, f, h, -⟩⟩ := h
  · cases h
  · rfl
  · cases h

theorem State.TickStarts.interval {s s0 : State} {o p : CountOrder} (h : s.TickStarts (.frameTimerExpiry o) p s0) :
    s0.timer.interval = some s.setup.period := by
  obtain ⟨-, ⟨-, -, rfl⟩ | ⟨h, -⟩ | ⟨us, f, h, -⟩⟩ := h
  · rfl
  · cases h
  · cases h

/-- The word a tick delivers for a channel. -/
theorem words_get (j : State) (c : Chan) : (Vector.ofFn fun c : Chan => (tickValues j)[c].out)[c] = (channelTick j c).out := by
  rw [outs_get, tickValues_get]

/-- Settles O11. -/
theorem tickDeliversAWordPerChannel : Obligations.TickDeliversAWordPerChannel := by
  intro s s0 o k hstart
  obtain ⟨hsetup, hchannels, hscenario, -, hreplay, -, hsafe, hticks⟩ := hstart.keeps
  obtain ⟨hbank, hreplies, hline⟩ := hstart.stands
  obtain ⟨hingress, htimer, krecords, kbank, ksetup, krx, ksafe, kmem, kblocks, kentries, kreplies, kline, -⟩ := tick_keeps o s0
  have hrecords : s0.judged.channels.records = s.channels.records := by rw [judged_channels, hchannels]
  have henabled (c : Chan) : s0.judged.enabled c = s.enabled c := by
    rw [judged_enabled]
    unfold State.enabled
    rw [hchannels]
  have hasserted : s0.judged.safe.asserted = s.safe.asserted := by rw [judged_safe, hsafe]
  refine ⟨tick o s0, _, hstart.exec, by rw [tick_ticks, hticks], fun h => ?_, fun h hsource => ?_, tick_sending o s0, rfl,
    fun c hc => ?_, fun c hc => ?_, fun c hc ha => ?_, by rw [krecords, hchannels], by rw [kbank, hbank], by rw [ksetup, hsetup],
    krx, by rw [ksafe, hsafe], by rw [kmem, hreplay], by rw [kblocks, hscenario], by rw [kentries, hscenario],
    by rw [kreplies, hreplies], by rw [kline, hline], ?_⟩
  · subst h
    rw [tick_heldTick, hstart.released]
  · subst h
    rw [tick_timer_local o (hsetup ▸ hsource), ← hstart.interval]
  · rw [words_get, ← hrecords]
    rw [← hrecords] at hc
    exact channelTick_between hc
  · rw [words_get, channelTick_disabled ((henabled c).trans hc), heldTick_out, hrecords]
  · rw [words_get, channelTick_asserted ((henabled c).trans hc) (hasserted.trans ha), hrecords]
  · rw [hingress, judged_ingress_held]

end Sys2Proof.Machine
end

section
/-! The value pipeline at a tick: contexts, last transform values, clips, words and strobes (4.4 to 4.6, 3.3). -/

namespace Sys2Proof.Machine

/-! ### The strobes of a tick's delivery (R41, R42) -/

/-- One entry at most of a listing by key stands under the key `k`. -/
theorem filter_filterMap_key {α β : Type} [DecidableEq α] (f : α → Option β) (k : α) {l : List α} (hl : l.Nodup) :
    (l.filterMap fun c => (f c).map fun p => (c, p)).filter (fun q => q.1 == k)
      = if k ∈ l then (f k).toList.map fun p => (k, p) else [] := by
  induction l with
  | nil => rfl
  | cons c l ih =>
    obtain ⟨hc, hl⟩ := List.nodup_cons.1 hl
    have ih := ih hl
    cases hf : f c with
    | none =>
      rw [List.filterMap_cons_none (by rw [hf]; rfl), ih]
      by_cases h : k = c
      · subst h
        rw [if_neg hc, if_pos List.mem_cons_self, hf]
        rfl
      · simp [h]
    | some p =>
      rw [List.filterMap_cons_some (b := (c, p)) (by rw [hf]; rfl)]
      by_cases h : k = c
      · subst h
        rw [List.filter_cons_of_pos (by simp), ih, if_neg hc, if_pos List.mem_cons_self, hf]
        rfl
      · rw [List.filter_cons_of_neg (by simpa using Ne.symm h), ih]
        simp [h]

/-- A TO_PARTNER word comes with the designation of its partner, and no other word with one (R42). -/
theorem channelTick_designation (s : State) (c : Chan) : (channelTick s c).designation
    = if (channelTick s c).out.cond = .toPartner then some s.own[c].current.fields.partner else none := by
  rcases channelTick_held_or_runs s c with ⟨v, p, hp, hc⟩ | ⟨v, hc⟩
  · rw [hc, heldTick_out, if_neg hp]
    rfl
  · rw [hc]
    rfl

section
variable (vs : TickValues)

/-- The designations a tick's delivery has for channel `k`. -/
theorem designationsOf_filter (k : Chan) :
    (designationsOf vs).filter (fun q => q.1 == k) = (vs[k].designation).toList.map fun p => (k, p) := by
  unfold designationsOf
  rw [filter_filterMap_key (fun c : Chan => vs[c].designation) k (List.nodup_finRange 32), if_pos (List.mem_finRange k)]

theorem strobesOf_tick (k : Chan) (w : Vector OutWord 32) :
    Delivery.strobesOf { safe := false, words := w, designations := designationsOf vs, sent := 0 } k
      = wordStrobe k w[k] :: (vs[k].designation).toList.map (designationStrobe k) := by
  unfold Delivery.strobesOf
  rw [designationsOf_filter, List.map_map]
  rfl

end

theorem wordStrobe_eq (k : Chan) (w : OutWord) : wordStrobe k w =
    { chan := k, data := w.value
      code := match w.cond with | .none => 0 | .opened => 1 | .toGround => 2 | .toSupply => 3 | .toPartner => 4 } := by
  cases h : w.cond <;> simp only [wordStrobe, h] <;> rfl

/-- The strobes of a tick: each word, and after a TO_PARTNER word its designation (R41, R42). -/
theorem tick_strobes (j : State) :
    Delivery.strobes { safe := false, words := Vector.ofFn fun c : Chan => (tickValues j)[c].out,
                       designations := designationsOf (tickValues j), sent := 0 }
      = (List.finRange 32).flatMap fun k =>
          wordStrobe k (channelTick j k).out
            :: (if (channelTick j k).out.cond = .toPartner then [designationStrobe k j.own[k].current.fields.partner] else []) := by
  unfold Delivery.strobes
  refine congrArg (List.finRange 32).flatMap (funext fun k => ?_)
  rw [strobesOf_tick, words_get, tickValues_get, channelTick_designation]
  split_ifs <;> rfl

/-! ### Clips (R69) -/

section
variable (vs : TickValues) (c : Chan)

theorem countClips_counter (s : State) : (countClips vs s).events.counters[ctrClips c]
    = s.events.counters[ctrClips c] + if vs[c].clip then 1 else 0 := by
  refine foldl_finRange_get (γ := Unit) (fun s c => if vs[c].clip then advance (ctrClips c) 1 s else s)
    (fun s c => s.events.counters[ctrClips c]) (fun _ => ()) (fun _ c v => v + if vs[c].clip then 1 else 0)
    (fun s i => ?_) (fun s i j hij => ?_) (fun _ _ => rfl) s c
  · change (if vs[i].clip then advance (ctrClips i) 1 s else s).events.counters[ctrClips i]
      = s.events.counters[ctrClips i] + if vs[i].clip then 1 else 0
    split_ifs
    · rw [advance_counters_add, if_pos rfl]
      rfl
    · exact (BitVec.add_zero _).symm
  · change (if vs[i].clip then advance (ctrClips i) 1 s else s).events.counters[ctrClips j] = s.events.counters[ctrClips j]
    split_ifs
    · rw [advance_counters_add, if_neg]
      · exact BitVec.add_zero _
      · intro h
        have hval := congrArg Fin.val h
        simp only [ctrClips] at hval
        exact hij (Fin.ext (by omega))
    · rfl

theorem not_ofCapture_clips : ¬ Event.ofCapture (.counterWrap (ctrClips c)) := by
  rintro ⟨k, h⟩
  have hval := congrArg Fin.val h
  simp only [ctrClips, ctrRecordsDropped] at hval
  omega

theorem not_ofFlow_ofTrack_clips : ¬ (Event.ofFlow (.counterWrap (ctrClips c)) ∨ Event.ofTrack (.counterWrap (ctrClips c))) := by
  rintro (h | ⟨u, h⟩)
  · have hval := congrArg Fin.val (show ctrClips c = ctrStaleTicks from h)
    simp [ctrClips, ctrStaleTicks] at hval
    omega
  · have hval := congrArg Fin.val h
    simp only [ctrClips, ctrUnderrunTicks] at hval
    omega

theorem deliverTick_clips (s : State) : (deliverTick vs s).events.counters[ctrClips c]
    = s.events.counters[ctrClips c] + if vs[c].clip then 1 else 0 := by
  have hput : (putValues vs s).events = s.events := by
    unfold putValues
    rfl
  have hvalues : (watchesTick vs (beginDelivery vs (takeValues vs s))).events.counters[ctrClips c]
      = s.events.counters[ctrClips c] + if vs[c].clip then 1 else 0 := by
    rw [watchesTick_events, takeValues_eq, countClips_counter, hput]
  unfold deliverTick
  generalize watchesTick vs (beginDelivery vs (takeValues vs s)) = w at hvalues ⊢
  have hcaptures := (capturesTick_logs w vs).counters _ (not_ofCapture_clips c)
  rw [meetTick_events]
  exact hcaptures.trans hvalues

theorem tick_countFirst (s : State) : tick .countFirst s = scenarioTick (tickCore s) := rfl

theorem tick_eventsFirst (s : State) : tick .eventsFirst s = tickCore s := rfl

/-- At a settled tick the CLIPS of a channel count its clip and nothing else (R69). -/
theorem tick_clips (o : CountOrder) {s : State} (h : s.Settled) : (tick o s).events.counters[ctrClips c]
    = s.events.counters[ctrClips c] + if (channelTick s.judged c).clip then 1 else 0 := by
  have hcore : (tickCore s).events.counters[ctrClips c]
      = s.events.counters[ctrClips c] + if (channelTick s.judged c).clip then 1 else 0 := by
    rw [tickCore_eq, deliverTick_clips, h.judged_logs.counters _ (not_ofFlow_ofTrack_clips c), tickValues_get]
  cases o
  · rw [tick_countFirst, (scenarioTick_logs (tickCore s)).logs.counters (ctrClips c) id]
    exact hcore
  · exact hcore

end

/-! ### The slots a tick meets (R99) -/

theorem State.Settled.judged_scenario {s : State} (h : s.Settled) : s.judged.scenario = s.scenario := by
  unfold State.judged
  rw [(tracksTick_moves _).scenario, (judge_moves _).scenario, countTick]
  simp only []
  rw [(clearPort_moves _).scenario, h.closeTick]

theorem State.mapSlots_slot (f : Slot → Slot) (s : State) (n : SlotNo) : (s.mapSlots f).slot n = f (s.slot n) := by
  unfold State.mapSlots State.slot
  rw [Fin.getElem_fin, Vector.getElem_ofFn]

theorem deliverTick_slot (vs : TickValues) (s : State) (n : SlotNo) :
    (deliverTick vs s).slot n = { s.slot n with counts := (s.slot n).meetsTick } := by
  obtain ⟨u, hu, hd⟩ := deliverTick_eq vs s
  have hslot : u.slot n = s.slot n := by
    have hwatches : (watchesTick vs (beginDelivery vs (takeValues vs s))).scenario = (takeValues vs s).scenario := rfl
    unfold State.slot
    rw [hu.scenario, hwatches, (takeValues_moves vs s).scenario]
  rw [hd, meetTick, State.mapSlots_slot, hslot]

theorem deliverTick_own (vs : TickValues) (s : State) (c : Chan) :
    (deliverTick vs s).own[c] = s.own[c].setCurrent (vs[c].context.getD s.own[c].current) := by
  obtain ⟨u, hu, hd⟩ := deliverTick_eq vs s
  have hwatches : (watchesTick vs (beginDelivery vs (takeValues vs s))).own = (takeValues vs s).own := rfl
  have hvalues : (takeValues vs s).own = (putValues vs s).own := (takeValues_own vs s).trans rfl
  have hmeet : (meetTick u).own = u.own := rfl
  rw [hd, hmeet, hu.own, hwatches, hvalues, putValues_own]

/-! ### Contexts and pipelines at a quiet tick -/

/-- No slot acts at the tick, or its count stands open (log 5). -/
def State.QuietTick (s : State) (o : CountOrder) : Prop := o = .eventsFirst ∨ ∀ n : SlotNo, ¬ s.endsAtTick n ∧ ¬ s.claimsAtTick n

theorem Slot.meets_entryDue {x : Slot} : Slot.entryDue { x with counts := x.meetsTick } = true
    ↔ x.state = .running ∧ x.ticksLeft ≤ 1 := by
  simp only [Slot.entryDue, Slot.meetsTick, Bool.and_eq_true, Bool.or_eq_true, decide_eq_true_eq]
  exact ⟨fun ⟨⟨_, h⟩, hticks⟩ => ⟨h, hticks⟩, fun ⟨h, hticks⟩ => ⟨⟨.inl h, h⟩, hticks⟩⟩

theorem Slot.meets_delayDue {x : Slot} : Slot.delayDue { x with counts := x.meetsTick } = true
    ↔ x.state = .armed ∧ x.awaiting = false ∧ x.delayLeft = 1 := by
  simp only [Slot.delayDue, Slot.meetsTick, Bool.and_eq_true, Bool.or_eq_true, decide_eq_true_eq, Bool.not_eq_true']
  constructor
  · rintro ⟨⟨⟨_, h⟩, hawaiting⟩, hdelay⟩
    exact ⟨h, hawaiting, hdelay⟩
  · rintro ⟨h, hawaiting, hdelay⟩
    exact ⟨⟨⟨.inr ⟨⟨h, hawaiting⟩, by omega⟩, h⟩, hawaiting⟩, hdelay⟩

section
variable {s : State}

theorem scenarioTick_of_none_due (hends : entriesDue s = []) (hclaims : delaysDue s = []) : scenarioTick s = countSlots s := by
  unfold scenarioTick
  rw [hends, hclaims]
  rfl

theorem countSlots_own : (countSlots s).own = s.own := rfl

theorem State.Settled.tickCore_slot (h : s.Settled) (n : SlotNo) :
    (tickCore s).slot n = { s.slot n with counts := (s.slot n).meetsTick } := by
  have hslot : s.judged.slot n = s.slot n := by
    unfold State.slot
    rw [h.judged_scenario]
  rw [tickCore_eq, deliverTick_slot, hslot]

theorem State.Settled.mem_entriesDue (h : s.Settled) (n : SlotNo) : n ∈ entriesDue (tickCore s) ↔ s.endsAtTick n := by
  rw [Machine.mem_entriesDue, h.tickCore_slot, Slot.meets_entryDue]
  rfl

theorem State.Settled.mem_delaysDue (h : s.Settled) (n : SlotNo) : n ∈ delaysDue (tickCore s) ↔ s.claimsAtTick n := by
  rw [Machine.mem_delaysDue, h.tickCore_slot, Slot.meets_delayDue]
  rfl

theorem State.Settled.tickCore_own (h : s.Settled) (c : Chan) : (tickCore s).own[c]
    = s.own[c].setCurrent ((channelTick s.judged c).context.getD s.own[c].current) := by
  rw [tickCore_eq, deliverTick_own, tickValues_get, h.judged_own]

/-- Where no slot acts, only the values of a tick reach the contexts. -/
theorem State.Settled.tick_own {o : CountOrder} (h : s.Settled) (hq : s.QuietTick o) (c : Chan) : (tick o s).own[c]
    = s.own[c].setCurrent ((channelTick s.judged c).context.getD s.own[c].current) := by
  rw [← h.tickCore_own]
  rcases hq with rfl | hq
  · rfl
  · cases o
    · have hends : entriesDue (tickCore s) = [] := List.eq_nil_iff_forall_not_mem.2 fun n hn =>
        (hq n).1 ((h.mem_entriesDue n).1 hn)
      have hclaims : delaysDue (tickCore s) = [] := List.eq_nil_iff_forall_not_mem.2 fun n hn =>
        (hq n).2 ((h.mem_delaysDue n).1 hn)
      rw [tick_countFirst, scenarioTick_of_none_due hends hclaims, countSlots_own]
    · rfl

end

theorem setCurrent_current (o : Ownership) : o.setCurrent o.current = o := by
  unfold Ownership.setCurrent Ownership.current
  cases o with
  | mk base active stack waiting => cases active <;> rfl

theorem setCurrent_active (o : Ownership) (x : Context) : (o.setCurrent x).active.isSome = o.active.isSome := by
  unfold Ownership.setCurrent
  cases o with
  | mk base active stack waiting => cases active <;> rfl

/-! ### What one pipeline comes to (R67 to R71) -/

section
variable (c : Chan) (v : Word) (s : State)

/-- The transform value y of channel c on the source value `v` (R67). -/
def State.transformed (s : State) (c : Chan) (v : Word) : Int :=
  transform s.own[c].current s.channels.last[c] (s.track s.own[c].current.fields.track).presented v

theorem pipeline_y : (pipeline c v s).y = some (s.transformed c v) := rfl

theorem pipeline_context : (pipeline c v s).context = some (advanceContext v s.own[c].current) := rfl

theorem pipeline_value : (pipeline c v s).out.value
    = clampOut s.channels.records[c] (s.transformed c v + s.channels.records[c].trim.toInt) := rfl

theorem pipeline_clip : ((if (pipeline c v s).clip then 1 else 0 : Word))
    = if s.transformed c v + s.channels.records[c].trim.toInt < s.channels.records[c].lo.toInt
        ∨ s.channels.records[c].hi.toInt < s.transformed c v + s.channels.records[c].trim.toInt then 1 else 0 := by
  have hclip : (pipeline c v s).clip
    = clipped s.channels.records[c] (s.transformed c v + s.channels.records[c].trim.toInt) := rfl
  rw [hclip]
  simp only [clipped, Bool.or_eq_true, decide_eq_true_eq]

theorem pipeline_cond : (pipeline c v s).out.cond
    = if s.own[c].current.fields.duty.getLsbD s.own[c].current.patternIndex = false then .none
      else if s.own[c].current.fields.pin = .toPartner ∧ s.enabled s.own[c].current.fields.partner = false then .none
      else s.own[c].current.fields.pin := by
  have hcond : (pipeline c v s).out.cond = degraded s s.own[c].current (stageCondition s.own[c].current) := rfl
  rw [hcond]
  generalize s.own[c].current = x
  unfold degraded stageCondition
  cases hon : x.patternOn with
  | false =>
    have hbit : x.fields.duty.getLsbD x.patternIndex = false := hon
    rw [if_pos hbit]
    rfl
  | true =>
    have hbit : x.fields.duty.getLsbD x.patternIndex = true := hon
    have hnot : ¬ x.fields.duty.getLsbD x.patternIndex = false := by rw [hbit]; decide
    rw [if_neg hnot]
    rfl

end

section
variable {s : State} {c : Chan}

/-- A tick that does not run the pipeline of its channel, or finds it bypassed, leaves L and the context and counts no clip. -/
theorem channelTick_held (h : s.enabled c = false ∨ s.safe.asserted = true ∨ sourceValue? c s = none) :
    (channelTick s c).y = none ∧ (channelTick s c).context = none ∧ (channelTick s c).clip = false := by
  cases he : s.enabled c with
  | false =>
    rw [channelTick_disabled he]
    exact ⟨rfl, rfl, rfl⟩
  | true =>
    cases hv : sourceValue? c s with
    | none =>
      rw [channelTick_bypassed he hv]
      exact ⟨rfl, rfl, rfl⟩
    | some v =>
      have ha : s.safe.asserted = true := by simpa [he, hv] using h
      rw [channelTick_safe he hv ha]
      exact ⟨rfl, rfl, rfl⟩

theorem tick_last_get (o : CountOrder) (s : State) (c : Chan) :
    (tick o s).channels.last[c] = (channelTick s.judged c).y.getD s.channels.last[c] := by
  rw [tick_last, Fin.getElem_fin, Vector.getElem_ofFn, ← tickValues_get]

end

/-- Settles O12. -/
theorem tickRunsEachPipeline : Obligations.TickRunsEachPipeline := by
  intro s s0 o k c hstart hsettled
  have hown : s0.judged.own = s0.own := hsettled.judged_own
  have hchannels : s0.judged.channels = s0.channels := judged_channels s0
  have hsafe : s0.judged.safe = s0.safe := judged_safe s0
  have hheld : s0.judged.ingress.held = s0.ingress.held := judged_ingress_held s0
  have hflow := judged_flow o s0
  have henabled := judged_enabled s0
  have hpresented := tick_presented o s0
  have htransformed (v : Word) : s0.judged.transformed c v = transform s0.own[c].current s0.channels.last[c]
      ((tick o s0).track s0.own[c].current.fields.track).presented v := by
    unfold State.transformed
    rw [hown, hchannels, hpresented]
  have hlast := tick_last_get o s0 c
  have hclips := tick_clips c o hsettled
  have howned := hsettled.tick_own (o := o) (c := c)
  have hwords := words_get s0.judged c
  refine ⟨tick o s0, _, hstart.exec, tick_sending o s0, fun he ha v hv => ?_, fun he ha hsource hf hs => ?_, fun hoff => ?_,
    fun hq => ?_, ?_⟩
  · have hvalue : sourceValue? c s0.judged = some v := by
      rw [← hchannels, ← hheld, ← hflow] at hv
      rcases hv with ⟨h, hv⟩ | ⟨h, hf, hv⟩ | ⟨h, -, hs, hv⟩ | ⟨h, hf, hs, hv⟩ | ⟨u, h, hv⟩
      · rw [hv]
        exact sourceValue?_code h
      · rw [hv]
        exact sourceValue?_live h hf
      · rw [hv]
        exact sourceValue?_hold h hs
      · rw [hv]
        exact sourceValue?_insert h hf hs
      · rw [hv, hpresented]
        exact sourceValue?_track h
    have hruns := channelTick_runs ((henabled c).trans he) hvalue (by rw [hsafe]; exact ha)
    rw [hruns] at hlast hclips howned hwords
    rw [pipeline_y, htransformed] at hlast
    rw [pipeline_clip, htransformed, hchannels] at hclips
    refine ⟨hlast, ?_, hclips, ?_, fun hq => ?_⟩
    · rw [hwords, pipeline_value, htransformed, hchannels]
      rfl
    · rw [hwords, pipeline_cond, hown, henabled]
    · rw [howned hq, pipeline_context, hown]
      exact (setCurrent_stands _ _).2.2.2
  · rw [hwords, channelTick_bypassed ((henabled c).trans he) ?_, heldTick_out, hchannels]
    rw [← hchannels] at hsource hs
    exact sourceValue?_bypassed hsource (fun h => hf (hflow.symm.trans h)) hs
  · have hheldTick := channelTick_held (s := s0.judged) (c := c) (by
      rw [henabled, hsafe]
      refine hoff.imp id (Or.imp id fun ⟨hsource, hf, hs⟩ => ?_)
      rw [← hchannels] at hsource hs
      exact sourceValue?_bypassed hsource (fun h => hf (hflow.symm.trans h)) hs)
    obtain ⟨hy, hcontext, hclip⟩ := hheldTick
    rw [hy] at hlast
    rw [hclip] at hclips
    rw [hcontext] at howned
    exact ⟨hlast, hclips.trans (BitVec.add_zero _), fun hq => (howned hq).trans (setCurrent_current _)⟩
  · rw [howned hq]
    obtain ⟨hstack, hwaiting, hbase, -⟩ := setCurrent_stands s0.own[c] ((channelTick s0.judged c).context.getD s0.own[c].current)
    refine ⟨hstack, hwaiting, fun ha => ?_, setCurrent_active _ _⟩
    obtain ⟨x, hx⟩ := Option.isSome_iff_exists.1 ha
    exact hbase x hx
  · rw [tick_strobes, hown]
    refine congrArg (List.finRange 32).flatMap (funext fun i => ?_)
    rw [words_get, wordStrobe_eq]
    generalize (channelTick s0.judged i).out = w
    rfl

end Sys2Proof.Machine
end

section
/-! Fetches, releases and withdrawals as equations (5.2 to 5.4, 6.4). -/

namespace Sys2Proof.Machine

/-! ### Slots and channels written twice, in either order -/

section
variable (s : State)

theorem State.setSlot_setSlot (n : SlotNo) (x y : Slot) : (s.setSlot n x).setSlot n y = s.setSlot n y := by
  simp [State.setSlot]

theorem State.setSlot_comm {m n : SlotNo} (h : m ≠ n) (x y : Slot) : (s.setSlot m x).setSlot n y = (s.setSlot n y).setSlot m x := by
  unfold State.setSlot
  simp only [Vector.set_comm _ _ fun hv => h (Fin.ext hv)]

theorem State.setOwn_self (c : Chan) : s.setOwn c s.own[c] = s := by
  unfold State.setOwn
  rw [Fin.getElem_fin, Vector.set_getElem_self]

theorem State.setSlot_setOwn (c : Chan) (o : Ownership) (n : SlotNo) (x : Slot) :
    (s.setOwn c o).setSlot n x = (s.setSlot n x).setOwn c o := rfl

theorem raise_setOwn (e : Event) (c : Chan) (o : Ownership) : (raise e s).setOwn c o = raise e (s.setOwn c o) := rfl

theorem raise_setSlot (e : Event) (n : SlotNo) (x : Slot) : (raise e s).setSlot n x = raise e (s.setSlot n x) := rfl

end

/-! ### The two ends of a fetch (R97, R102) -/

/-- A slot that runs the entry `e`. -/
def Slot.runs (x : Slot) (e : Entry) : Slot :=
  { x with state := .running, ticksLeft := e.duration, endWatch := e.endWatch, counts := false }

/-- A slot whose fetch of the entry it stands at has failed with `code`. -/
def Slot.fails (x : Slot) (code : FaultCode) : Slot :=
  { x with state := .faulted, ticksLeft := 0, fault := code, entryAtFault := some x.entryIndex, endWatch := none, counts := false }

/-- A slot whose context has been pushed or has resumed. -/
def Slot.moved (x : Slot) (st : SlotState) : Slot := { x with state := st, counts := false }

/-- Why an entry that fails the fetch check fails it. -/
def Entry.failure (e : Entry) : FaultCode := if e.duration = 0 then .zeroDuration else .badPartner

/-- The fresh context of slot n, first active on a channel whose last transform value is `L` (R51, R53). -/
def freshContext (n : SlotNo) (L : Int) (r : OverlayRecord) (priority : Nat) : Context :=
  { fields := r, owner := some n, priority := priority, drift := 0, gapPhase := 0, gapHeld := some L, patternIndex := 0,
    freeze := some L }

/-- The base context as it becomes active on a channel whose last transform value is `L` (R53). -/
theorem activateBase_eq (c : Chan) (s : State) : activateBase c s = s.setOwn c { s.own[c] with
    base := { s.own[c].base with
      freeze := some (s.own[c].base.freeze.getD s.channels.last[c])
      gapHeld := some (s.own[c].base.gapHeld.getD s.channels.last[c]) }
    active := none } := rfl

section
variable {n : SlotNo} {s : State} {x : Slot} {e : Entry} {r : OverlayRecord} {c : Chan}

theorem fetchFault?_passes (he : e.duration ≠ 0) (hr : ¬ (r.pin = .toPartner ∧ r.partner = c)) : fetchFault? c e r = none := by
  unfold fetchFault?
  rw [if_neg he, if_neg hr]

theorem fetchFault?_fails (h : e.duration = 0 ∨ (r.pin = .toPartner ∧ r.partner = c)) : fetchFault? c e r = some e.failure := by
  unfold fetchFault? Entry.failure
  by_cases he : e.duration = 0
  · rw [if_pos he, if_pos he]
  · rw [if_neg he, if_neg he, if_pos (h.resolve_left he)]

theorem installEntry_run (hx : s.slot n = x) (hc : x.latch.target = c) : installEntry n e r s
    = (s.setOwn c { s.own[c] with active := some (freshContext n s.channels.last[c] r x.latch.priority) }).setSlot n (x.runs e) := by
  subst hx hc
  rfl

/-- A fetch that passes its check installs the entry and cues its track. -/
theorem fetch_passes (hx : s.slot n = x) (he : s.entry x.entryIndex = e) (hr : s.bank[e.overlay] = r) (hc : x.latch.target = c)
    (hd : e.duration ≠ 0) (hp : ¬ (r.pin = .toPartner ∧ r.partner = c)) : fetch n s = (cueOf r
      ((s.setOwn c { s.own[c] with active := some (freshContext n s.channels.last[c] r x.latch.priority) }).setSlot n (x.runs e)),
      true) := by
  subst he hr
  rw [fetch_of_ok hx (by rw [hc]; exact fetchFault?_passes hd hp), installEntry_run hx hc]

theorem faultFetch_eq (hx : s.slot n = x) (code : FaultCode) : faultFetch n code s = raise (.slotFault n) (s.setSlot n (x.fails code)) := by
  subst hx
  rfl

/-- A fetch that fails its check faults the slot. -/
theorem fetch_fails (hx : s.slot n = x) (he : s.entry x.entryIndex = e) (hr : s.bank[e.overlay] = r) (hc : x.latch.target = c)
    (h : e.duration = 0 ∨ (r.pin = .toPartner ∧ r.partner = c)) :
    fetch n s = (raise (.slotFault n) (s.setSlot n (x.fails e.failure)), false) := by
  subst he hr
  rw [fetch_of_fault hx (by rw [hc]; exact fetchFault?_fails h), faultFetch_eq hx]

theorem cueOf_replay (r : OverlayRecord) {t : State} (h : t.replay = s.replay) : (cueOf r t).replay
    = (if r.kind = .track ∧ r.cue = true then s.setTrack r.track (playTrack (s.track r.track)) else s).replay := by
  unfold cueOf
  split_ifs
  · unfold cueTrack State.setTrack State.track
    rw [h]
  · exact h

/-! ### Slots that take a tick's event (R99) -/

theorem entryRunsOut_running (h : (s.slot n).state = .running) : entryRunsOut n s = endEntry n s := by
  unfold entryRunsOut
  simp only [h]

theorem entryRunsOut_suspended (h : (s.slot n).state = .suspended) : entryRunsOut n s = endSaved n s := by
  unfold entryRunsOut
  simp only [h]

/-- The slot goes on to the entry that follows. -/
theorem Slot.afterEntry?_next (h : 1 < x.entriesLeft) :
    x.afterEntry? = some { x with entriesLeft := x.entriesLeft - 1, entryIndex := x.entryIndex + 1 } := if_pos h

/-- The slot goes on to its next pass, of endlessly many. -/
theorem Slot.afterEntry?_endless (h : x.entriesLeft ≤ 1) (hp : x.latch.passes = 0) :
    x.afterEntry? = some { x with entriesLeft := x.latch.listCount, entryIndex := x.latch.listStart } := by
  unfold Slot.afterEntry?
  rw [if_neg (Nat.not_lt.2 h), if_pos hp]

theorem Slot.afterEntry?_pass (h : x.entriesLeft ≤ 1) (hp : x.latch.passes ≠ 0) (hl : 1 < x.passesLeft) :
    x.afterEntry? = some { x with
      entriesLeft := x.latch.listCount, entryIndex := x.latch.listStart, passesLeft := x.passesLeft - 1 } := by
  unfold Slot.afterEntry?
  rw [if_neg (Nat.not_lt.2 h), if_neg hp, if_pos hl]

/-- The last entry of the last pass has ended. -/
theorem Slot.afterEntry?_done (h : x.entriesLeft ≤ 1) (hp : x.latch.passes ≠ 0) (hl : x.passesLeft ≤ 1) : x.afterEntry? = none := by
  unfold Slot.afterEntry?
  rw [if_neg (Nat.not_lt.2 h), if_neg hp, if_neg (Nat.not_lt.2 hl)]

theorem endEntry_goes_on (h : (s.slot n).afterEntry? = some x) : endEntry n s = fetchInPlace n (s.setSlot n x) := by
  unfold endEntry
  rw [h]

theorem endEntry_done (h : (s.slot n).afterEntry? = none) : endEntry n s = blockEnd n s := by
  unfold endEntry
  rw [h]

theorem endSaved_goes_on (h : (s.slot n).afterEntry? = some x) : endSaved n s = fetchSaved n (s.setSlot n x) := by
  unfold endSaved
  rw [h]

theorem endSaved_done (h : (s.slot n).afterEntry? = none) :
    endSaved n s = finishBlock n (s.slot n).latch.next (leaveSaved n s) := by
  unfold endSaved
  rw [h]

theorem fetchSaved_passes (hx : s.slot n = x) (he : s.entry x.entryIndex = e) (hr : s.bank[e.overlay] = r) (hc : x.latch.target = c)
    (hd : e.duration ≠ 0) (hp : ¬ (r.pin = .toPartner ∧ r.partner = c)) : fetchSaved n s = cueOf r
      ((mapSaved n c (fun _ => freshContext n s.channels.last[c] r x.latch.priority) s).setSlot n
        { x with ticksLeft := e.duration, endWatch := e.endWatch, counts := false }) := by
  subst hx he hr hc
  unfold fetchSaved
  simp only [fetchFault?_passes hd hp]
  rfl

theorem fetchSaved_setSlot (he : s.entry x.entryIndex = e) (hr : s.bank[e.overlay] = r) (hc : x.latch.target = c)
    (hd : e.duration ≠ 0) (hp : ¬ (r.pin = .toPartner ∧ r.partner = c)) :
    (fetchSaved n (s.setSlot n x)).own[c] = { s.own[c] with
        stack := s.own[c].stack.map fun y => if y.owner = some n then freshContext n s.channels.last[c] r x.latch.priority else y }
      ∧ (fetchSaved n (s.setSlot n x)).slot n = { x with ticksLeft := e.duration, endWatch := e.endWatch, counts := false } := by
  rw [fetchSaved_passes (s := s.setSlot n x) (s.slot_setSlot_self n x) he hr hc hd hp, cueOf_own, cueOf_slot,
    State.setSlot_own, mapSaved, State.slot_setSlot_self]
  exact ⟨State.own_setOwn_same _ _ _, rfl⟩

/-- The next entry of a SUSPENDED slot takes effect in its saved context (log 5). -/
theorem endSaved_next (hleft : 1 < (s.slot n).entriesLeft) (he : s.entry ((s.slot n).entryIndex + 1) = e)
    (hr : s.bank[e.overlay] = r) (hd : e.duration ≠ 0)
    (hp : ¬ (r.pin = .toPartner ∧ r.partner = (s.slot n).latch.target)) :
    (endSaved n s).own[(s.slot n).latch.target] = { s.own[(s.slot n).latch.target] with
        stack := s.own[(s.slot n).latch.target].stack.map fun y => if y.owner = some n
          then freshContext n s.channels.last[(s.slot n).latch.target] r (s.slot n).latch.priority else y }
      ∧ (endSaved n s).slot n = { s.slot n with
          entriesLeft := (s.slot n).entriesLeft - 1, entryIndex := (s.slot n).entryIndex + 1, ticksLeft := e.duration,
          endWatch := e.endWatch, counts := false } := by
  rw [endSaved_goes_on (Slot.afterEntry?_next hleft)]
  exact fetchSaved_setSlot he hr rfl hd hp

end

/-! ### The slots at a tick (R99) -/

theorem Slot.counted_running {x : Slot} (hc : x.counts = true) (h : x.state = .running) :
    x.counted = { x with counts := false, ticksLeft := x.ticksLeft - 1 } := by
  unfold Slot.counted
  rw [if_pos (by simp [hc, h])]

theorem Slot.counted_armed {x : Slot} (hc : x.counts = true) (h : x.state = .armed) :
    x.counted = { x with counts := false, delayLeft := x.delayLeft - 1 } := by
  unfold Slot.counted
  rw [if_neg (by simp [h]), if_pos (by simp [hc, h])]

theorem Slot.counted_still {x : Slot} (hc : x.counts = false) : x.counted = x := by
  cases x
  subst hc
  rfl

theorem Slot.meetsTick_iff {x : Slot} : x.meetsTick = true
    ↔ x.state = .running ∨ (x.state = .armed ∧ x.awaiting = false ∧ 0 < x.delayLeft) := by
  simp [Slot.meetsTick, and_assoc]

theorem countSlots_slot (s : State) (n : SlotNo) : (countSlots s).slot n = (s.slot n).counted := s.mapSlots_slot _ n

/-- A slot without a count that does not meet the tick stands. -/
theorem Slot.meets_still {x : Slot} (hc : x.counts = false) (h : ¬ x.meetsTick = true) : { x with counts := x.meetsTick } = x := by
  cases x
  subst hc
  rw [Bool.not_eq_true] at h
  rw [h]

/-- The slots after a settled tick counted them. -/
theorem State.Settled.countSlots_slot {s : State} (h : s.Settled) (n : SlotNo) : (countSlots (tickCore s)).slot n
    = Slot.counted { s.slot n with counts := (s.slot n).meetsTick } := by
  rw [Machine.countSlots_slot, h.tickCore_slot]

theorem Slot.uncount {x : Slot} (hc : x.counts = false) (k d : Nat) :
    { x with counts := false, ticksLeft := k, delayLeft := d } = { x with ticksLeft := k, delayLeft := d } := by
  cases x
  subst hc
  rfl

/-- Settles O60. -/
theorem tickCountsEverySlot : Obligations.TickCountsEverySlot := by
  refine ⟨fun s s0 k hstart hs => ?_, fun s s0 k hstart hs => ?_, fun s n ends claims => ?_⟩
  · refine ⟨_, countSlots (tickCore s0), entriesDue (tickCore s0), delaysDue (tickCore s0), hstart.exec, rfl, hs.mem_entriesDue,
      hs.mem_delaysDue, fun hends hclaims => scenarioTick_of_none_due hends hclaims, fun n => ?_⟩
    have hcounts := hs.1 n
    rw [hs.countSlots_slot]
    generalize s0.slot n = x at hcounts ⊢
    refine ⟨fun h => ?_, fun h ha hd => ?_, fun h => ?_⟩
    · have hmet : ({ x with counts := x.meetsTick } : Slot).counts = true := Slot.meetsTick_iff.2 (.inl h)
      rw [Slot.counted_running hmet h]
      exact Slot.uncount hcounts (x.ticksLeft - 1) x.delayLeft
    · have hmet : ({ x with counts := x.meetsTick } : Slot).counts = true := Slot.meetsTick_iff.2 (.inr ⟨h, ha, hd⟩)
      rw [Slot.counted_armed hmet h]
      exact Slot.uncount hcounts x.ticksLeft (x.delayLeft - 1)
    · have hmeets : ¬ x.meetsTick = true := by
        rw [Slot.meetsTick_iff]
        rcases h with h | h | h | h | ⟨h, ha⟩ <;> simp [h]
        simp [ha]
      rw [Slot.meets_still hcounts hmeets, Slot.counted_still hcounts]
  · refine ⟨_, hstart.exec, fun n => ?_⟩
    have hcounts := hs.1 n
    rw [tick_eventsFirst, hs.tickCore_slot]
    generalize s0.slot n = x at hcounts ⊢
    refine ⟨fun h => ?_, fun h => ?_⟩
    · rw [Slot.meetsTick_iff.2 h]
    · exact Slot.meets_still hcounts fun hm => h (Slot.meetsTick_iff.1 hm)
  · refine ⟨rfl, rfl, entryRunsOut_running, fun hst hleft => ?_, fun hst hleft hp hpl hend hnext => ?_⟩
    · intro e r hd hr
      obtain ⟨hown, hslot⟩ := endSaved_next hleft rfl rfl hd hr
      rw [entryRunsOut_suspended hst, hown, hslot]
      exact ⟨rfl, rfl, rfl⟩
    · rw [entryRunsOut_suspended hst, endSaved_done (Slot.afterEntry?_done hleft hp hpl), leaveSaved_of_restore hend, hnext]
      rfl

end Sys2Proof.Machine
end

section
/-! Entry ends, block ends and the requests on slots (6.3 to 6.7). -/

namespace Sys2Proof.Machine

/-! ### Entry ends (R101, R102) -/

section
variable {n : SlotNo} {s : State} {x : Slot} {e : Entry} {r : OverlayRecord} {c : Chan}

theorem fetchInPlace_passes (hf : fetch n s = (t, true)) : fetchInPlace n s = t := by
  unfold fetchInPlace
  rw [hf]

theorem fetchInPlace_fails (hf : fetch n s = (t, false)) : fetchInPlace n s = release (s.slot n).latch.target t := by
  unfold fetchInPlace
  rw [hf]

/-- The entry at which slot n now stands takes effect. -/
theorem fetchInPlace_setSlot_passes (he : s.entry x.entryIndex = e) (hr : s.bank[e.overlay] = r) (hc : x.latch.target = c)
    (hd : e.duration ≠ 0) (hp : ¬ (r.pin = .toPartner ∧ r.partner = c)) : fetchInPlace n (s.setSlot n x) = cueOf r
      ((s.setOwn c { s.own[c] with active := some (freshContext n s.channels.last[c] r x.latch.priority) }).setSlot n (x.runs e)) := by
  refine (fetchInPlace_passes (fetch_passes (s := s.setSlot n x) (s.slot_setSlot_self n x) he hr hc hd hp)).trans ?_
  rw [← State.setSlot_setSlot (s.setOwn c _) n x (x.runs e)]
  rfl

/-- The entry at which slot n now stands fails its check. -/
theorem fetchInPlace_setSlot_fails (he : s.entry x.entryIndex = e) (hr : s.bank[e.overlay] = r) (hc : x.latch.target = c)
    (h : e.duration = 0 ∨ (r.pin = .toPartner ∧ r.partner = c)) :
    fetchInPlace n (s.setSlot n x) = release c (raise (.slotFault n) (s.setSlot n (x.fails e.failure))) := by
  rw [fetchInPlace_fails (fetch_fails (s := s.setSlot n x) (s.slot_setSlot_self n x) he hr hc h), s.slot_setSlot_self, hc,
    State.setSlot_setSlot]

/-- Where an entry end leads while entries or passes are left (R101). -/
theorem Slot.afterEntry?_left {i left passes : Nat}
    (h : (1 < x.entriesLeft ∧ i = x.entryIndex + 1 ∧ left = x.entriesLeft - 1 ∧ passes = x.passesLeft)
      ∨ (x.entriesLeft ≤ 1 ∧ x.latch.passes = 0 ∧ i = x.latch.listStart ∧ left = x.latch.listCount ∧ passes = x.passesLeft)
      ∨ (x.entriesLeft ≤ 1 ∧ x.latch.passes ≠ 0 ∧ 1 < x.passesLeft ∧ i = x.latch.listStart ∧ left = x.latch.listCount
          ∧ passes = x.passesLeft - 1)) :
    x.afterEntry? = some { x with entryIndex := i, entriesLeft := left, passesLeft := passes } := by
  rcases h with ⟨h, rfl, rfl, rfl⟩ | ⟨h, hp, rfl, rfl, rfl⟩ | ⟨h, hp, hl, rfl, rfl, rfl⟩
  · rw [Slot.afterEntry?_next h]
  · rw [Slot.afterEntry?_endless h hp]
  · rw [Slot.afterEntry?_pass h hp hl]

/-! ### Blocks read for arming (R94, R104) -/

section
variable {y : Block}

theorem blockFault?_empty (h : y.listCount = 0) : blockFault? y s = some .emptyList := if_pos h

theorem blockFault?_bounds (h : y.listCount ≠ 0) (hb : 1024 < y.listStart + y.listCount) : blockFault? y s = some .listBounds := by
  unfold blockFault?
  rw [if_neg h, if_pos hb]

theorem blockFault?_off (h : y.listCount ≠ 0) (hb : y.listStart + y.listCount ≤ 1024) (he : s.enabled y.target = false) :
    blockFault? y s = some .channelOff := by
  unfold blockFault?
  rw [if_neg h, if_neg (Nat.not_lt.2 hb), if_neg (by simp [he])]

theorem blockFault?_none (h : y.listCount ≠ 0) (hb : y.listStart + y.listCount ≤ 1024) (he : s.enabled y.target = true) :
    blockFault? y s = none := by
  unfold blockFault?
  rw [if_neg h, if_neg (Nat.not_lt.2 hb), if_pos he]

theorem blockFault?_of_bad (h : y.listCount = 0 ∨ 1024 < y.listStart + y.listCount ∨ s.enabled y.target = false) :
    blockFault? y s = some
      (if y.listCount = 0 then .emptyList else if 1024 < y.listStart + y.listCount then .listBounds else .channelOff) := by
  by_cases hz : y.listCount = 0
  · rw [if_pos hz, blockFault?_empty hz]
  · rw [if_neg hz]
    by_cases hb : 1024 < y.listStart + y.listCount
    · rw [if_pos hb, blockFault?_bounds hz hb]
    · rw [if_neg hb, blockFault?_off hz (Nat.not_lt.1 hb) ((h.resolve_left hz).resolve_left hb)]

/-! ### What the start field of a block does (R95, R96) -/

variable {b : Nat}

theorem armSlot_delay (h : y.start = .delay) (hd : y.delay ≠ 0) :
    armSlot n b y s = s.setSlot n { Slot.latched b y with delayLeft := y.delay } := by
  have hslot : (s.setSlot n (Slot.latched b y)).slot n = Slot.latched b y := s.slot_setSlot_self n _
  unfold armSlot
  rw [startSlot_of_delay (by rw [hslot]; exact h), hslot, if_neg (show ¬ (Slot.latched b y).latch.delay = 0 from hd),
    State.setSlot_setSlot]
  rfl

theorem armSlot_onFire (h : y.start = .onFire) : armSlot n b y s = s.setSlot n { Slot.latched b y with awaiting := true } := by
  have hslot : (s.setSlot n (Slot.latched b y)).slot n = Slot.latched b y := s.slot_setSlot_self n _
  unfold armSlot
  rw [startSlot_of_onFire (by rw [hslot]; exact h), hslot, State.setSlot_setSlot]

theorem armSlot_now (h : y.start = .now ∨ (y.start = .delay ∧ y.delay = 0)) :
    armSlot n b y s = claim n (s.setSlot n (Slot.latched b y)) := by
  have hslot : (s.setSlot n (Slot.latched b y)).slot n = Slot.latched b y := s.slot_setSlot_self n _
  unfold armSlot
  rcases h with h | ⟨h, hd⟩
  · exact startSlot_of_now (by rw [hslot]; exact h)
  · rw [startSlot_of_delay (by rw [hslot]; exact h), hslot]
    exact if_pos hd

/-! ### Block ends (R103, R104) -/

theorem followOn_of_fault {code : FaultCode} (h : blockFault? (s.block b) s = some code) :
    followOn n b s = raise (.slotFault n) (s.setSlot n (Slot.followFault code b (s.block b) (s.slot n))) := by
  unfold followOn
  rw [h]

theorem followOn_of_none (h : blockFault? (s.block b) s = none) : followOn n b s = armSlot n b (s.block b) s := by
  unfold followOn
  rw [h]

end

end

end Sys2Proof.Machine
end

section
/-! What resolving a channel leaves alone (5.3, 5.4). -/

namespace Sys2Proof.Machine

/-- What resolving channel c leaves: every slot's block and entry index, those that do not wait for it, and, where the waiting
slots have it as their target, the other channels. -/
structure Resolves (c : Chan) (s t : State) : Prop where
  slots : ∀ m, (t.slot m).latch = (s.slot m).latch ∧ (t.slot m).entryIndex = (s.slot m).entryIndex
  waiting : ∀ w ∈ t.own[c].waiting, w ∈ s.own[c].waiting
  others : (∀ w ∈ s.own[c].waiting, (s.slot w.slot).latch.target = c) → ∀ d, d ≠ c → t.own[d] = s.own[d]

/-- The slot has its block and its entry index still. -/
theorem slots_of_setSlot {s : State} {n : SlotNo} {x : Slot} (hl : x.latch = (s.slot n).latch)
    (hi : x.entryIndex = (s.slot n).entryIndex) (m : SlotNo) :
    ((s.setSlot n x).slot m).latch = (s.slot m).latch ∧ ((s.setSlot n x).slot m).entryIndex = (s.slot m).entryIndex := by
  rw [State.slot_setSlot]
  split_ifs with h
  · subst h
    exact ⟨hl, hi⟩
  · exact ⟨rfl, rfl⟩

section
variable {c : Chan} {s t u : State}

theorem Resolves.refl (s : State) : Resolves c s s := ⟨fun _ => ⟨rfl, rfl⟩, fun _ => id, fun _ _ _ => rfl⟩

theorem Resolves.trans (h : Resolves c s t) (k : Resolves c t u) : Resolves c s u where
  slots m := ⟨(k.slots m).1.trans (h.slots m).1, (k.slots m).2.trans (h.slots m).2⟩
  waiting w hw := h.waiting w (k.waiting w hw)
  others ht d hd := (k.others (fun w hw => by rw [(h.slots w.slot).1]; exact ht w (h.waiting w hw)) d hd).trans (h.others ht d hd)

theorem Resolves.setSlot {n : SlotNo} {x : Slot} (hl : x.latch = (s.slot n).latch) (hi : x.entryIndex = (s.slot n).entryIndex) :
    Resolves c s (s.setSlot n x) := ⟨slots_of_setSlot hl hi, fun _ => id, fun _ _ _ => rfl⟩

theorem Resolves.setOwn {o : Ownership} (h : ∀ w ∈ o.waiting, w ∈ s.own[c].waiting) : Resolves c s (s.setOwn c o) where
  slots _ := ⟨rfl, rfl⟩
  waiting w hw := h w (by rwa [State.own_setOwn_same] at hw)
  others _ d hd := by rw [State.own_setOwn_fin, if_neg (Ne.symm hd)]

theorem setOwnerState_resolves (x : Context) (st : SlotState) (s : State) : Resolves c s (setOwnerState x st s) := by
  unfold setOwnerState
  split
  · exact .setSlot rfl rfl
  · exact .refl s

theorem pushActive_resolves (c : Chan) (s : State) : Resolves c s (pushActive c s) := by
  unfold pushActive
  split
  · refine Resolves.trans ?_ (setOwnerState_resolves _ _ _)
    exact .setOwn fun _ => id
  · exact .refl s

theorem popOrBase_resolves (c : Chan) (s : State) : Resolves c s (popOrBase c s) := by
  unfold popOrBase
  split
  · refine Resolves.trans ?_ (setOwnerState_resolves _ _ _)
    exact .setOwn fun _ => id
  · exact .setOwn fun _ => id

theorem removeWaiter_resolves (n : SlotNo) (c : Chan) (s : State) : Resolves c s (removeWaiter n c s) :=
  .setOwn fun _ hw => (mem_leaveWaiting.1 hw).1

theorem dropActive_resolves (c : Chan) (s : State) : Resolves c s (dropActive c s) := .setOwn fun _ => id

theorem fetch_slots (n m : SlotNo) (s : State) :
    ((fetch n s).1.slot m).latch = (s.slot m).latch ∧ ((fetch n s).1.slot m).entryIndex = (s.slot m).entryIndex := by
  rcases fetch_cases n s with ⟨f, hf⟩ | ⟨e, r, hf⟩ <;> rw [hf]
  · exact slots_of_setSlot (x := (s.slot n).fails f) rfl rfl m
  · rw [cueOf_slot, installEntry_run rfl rfl, State.setSlot_setOwn, State.slot_setOwn]
    exact slots_of_setSlot (x := (s.slot n).runs e) rfl rfl m

/-- A fetch changes the context of its channel and nothing else of the channels. -/
theorem fetch_owns (n : SlotNo) (d : Chan) (s : State) : (fetch n s).1.own[d].waiting = s.own[d].waiting
    ∧ ((s.slot n).latch.target ≠ d → (fetch n s).1.own[d] = s.own[d]) := by
  rcases fetch_cases n s with ⟨f, hf⟩ | ⟨e, r, hf⟩ <;> rw [hf]
  · exact ⟨rfl, fun _ => rfl⟩
  · rw [cueOf_own, installEntry_run rfl rfl, State.setSlot_own, State.own_setOwn_fin]
    split_ifs with h
    · exact ⟨by rw [h], fun hd => absurd h hd⟩
    · exact ⟨rfl, fun _ => rfl⟩

/-- A slot that waited for the channel fetches its entry. -/
theorem Resolves.fetch (h : Resolves c s t) {w : Waiter} (hw : w ∈ s.own[c].waiting) : Resolves c s (fetch w.slot t).1 where
  slots m := ⟨(fetch_slots w.slot m t).1.trans (h.slots m).1, (fetch_slots w.slot m t).2.trans (h.slots m).2⟩
  waiting v hv := h.waiting v (by rwa [(fetch_owns w.slot c t).1] at hv)
  others ht d hd := ((fetch_owns w.slot d t).2 (by rw [(h.slots w.slot).1, ht w hw]; exact Ne.symm hd)).trans (h.others ht d hd)

theorem Resolves.fetched (h : Resolves c s t) {w : Waiter} (hw : w ∈ s.own[c].waiting) {u : State} {b : Bool}
    (hf : Machine.fetch w.slot t = (u, b)) : Resolves c s u := by
  have hfetch := h.fetch hw
  rwa [hf] at hfetch

theorem resolve_resolves (fuel : Nat) (c : Chan) : ∀ s : State, Resolves c s (resolve fuel c s) := by
  induction fuel with
  | zero => exact fun s => popOrBase_resolves c s
  | succ fuel ih =>
    intro s
    unfold resolve
    split
    · rename_i w hb
      have hleft := removeWaiter_resolves w.slot c s
      split_ifs
      · split
        · exact hleft.fetched (bestWaiter?_mem hb) ‹_›
        · exact (hleft.fetched (bestWaiter?_mem hb) ‹_›).trans (ih _)
      · exact popOrBase_resolves c s
    · exact popOrBase_resolves c s

theorem resolveAll_resolves (c : Chan) (s : State) : Resolves c s (resolveAll c s) := resolve_resolves _ c s

theorem reexamine_resolves (fuel : Nat) (c : Chan) : ∀ s : State, Resolves c s (reexamine fuel c s) := by
  induction fuel with
  | zero => exact Resolves.refl
  | succ fuel ih =>
    intro s
    unfold reexamine
    split
    · rename_i w hb
      have hleft := (pushActive_resolves c s).trans (removeWaiter_resolves w.slot c _)
      split_ifs
      · split
        · exact (hleft.fetched (bestWaiter?_mem hb) ‹_›).trans (ih _)
        · exact ((hleft.fetched (bestWaiter?_mem hb) ‹_›).trans (resolveAll_resolves c _)).trans (ih _)
      · exact .refl s
    · exact .refl s

theorem vacate_resolves (c : Chan) (s : State) : Resolves c s (vacate c s) :=
  (resolveAll_resolves c s).trans (reexamine_resolves _ c _)

theorem release_resolves (c : Chan) (s : State) : Resolves c s (release c s) :=
  (dropActive_resolves c s).trans (vacate_resolves c _)

end

end Sys2Proof.Machine
end

section
/-! Channels without waiting slots, and the ends of blocks (5.3, 6.5). -/

namespace Sys2Proof.Machine

/-! ### Channels without waiting slots (R79) -/

section
variable {c : Chan} {s : State}

theorem reexamineAll_of_no_waiting (h : s.own[c].waiting = []) : reexamineAll c s = s := by
  unfold reexamineAll
  rw [h]
  rfl

theorem vacate_of_no_waiting (h : s.own[c].waiting = []) : vacate c s = popOrBase c s := by
  have hresolve : resolveAll c s = popOrBase c s := by
    unfold resolveAll
    rw [h]
    exact resolve_of_none (by rw [h]; rfl)
  have hwaiting : (popOrBase c s).own[c].waiting = [] :=
    List.eq_nil_iff_forall_not_mem.2 fun w hw => by
      have hmem := (popOrBase_resolves c s).waiting w hw
      rw [h] at hmem
      exact List.not_mem_nil hmem
  rw [vacate, hresolve, reexamineAll_of_no_waiting hwaiting]

theorem dropActive_own : (dropActive c s).own[c] = { s.own[c] with active := none } := State.own_setOwn_same _ _ _

/-- Without waiting slots the stack top resumes as it was saved (R79, R80). -/
theorem release_resumes {x : Context} {xs : List Context} {m : SlotNo} (hw : s.own[c].waiting = []) (hs : s.own[c].stack = x :: xs)
    (hx : x.owner = some m) : release c s
      = (s.setOwn c { s.own[c] with active := some x, stack := xs }).setSlot m ((s.slot m).moved .running) := by
  have hown := dropActive_own (c := c) (s := s)
  rw [release, vacate_of_no_waiting (by rw [hown]; exact hw), popOrBase_of_stack (by rw [hown]; exact hs) hx, hown]
  unfold dropActive
  rw [State.setOwn_setOwn]
  rfl

/-- Without waiting slots and with an empty stack the base context becomes active (R79). -/
theorem release_to_base (hw : s.own[c].waiting = []) (hs : s.own[c].stack = []) : release c s
    = s.setOwn c
        { base := { s.own[c].base with
            freeze := some (s.own[c].base.freeze.getD s.channels.last[c])
            gapHeld := some (s.own[c].base.gapHeld.getD s.channels.last[c]) }
          active := none, stack := [], waiting := [] } := by
  have hown := dropActive_own (c := c) (s := s)
  rw [release, vacate_of_no_waiting (by rw [hown]; exact hw), popOrBase_of_empty (by rw [hown]; exact hs), activateBase_eq, hown]
  unfold dropActive
  rw [State.setOwn_setOwn]
  refine congrArg (fun o => s.setOwn c o) ?_
  have hlast (o : Ownership) : (s.setOwn c o).channels.last = s.channels.last := rfl
  rw [hlast]
  generalize s.own[c] = o at hs hw ⊢
  cases o
  subst hs hw
  rfl

end

/-! ### The end of a block (R103, R104) -/

section
variable {n : SlotNo} {s : State}

/-- The end of a slot's block as its channel sees it. -/
theorem leaveBlock_eq : leaveBlock n s = release (s.slot n).latch.target
    (if (s.slot n).latch.endAction = .adopt then
      s.setOwn (s.slot n).latch.target { s.own[(s.slot n).latch.target] with
        base := { s.own[(s.slot n).latch.target].current with owner := none, priority := -1 } }
    else s) := by
  cases hend : (s.slot n).latch.endAction with
  | adopt => rw [leaveBlock_of_adopt hend, if_pos rfl]; rfl
  | restore => rw [leaveBlock_of_restore hend, if_neg (by decide)]

/-- A release reads the blocks and the channels it finds, and leaves the slots' entry indices. -/
theorem release_reads (c : Chan) {t : State} (ht : t.scenario = s.scenario) (hc : t.channels = s.channels) :
    (∀ b, (release c t).block b = s.block b) ∧ (∀ d, (release c t).enabled d = s.enabled d)
      ∧ ((release c t).slot n).entryIndex = (s.slot n).entryIndex := by
  have hmoved := release_scenario c t
  refine ⟨fun b => ?_, fun d => ?_, ?_⟩
  · unfold State.block
    rw [hmoved.scenario_blocks, ht]
  · unfold State.enabled
    rw [hmoved.channels, hc]
  · rw [((release_resolves c t).slots n).2]
    unfold State.slot
    rw [ht]

theorem leaveBlock_reads (n : SlotNo) (s : State) : (∀ b, (leaveBlock n s).block b = s.block b)
    ∧ (∀ c, (leaveBlock n s).enabled c = s.enabled c) ∧ ((leaveBlock n s).slot n).entryIndex = (s.slot n).entryIndex := by
  rw [leaveBlock_eq]
  refine release_reads _ ?_ ?_
  · split_ifs
    · exact State.setOwn_scenario s _ _
    · rfl
  · split_ifs
    · exact State.setOwn_channels s _ _
    · rfl

theorem blockFault?_congr {t : State} (h : ∀ c, t.enabled c = s.enabled c) (y : Block) : blockFault? y t = blockFault? y s := by
  unfold blockFault?
  rw [h]

theorem blockEnd_done (h : (s.slot n).latch.next = none) :
    blockEnd n s = raise (.slotDone n) ((leaveBlock n s).setSlot n Slot.idle) := by
  unfold blockEnd
  rw [h]
  rfl

theorem blockEnd_follows {b : Nat} (h : (s.slot n).latch.next = some b) : blockEnd n s = followOn n b (leaveBlock n s) := by
  unfold blockEnd
  rw [h]
  rfl

/-- A follow-on block that fails its checks faults the slot. -/
theorem blockEnd_fault {b : Nat} {code : FaultCode} (h : (s.slot n).latch.next = some b)
    (hf : blockFault? (s.block b) s = some code) : blockEnd n s = raise (.slotFault n)
      ((leaveBlock n s).setSlot n (Slot.followFault code b (s.block b) (s.slot n))) := by
  obtain ⟨hblock, henabled, hindex⟩ := leaveBlock_reads n s
  rw [blockEnd_follows h, followOn_of_fault (by rw [hblock, blockFault?_congr henabled]; exact hf), hblock]
  unfold Slot.followFault
  rw [hindex]

theorem blockEnd_arms {b : Nat} (h : (s.slot n).latch.next = some b) (hf : blockFault? (s.block b) s = none) :
    blockEnd n s = armSlot n b (s.block b) (leaveBlock n s) := by
  obtain ⟨hblock, henabled, -⟩ := leaveBlock_reads n s
  rw [blockEnd_follows h, followOn_of_none (by rw [hblock, blockFault?_congr henabled]; exact hf), hblock]

end

/-- Settles O25. -/
theorem entryEndFetchesOrEndsTheBlock : Obligations.EntryEndFetchesOrEndsTheBlock := by
  refine ⟨?_, ?_, ?_⟩
  · intro s n i left passes x c h e r cued
    have hgoes := endEntry_goes_on (n := n) (s := s) (Slot.afterEntry?_left h)
    refine ⟨fun hd hr => ?_, fun hbad => ?_⟩
    · exact hgoes.trans (fetchInPlace_setSlot_passes (c := c) rfl rfl rfl hd hr)
    · exact hgoes.trans (fetchInPlace_setSlot_fails (c := c) rfl rfl rfl hbad)
  · intro s n x c hleft hp hpl left
    have hdone := endEntry_done (n := n) (s := s) (Slot.afterEntry?_done hleft hp hpl)
    have hleave : leaveBlock n s = left := leaveBlock_eq
    rw [hdone, ← hleave]
    refine ⟨blockEnd_done, fun b hb => ⟨fun hbad => ?_, fun hz hb' he => ⟨fun hst hd => ?_, fun hst => ?_, fun hst => ?_⟩⟩⟩
    · exact blockEnd_fault hb (blockFault?_of_bad hbad)
    · exact (blockEnd_arms hb (blockFault?_none hz hb' he)).trans (armSlot_delay hst hd)
    · exact (blockEnd_arms hb (blockFault?_none hz hb' he)).trans (armSlot_onFire hst)
    · exact (blockEnd_arms hb (blockFault?_none hz hb' he)).trans (armSlot_now hst)
  · intro s n a x c hleft hp hpl hnext ha hs hw base
    rw [endEntry_done (Slot.afterEntry?_done hleft hp hpl), blockEnd_done hnext]
    refine congrArg (fun t : State => raise (.slotDone n) (t.setSlot n Slot.idle)) ?_
    have hcurrent : s.own[c].current = a := by
      unfold Ownership.current
      rw [ha]
      rfl
    cases hend : x.latch.endAction with
    | adopt =>
      have hbase : base = { a with owner := none, priority := -1 } := if_pos hend
      have hown := State.own_setOwn_same s c { s.own[c] with base := { a with owner := none, priority := -1 } }
      rw [leaveBlock_eq, if_pos hend, hcurrent, release_to_base (by rw [hown]; exact hw) (by rw [hown]; exact hs), hown,
        State.setOwn_setOwn, hbase]
      rfl
    | restore =>
      have hbase : base = s.own[c].base := if_neg (by rw [hend]; decide)
      rw [leaveBlock_of_restore hend, release_to_base hw hs, hbase]

end Sys2Proof.Machine
end

section
/-! Claims (5.2). -/

namespace Sys2Proof.Machine

section
variable {n : SlotNo} {s : State} {c : Chan}

/-! ### Which way a claim goes (R76) -/

theorem claim_free (hc : (s.slot n).latch.target = c) (ha : s.own[c].active = none) : claim n s = takeOver n s := by
  subst hc
  unfold claim
  simp only [ha]

theorem claim_pushes {a : Context} (hc : (s.slot n).latch.target = c) (ha : s.own[c].active = some a)
    (hp : a.priority < ((s.slot n).latch.priority : Int)) (hroom : s.own[c].stack.length < 4) :
    claim n s = takeOver n (pushActive c s) := by
  subst hc
  unfold claim
  simp only [ha]
  exact if_pos ⟨hp, hroom⟩

theorem claim_waits {a : Context} (hc : (s.slot n).latch.target = c) (ha : s.own[c].active = some a)
    (h : ((s.slot n).latch.priority : Int) ≤ a.priority ∨ 4 ≤ s.own[c].stack.length) : claim n s = waitFor n s := by
  subst hc
  unfold claim
  simp only [ha]
  refine if_neg fun ⟨hp, hroom⟩ => ?_
  have hroom' : s.own[(s.slot n).latch.target].stack.length < 4 := hroom
  omega

/-! ### Joining the waiting set (R76) -/

theorem joinWaiting_self (w : Waiter) (ws : List Waiter) : w ∈ joinWaiting w ws := by
  induction ws with
  | nil => exact List.mem_singleton_self w
  | cons v vs ih =>
    unfold joinWaiting
    split_ifs
    · exact List.mem_cons_self
    · exact List.mem_cons_self
    · exact List.mem_cons_of_mem v ih

theorem joinWaiting_keeps {w v : Waiter} {ws : List Waiter} (hv : v ∈ ws) (hne : v.slot ≠ w.slot) : v ∈ joinWaiting w ws := by
  induction ws with
  | nil => exact absurd hv List.not_mem_nil
  | cons u us ih =>
    unfold joinWaiting
    split_ifs with hlt heq
    · exact List.mem_cons_of_mem w hv
    · rcases List.mem_cons.1 hv with rfl | hv
      · exact absurd heq.symm hne
      · exact List.mem_cons_of_mem w hv
    · rcases List.mem_cons.1 hv with rfl | hv
      · exact List.mem_cons_self
      · exact List.mem_cons_of_mem u (ih hv)

theorem joinWaiting_from {w v : Waiter} {ws : List Waiter} (hv : v ∈ joinWaiting w ws) : v = w ∨ v ∈ ws := by
  induction ws with
  | nil => exact .inl (List.mem_singleton.1 hv)
  | cons u us ih =>
    unfold joinWaiting at hv
    split_ifs at hv
    · exact List.mem_cons.1 hv
    · exact (List.mem_cons.1 hv).imp_right (List.mem_cons_of_mem u)
    · rcases List.mem_cons.1 hv with rfl | hv
      · exact .inr List.mem_cons_self
      · exact (ih hv).imp_right (List.mem_cons_of_mem u)

theorem waitFor_eq {x : Slot} (hx : s.slot n = x) (hc : x.latch.target = c) : waitFor n s
    = (s.setOwn c { s.own[c] with waiting := joinWaiting { slot := n, priority := x.latch.priority } s.own[c].waiting }).setSlot n
        { x with state := .waiting } := by
  subst hx hc
  rfl

/-! ### Take-overs (R77, R81) -/

/-- The base context of a channel with nothing saved and none waiting becomes active. -/
theorem activateBase_empty (hs : s.own[c].stack = []) (hw : s.own[c].waiting = []) : activateBase c s
    = s.setOwn c
        { base := { s.own[c].base with
            freeze := some (s.own[c].base.freeze.getD s.channels.last[c])
            gapHeld := some (s.own[c].base.gapHeld.getD s.channels.last[c]) }
          active := none, stack := [], waiting := [] } := by
  rw [activateBase_eq]
  refine congrArg (fun o => s.setOwn c o) ?_
  generalize s.own[c] = o at hs hw ⊢
  cases o
  subst hs hw
  rfl

variable {x : Slot} {e : Entry} {r : OverlayRecord}

theorem takeOver_passes (hx : s.slot n = x) (he : s.entry x.entryIndex = e) (hr : s.bank[e.overlay] = r) (hc : x.latch.target = c)
    (hd : e.duration ≠ 0) (hp : ¬ (r.pin = .toPartner ∧ r.partner = c)) : takeOver n s = cueOf r
      ((s.setOwn c { s.own[c] with active := some (freshContext n s.channels.last[c] r x.latch.priority) }).setSlot n (x.runs e)) := by
  have hfetch := fetch_passes hx he hr hc hd hp
  rw [takeOver_of_ok (by rw [hfetch]), hfetch]

theorem takeOver_fails (hx : s.slot n = x) (he : s.entry x.entryIndex = e) (hr : s.bank[e.overlay] = r) (hc : x.latch.target = c)
    (h : e.duration = 0 ∨ (r.pin = .toPartner ∧ r.partner = c)) :
    takeOver n s = vacate c (raise (.slotFault n) (s.setSlot n (x.fails e.failure))) := by
  have hfetch := fetch_fails hx he hr hc h
  rw [takeOver_of_failed (by rw [hfetch]), hfetch, hx, hc]

/-- A claim on a free channel that passes its check (R77). -/
theorem claim_free_passes (hx : s.slot n = x) (he : s.entry x.entryIndex = e) (hr : s.bank[e.overlay] = r) (hc : x.latch.target = c)
    (hd : e.duration ≠ 0) (hp : ¬ (r.pin = .toPartner ∧ r.partner = c)) (ha : s.own[c].active = none) : claim n s = cueOf r
      ((s.setOwn c { s.own[c] with active := some (freshContext n s.channels.last[c] r x.latch.priority) }).setSlot n (x.runs e)) := by
  rw [claim_free (by rw [hx]; exact hc) ha, takeOver_passes hx he hr hc hd hp]

variable {a : Context} {m : SlotNo}

/-- The state in which a claim that pushes the context of slot m fetches. -/
theorem pushActive_slot (ha : s.own[c].active = some a) (hm : a.owner = some m) (hmn : m ≠ n) :
    (pushActive c s).slot n = s.slot n ∧ (pushActive c s).own[c] = { s.own[c] with active := none, stack := a :: s.own[c].stack } := by
  rw [pushActive_of_active ha hm]
  exact ⟨State.slot_setSlot_ne _ _ _ _ hmn, State.own_setOwn_same _ _ _⟩

/-- A claim that pushes the owner and passes its check (R77, R78). -/
theorem claim_pushes_passes (hx : s.slot n = x) (he : s.entry x.entryIndex = e) (hr : s.bank[e.overlay] = r) (hc : x.latch.target = c)
    (hd : e.duration ≠ 0) (hp : ¬ (r.pin = .toPartner ∧ r.partner = c)) (ha : s.own[c].active = some a) (hm : a.owner = some m)
    (hmn : m ≠ n) (hprio : a.priority < (x.latch.priority : Int)) (hroom : s.own[c].stack.length < 4) : claim n s = cueOf r
      (((s.setOwn c { s.own[c] with
          active := some (freshContext n s.channels.last[c] r x.latch.priority)
          stack := a :: s.own[c].stack }).setSlot m ((s.slot m).moved .suspended)).setSlot n (x.runs e)) := by
  obtain ⟨hslot, hown⟩ := pushActive_slot ha hm hmn
  have hmoved := pushActive_of_active ha hm
  rw [claim_pushes (by rw [hx]; exact hc) ha (by rw [hx]; exact hprio) hroom,
    takeOver_passes (x := x) (e := e) (r := r) (by rw [hslot, hx]) (by rw [hmoved]; exact he) (by rw [hmoved]; exact hr) hc hd hp,
    hown, hmoved, ← State.setSlot_setOwn, State.setOwn_setOwn]
  rfl

/-- A claim that pushes the owner and fails its check: the owner resumes (R81). -/
theorem claim_pushes_fails (hx : s.slot n = x) (he : s.entry x.entryIndex = e) (hr : s.bank[e.overlay] = r) (hc : x.latch.target = c)
    (h : e.duration = 0 ∨ (r.pin = .toPartner ∧ r.partner = c)) (ha : s.own[c].active = some a) (hm : a.owner = some m)
    (hmn : m ≠ n) (hprio : a.priority < (x.latch.priority : Int)) (hroom : s.own[c].stack.length < 4)
    (hw : s.own[c].waiting = []) : claim n s
      = raise (.slotFault n) ((s.setSlot m ((s.slot m).moved .running)).setSlot n (x.fails e.failure)) := by
  obtain ⟨hslot, hown⟩ := pushActive_slot ha hm hmn
  have hmoved := pushActive_of_active ha hm
  have hself : s.setOwn c { s.own[c] with active := some a } = s := by
    rw [← ha]
    exact s.setOwn_self c
  rw [claim_pushes (by rw [hx]; exact hc) ha (by rw [hx]; exact hprio) hroom,
    takeOver_fails (x := x) (e := e) (r := r) (by rw [hslot, hx]) (by rw [hmoved]; exact he) (by rw [hmoved]; exact hr) hc h]
  have hstate : (raise (.slotFault n) ((pushActive c s).setSlot n (x.fails e.failure))).own[c]
      = { s.own[c] with active := none, stack := a :: s.own[c].stack } := hown
  have hpushed : (raise (.slotFault n) ((pushActive c s).setSlot n (x.fails e.failure))).slot m = (s.slot m).moved .suspended := by
    rw [raise_slot, State.slot_setSlot_ne _ _ _ _ (Ne.symm hmn), hmoved, State.slot_setSlot_self]
    rfl
  rw [vacate_of_no_waiting (by rw [hstate]; exact hw), popOrBase_of_stack (by rw [hstate]) hm, hstate, hpushed, hmoved, raise_setOwn,
    raise_setSlot, ← State.setSlot_setOwn, ← State.setSlot_setOwn, State.setOwn_setOwn]
  refine congrArg (raise (.slotFault n)) ?_
  rw [State.setSlot_comm _ (Ne.symm hmn), State.setSlot_setSlot]
  refine congrArg (fun t : State => (t.setSlot m _).setSlot n _) hself

/-- A claim on a free channel without saved and waiting slots that fails its check: the base stays active (R81). -/
theorem claim_free_fails (hx : s.slot n = x) (he : s.entry x.entryIndex = e) (hr : s.bank[e.overlay] = r) (hc : x.latch.target = c)
    (h : e.duration = 0 ∨ (r.pin = .toPartner ∧ r.partner = c)) (ha : s.own[c].active = none) (hs : s.own[c].stack = [])
    (hw : s.own[c].waiting = []) : claim n s
      = raise (.slotFault n)
          ((s.setOwn c
              { base := { s.own[c].base with
                  freeze := some (s.own[c].base.freeze.getD s.channels.last[c])
                  gapHeld := some (s.own[c].base.gapHeld.getD s.channels.last[c]) }
                active := none, stack := [], waiting := [] }).setSlot n (x.fails e.failure)) := by
  have hown : (raise (.slotFault n) (s.setSlot n (x.fails e.failure))).own[c] = s.own[c] := rfl
  rw [claim_free (by rw [hx]; exact hc) ha, takeOver_fails hx he hr hc h, vacate_of_no_waiting (by rw [hown]; exact hw),
    popOrBase_of_empty (by rw [hown]; exact hs), activateBase_empty (by rw [hown]; exact hs) (by rw [hown]; exact hw), raise_setOwn,
    ← State.setSlot_setOwn]
  rfl

/-! ### The other channels -/

/-- A claim changes its own channel, and no other where its entry passes the check or the waiting slots are in order. -/
theorem claim_others (hc : (s.slot n).latch.target = c) (hw : ∀ w ∈ s.own[c].waiting, (s.slot w.slot).latch.target = c) {d : Chan}
    (hd : d ≠ c) : (claim n s).own[d] = s.own[d] := by
  have htake {t : State} (hk : Resolves c s t) : (takeOver n t).own[d] = s.own[d] := by
    have ht : (t.slot n).latch.target = c := by rw [(hk.slots n).1, hc]
    have hfetched : (fetch n t).1.own[d] = s.own[d] :=
      ((fetch_owns n d t).2 (by rw [ht]; exact Ne.symm hd)).trans (hk.others hw d hd)
    cases hf : (fetch n t).2 with
    | true => rw [takeOver_of_ok hf, hfetched]
    | false =>
      rw [takeOver_of_failed hf, ht, (vacate_resolves c _).others ?_ d hd, hfetched]
      intro w hmem
      rw [(fetch_owns n c t).1] at hmem
      rw [(fetch_slots n w.slot t).1, (hk.slots w.slot).1]
      exact hw w (hk.waiting w hmem)
  cases ha : s.own[c].active with
  | none => exact (congrArg (fun t : State => t.own[d]) (claim_free hc ha)).trans (htake (.refl s))
  | some a =>
    by_cases hp : a.priority < ((s.slot n).latch.priority : Int) ∧ s.own[c].stack.length < 4
    · rw [claim_pushes hc ha hp.1 hp.2]
      exact htake (pushActive_resolves c s)
    · rw [claim_waits hc ha (by omega), waitFor_eq rfl hc, State.setSlot_own, State.own_setOwn_fin, if_neg (Ne.symm hd)]

/-- A take-over whose entry passes the check touches its own channel. -/
theorem takeOver_others {t : State} (hc : (t.slot n).latch.target = c) (he : t.entry (t.slot n).entryIndex = e)
    (hr : t.bank[e.overlay] = r) (hd : e.duration ≠ 0) (hp : ¬ (r.pin = .toPartner ∧ r.partner = c)) {d : Chan} (hdc : d ≠ c) :
    (takeOver n t).own[d] = t.own[d] := by
  rw [takeOver_passes rfl he hr hc hd hp, cueOf_own, State.setSlot_own, State.own_setOwn_fin, if_neg (Ne.symm hdc)]

theorem pushActive_others {d : Chan} (hdc : d ≠ c) : (pushActive c s).own[d] = s.own[d] := by
  have howner (x : Context) (st : SlotState) (t : State) : (setOwnerState x st t).own = t.own := by
    unfold setOwnerState
    split <;> rfl
  unfold pushActive
  split
  · rw [howner, State.own_setOwn_fin, if_neg (Ne.symm hdc)]
  · rfl

theorem claim_others_passes (hc : (s.slot n).latch.target = c) (he : s.entry (s.slot n).entryIndex = e)
    (hr : s.bank[e.overlay] = r) (hd : e.duration ≠ 0) (hp : ¬ (r.pin = .toPartner ∧ r.partner = c)) {d : Chan} (hdc : d ≠ c) :
    (claim n s).own[d] = s.own[d] := by
  cases ha : s.own[c].active with
  | none =>
    rw [claim_free hc ha]
    exact takeOver_others hc he hr hd hp hdc
  | some a =>
    by_cases hprio : a.priority < ((s.slot n).latch.priority : Int) ∧ s.own[c].stack.length < 4
    · obtain ⟨hlatch, hindex⟩ := (pushActive_resolves c s).slots n
      have hentry (i : Nat) : (pushActive c s).entry i = s.entry i := by
        unfold State.entry
        rw [(pushActive_scenario c s).scenario_entries]
      have hbank : (pushActive c s).bank = s.bank := (pushActive_scenario c s).bank
      rw [claim_pushes hc ha hprio.1 hprio.2, takeOver_others (by rw [hlatch, hc]) (by rw [hindex, hentry, he])
        (by rw [hbank, hr]) hd hp hdc]
      exact pushActive_others hdc
    · rw [claim_waits hc ha (by omega), waitFor_eq rfl hc, State.setSlot_own, State.own_setOwn_fin, if_neg (Ne.symm hdc)]

end

/-- Settles O20. -/
theorem claimTakesPushesOrWaits : Obligations.ClaimTakesPushesOrWaits := by
  intro s n x c e r fresh running cued failed
  refine ⟨fun hd hp => ⟨fun ha => ?_, fun a m ha hm hmn hprio hroom => ?_⟩,
    fun hbad hw => ⟨fun ha hs => ?_, fun a m ha hm hmn hprio hroom => ?_⟩, fun a ha h => ?_, fun h d hdc => ?_⟩
  · have hclaim := claim_free_passes (n := n) (s := s) (c := c) rfl rfl rfl rfl hd hp ha
    rw [hclaim, cueOf_own, cueOf_slot, State.setSlot_own, State.slot_setSlot_self]
    refine ⟨State.own_setOwn_same _ _ _, rfl, cueOf_replay r rfl, fun m hm => ?_⟩
    rw [cueOf_slot, State.slot_setSlot_ne _ _ _ _ (Ne.symm hm), State.slot_setOwn]
  · have hclaim := claim_pushes_passes (n := n) (s := s) (c := c) rfl rfl rfl rfl hd hp ha hm hmn hprio hroom
    rw [hclaim, cueOf_own, cueOf_slot, cueOf_slot, State.setSlot_own, State.slot_setSlot_self,
      State.slot_setSlot_ne _ _ _ _ (Ne.symm hmn), State.slot_setSlot_self]
    refine ⟨State.own_setOwn_same _ _ _, rfl, rfl, cueOf_replay r rfl, fun k hk hkm => ?_⟩
    rw [cueOf_slot, State.slot_setSlot_ne _ _ _ _ (Ne.symm hk), State.slot_setSlot_ne _ _ _ _ (Ne.symm hkm), State.slot_setOwn]
  · exact claim_free_fails (n := n) (s := s) (c := c) rfl rfl rfl rfl hbad ha hs hw
  · exact claim_pushes_fails (n := n) (s := s) (c := c) rfl rfl rfl rfl hbad ha hm hmn hprio hroom hw
  · have hclaim : claim n s = _ := (claim_waits (c := c) rfl ha h).trans (waitFor_eq rfl rfl)
    rw [hclaim, State.slot_setSlot_self, State.setSlot_own, State.own_setOwn_same]
    refine ⟨⟨rfl, fun m hm => ?_⟩, ha, rfl, rfl, joinWaiting_self _ _, fun w hw hwn => joinWaiting_keeps hw hwn,
      fun w hw => joinWaiting_from hw⟩
    rw [State.slot_setSlot_ne _ _ _ _ (Ne.symm hm), State.slot_setOwn]
  · rcases h with ⟨hd, hp⟩ | hlaw
    · exact claim_others_passes rfl rfl rfl hd hp hdc
    · exact claim_others rfl (fun w hw => ((State.ownershipLawful_iff.1 hlaw).waiter hw).2.1) hdc

end Sys2Proof.Machine
end

section
/-! Releases and withdrawals of channels with waiting slots (5.3, 5.4). -/

namespace Sys2Proof.Machine

/-! ### The waiting slot that goes first (R79) -/

theorem bestWaiter?_eq {w : Waiter} {ws : List Waiter} (hw : w ∈ ws)
    (hmax : ∀ v ∈ ws, v ≠ w → v.priority < w.priority ∨ (v.priority = w.priority ∧ w.slot < v.slot)) :
    bestWaiter? ws = some w := by
  cases hb : bestWaiter? ws with
  | none =>
    rw [bestWaiter?_eq_none hb] at hw
    exact absurd hw List.not_mem_nil
  | some v =>
    obtain ⟨hv, hspec⟩ := bestWaiter?_spec hb
    by_cases hvw : v = w
    · rw [hvw]
    · have hlow := hmax v hv hvw
      have hhigh := hspec w hw
      rcases hlow with h | ⟨h, hs⟩ <;> rcases hhigh with h' | ⟨h', hs'⟩
      · omega
      · omega
      · omega
      · exact absurd hs (not_lt.2 hs')

theorem beatsTop_of_all {w : Waiter} {xs : List Context} (h : ∀ y ys, xs = y :: ys → y.priority < (w.priority : Int)) :
    beatsTop w xs = true := by
  cases xs with
  | nil => rfl
  | cons y ys => exact decide_eq_true (h y ys rfl)

section
variable {c : Chan} {s : State} {w : Waiter}

/-! ### Resolving with fuel to spare (R81) -/

/-- A failed fetch by a waiting slot leaves fewer of them. -/
theorem waiting_of_failed (hb : bestWaiter? s.own[c].waiting = some w) :
    (fetch w.slot (removeWaiter w.slot c s)).1.own[c].waiting.length < s.own[c].waiting.length := by
  rw [(fetch_owns w.slot c _).1, removeWaiter_own]
  exact length_leaveWaiting_lt (bestWaiter?_mem hb)

theorem resolve_fuel (c : Chan) : ∀ (k l : Nat) (s : State), s.own[c].waiting.length < k → s.own[c].waiting.length < l →
    resolve k c s = resolve l c s := by
  intro k
  induction k with
  | zero => exact fun _ _ h => absurd h (Nat.not_lt_zero _)
  | succ k ih =>
    intro l s hk hl
    obtain ⟨l, rfl⟩ := Nat.exists_eq_succ_of_ne_zero (Nat.ne_of_gt (Nat.zero_lt_of_lt hl))
    cases hb : bestWaiter? s.own[c].waiting with
    | none => rw [resolve_of_none hb, resolve_of_none hb]
    | some w =>
      have hless := waiting_of_failed hb
      cases hbeats : beatsTop w s.own[c].stack with
      | false => rw [resolve_of_low hb hbeats, resolve_of_low hb hbeats]
      | true =>
        cases hf : (fetch w.slot (removeWaiter w.slot c s)).2 with
        | true => rw [resolve_of_ok hb hbeats hf, resolve_of_ok hb hbeats hf]
        | false =>
          rw [resolve_of_failed hb hbeats hf, resolve_of_failed hb hbeats hf]
          exact ih l _ (by omega) (by omega)

/-- After a failed fetch the channel is resolved again (R81). -/
theorem resolveAll_of_failed (hb : bestWaiter? s.own[c].waiting = some w) (hw : beatsTop w s.own[c].stack = true)
    (hf : (fetch w.slot (removeWaiter w.slot c s)).2 = false) :
    resolveAll c s = resolveAll c (fetch w.slot (removeWaiter w.slot c s)).1 := by
  rw [resolveAll, resolve_of_failed hb hw hf]
  exact resolve_fuel c _ _ _ (waiting_of_failed hb) (Nat.lt_succ_self _)

theorem resolveAll_of_ok (hb : bestWaiter? s.own[c].waiting = some w) (hw : beatsTop w s.own[c].stack = true)
    (hf : (fetch w.slot (removeWaiter w.slot c s)).2 = true) :
    resolveAll c s = (fetch w.slot (removeWaiter w.slot c s)).1 := resolve_of_ok hb hw hf

theorem resolveAll_of_low (hb : bestWaiter? s.own[c].waiting = some w) (hw : beatsTop w s.own[c].stack = false) :
    resolveAll c s = popOrBase c s := resolve_of_low hb hw

/-! ### Releases under the law of the Ownership Unit (R79) -/

/-- A channel that slots wait for has an owner. -/
theorem owner_of_waiter (h : s.LawfulBut none ∅) (hw : w ∈ s.own[c].waiting) :
    ∃ a m, s.own[c].active = some a ∧ a.owner = some m := by
  cases ha : s.own[c].active with
  | none =>
    have hnone := ((h.quiet c (by simp)).of_none ha).2
    rw [hnone] at hw
    exact absurd hw List.not_mem_nil
  | some a =>
    have hplace : a.place .running ∈ s.own[c].places := Ownership.mem_places.2 (.inl ⟨a, ha, rfl⟩)
    obtain ⟨m, hm, -⟩ := h.placed.held c _ hplace
    exact ⟨a, m, rfl, hm⟩

/-- Once the channel is resolved no waiting slot pre-empts. -/
theorem release_lawfully (h : s.LawfulBut none ∅) (hw : w ∈ s.own[c].waiting) : release c s = resolveAll c (dropActive c s) := by
  obtain ⟨a, m, ha, hm⟩ := owner_of_waiter h hw
  obtain ⟨hlaw, -⟩ := resolveAll_lawful (dropActive_lawful h ha hm) (by rw [dropActive_own])
  rw [release, vacate, reexamineAll, reexamine_of_quiet _ (hlaw.quiet c (by simp))]

/-- The slot that goes first takes over a channel that is released (R79). -/
theorem release_takes {x : Slot} {e : Entry} {r : OverlayRecord} (h : s.LawfulBut none ∅) (hb : bestWaiter? s.own[c].waiting = some w)
    (hw : beatsTop w s.own[c].stack = true) (hx : s.slot w.slot = x) (he : s.entry x.entryIndex = e) (hr : s.bank[e.overlay] = r)
    (hd : e.duration ≠ 0) (hp : ¬ (r.pin = .toPartner ∧ r.partner = c)) :
    (release c s).own[c] = { s.own[c] with
        active := some (freshContext w.slot s.channels.last[c] r x.latch.priority)
        waiting := leaveWaiting w.slot s.own[c].waiting }
      ∧ (release c s).slot w.slot = x.runs e := by
  have hmem := bestWaiter?_mem hb
  have hdrop := dropActive_own (c := c) (s := s)
  have hc : x.latch.target = c := by rw [← hx]; exact (h.waiter hmem).2.1
  have hfetch := fetch_passes (n := w.slot) (s := removeWaiter w.slot c (dropActive c s)) hx he hr hc hd hp
  rw [release_lawfully h hmem, resolveAll_of_ok (by rw [hdrop]; exact hb) (by rw [hdrop]; exact hw) (by rw [hfetch]), hfetch, cueOf_own,
    cueOf_slot, State.setSlot_own, State.slot_setSlot_self, State.own_setOwn_same, removeWaiter_own, hdrop]
  exact ⟨rfl, rfl⟩

/-- The slot that goes first fails its check, and the channel is released once more (R81). -/
theorem release_faults {x : Slot} {e : Entry} {r : OverlayRecord} (h : s.LawfulBut none ∅) (hb : bestWaiter? s.own[c].waiting = some w)
    (hw : beatsTop w s.own[c].stack = true) (hx : s.slot w.slot = x) (he : s.entry x.entryIndex = e) (hr : s.bank[e.overlay] = r)
    (hbad : e.duration = 0 ∨ (r.pin = .toPartner ∧ r.partner = c)) : release c s = release c (raise (.slotFault w.slot)
      ((s.setOwn c { s.own[c] with waiting := leaveWaiting w.slot s.own[c].waiting }).setSlot w.slot (x.fails e.failure))) := by
  have hmem := bestWaiter?_mem hb
  have hdrop := dropActive_own (c := c) (s := s)
  have hc : x.latch.target = c := by rw [← hx]; exact (h.waiter hmem).2.1
  have hfetch := fetch_fails (n := w.slot) (s := removeWaiter w.slot c (dropActive c s)) hx he hr hc hbad
  have hstate : raise (.slotFault w.slot) ((removeWaiter w.slot c (dropActive c s)).setSlot w.slot (x.fails e.failure))
      = dropActive c (raise (.slotFault w.slot)
          ((s.setOwn c { s.own[c] with waiting := leaveWaiting w.slot s.own[c].waiting }).setSlot w.slot (x.fails e.failure))) := by
    rw [removeWaiter, hdrop]
    unfold dropActive
    rw [State.setOwn_setOwn, raise_setOwn, ← State.setSlot_setOwn, State.setOwn_setOwn]
    refine congrArg (fun o => raise (.slotFault w.slot) ((s.setOwn c o).setSlot w.slot (x.fails e.failure))) ?_
    rw [raise_own]
    rw [State.setSlot_own, State.own_setOwn_same]
  rw [release, vacate, resolveAll_of_failed (by rw [hdrop]; exact hb) (by rw [hdrop]; exact hw) (by rw [hfetch]), hfetch]
  exact congrArg (vacate c) hstate

/-- The stack top resumes where no waiting slot ranks above it (R79). -/
theorem release_top {y : Context} {ys : List Context} (h : s.LawfulBut none ∅) (hb : bestWaiter? s.own[c].waiting = some w)
    (hs : s.own[c].stack = y :: ys) (hy : (w.priority : Int) ≤ y.priority) :
    (release c s).own[c] = { s.own[c] with active := some y, stack := ys } := by
  have hdrop := dropActive_own (c := c) (s := s)
  obtain ⟨m, hm, -⟩ := h.top_owner hs
  have hlow : beatsTop w s.own[c].stack = false := by
    rw [hs]
    exact decide_eq_false (not_lt.2 hy)
  rw [release_lawfully h (bestWaiter?_mem hb), resolveAll_of_low (by rw [hdrop]; exact hb) (by rw [hdrop]; exact hlow),
    popOrBase_of_stack (by rw [hdrop]; exact hs) hm, State.setSlot_own, State.own_setOwn_same, hdrop]

/-! ### Withdrawals (R82, R84) -/

/-- Where no waiting slot pre-empts, the waiting set stands. -/
theorem reexamine_of_none_qualifies (k : Nat) (h : ∀ v ∈ s.own[c].waiting, qualifies v s.own[c] = false) : reexamine k c s = s := by
  cases k with
  | zero => rfl
  | succ k =>
    cases hb : bestWaiter? s.own[c].waiting with
    | none => exact reexamine_of_none hb
    | some v => exact reexamine_of_low hb (h v (bestWaiter?_mem hb))

theorem qualifies_eq_false {o : Ownership} (h : (w.priority : Int) ≤ o.current.priority ∨ 4 ≤ o.stack.length) : qualifies w o = false := by
  unfold qualifies
  rw [Bool.and_eq_false_iff, decide_eq_false_iff_not, decide_eq_false_iff_not]
  exact h.imp not_lt.2 Nat.not_lt.2

/-- A withdrawal that no waiting slot gains from. -/
theorem withdraw_quietly {n : SlotNo}
    (h : ∀ v ∈ s.own[c].waiting, (v.priority : Int) ≤ s.own[c].current.priority
      ∨ 4 ≤ (s.own[c].stack.filter fun y => y.owner != some n).length) :
    withdraw n c s = s.setOwn c { s.own[c] with stack := s.own[c].stack.filter fun y => y.owner != some n } := by
  refine reexamine_of_none_qualifies _ fun v hv => ?_
  rw [State.own_setOwn_same] at hv ⊢
  exact qualifies_eq_false (h v hv)

variable {a : Context} {m : SlotNo}

theorem qualifies_of {o : Ownership} (ha : o.active = some a) (hp : a.priority < (w.priority : Int)) (hroom : o.stack.length < 4) :
    qualifies w o = true := by
  unfold qualifies Ownership.current
  rw [ha, Bool.and_eq_true, decide_eq_true_eq, decide_eq_true_eq]
  exact ⟨hp, hroom⟩

/-- The waiting slot that goes first pushes the active context and takes over (R84). -/
theorem reexamineAll_takes {x : Slot} {e : Entry} {r : OverlayRecord} (hb : bestWaiter? s.own[c].waiting = some w)
    (ha : s.own[c].active = some a) (hm : a.owner = some m) (hmw : m ≠ w.slot) (hprio : a.priority < (w.priority : Int))
    (hroom : s.own[c].stack.length < 4) (hx : s.slot w.slot = x) (he : s.entry x.entryIndex = e) (hr : s.bank[e.overlay] = r)
    (hc : x.latch.target = c) (hxw : x.latch.priority = w.priority) (hd : e.duration ≠ 0)
    (hp : ¬ (r.pin = .toPartner ∧ r.partner = c)) : reexamineAll c s = cueOf r
      (((s.setOwn c { s.own[c] with
          active := some (freshContext w.slot s.channels.last[c] r w.priority)
          stack := a :: s.own[c].stack
          waiting := leaveWaiting w.slot s.own[c].waiting }).setSlot m ((s.slot m).moved .suspended)).setSlot w.slot (x.runs e)) := by
  obtain ⟨hslot, hown⟩ := pushActive_slot (n := w.slot) (s := s) ha hm hmw
  have hmoved := pushActive_of_active ha hm
  have hfetch := fetch_passes (n := w.slot) (s := removeWaiter w.slot c (pushActive c s)) (x := x) (e := e) (r := r)
    (hslot.trans hx) (by rw [hmoved]; exact he) (by rw [hmoved]; exact hr) hc hd hp
  have hresult : (fetch w.slot (removeWaiter w.slot c (pushActive c s))).1 = cueOf r
      (((s.setOwn c { s.own[c] with
          active := some (freshContext w.slot s.channels.last[c] r w.priority)
          stack := a :: s.own[c].stack
          waiting := leaveWaiting w.slot s.own[c].waiting }).setSlot m ((s.slot m).moved .suspended)).setSlot w.slot (x.runs e)) := by
    rw [hfetch, removeWaiter_own, removeWaiter, hown, hmoved, hxw, State.setOwn_setOwn, ← State.setSlot_setOwn, State.setOwn_setOwn]
    rfl
  obtain ⟨k, hk⟩ := Nat.exists_eq_succ_of_ne_zero (Nat.ne_of_gt (List.length_pos_of_mem (bestWaiter?_mem hb)))
  rw [reexamineAll, hk, reexamine_of_ok hb (qualifies_of ha hprio hroom) (by rw [hfetch]), hresult]
  refine reexamine_of_none_qualifies k fun v hv => ?_
  rw [cueOf_own, State.setSlot_own, State.setSlot_own, State.own_setOwn_same] at hv ⊢
  have hle := bestWaiter?_max hb v (mem_leaveWaiting.1 hv).1
  exact qualifies_eq_false (.inl (Int.ofNat_le.2 hle))

theorem resolveAll_of_no_waiting (h : s.own[c].waiting = []) : resolveAll c s = popOrBase c s := by
  unfold resolveAll
  rw [h]
  exact resolve_of_none (by rw [h]; rfl)

/-- The only waiting slot pushes the active context, fails its check, and the context resumes (R81, R84). -/
theorem reexamineAll_faults {x : Slot} {e : Entry} {r : OverlayRecord} (hw : s.own[c].waiting = [w])
    (ha : s.own[c].active = some a) (hm : a.owner = some m) (hmw : m ≠ w.slot) (hprio : a.priority < (w.priority : Int))
    (hroom : s.own[c].stack.length < 4) (hx : s.slot w.slot = x) (he : s.entry x.entryIndex = e) (hr : s.bank[e.overlay] = r)
    (hc : x.latch.target = c) (hbad : e.duration = 0 ∨ (r.pin = .toPartner ∧ r.partner = c)) : reexamineAll c s
      = raise (.slotFault w.slot)
          (((s.setOwn c { s.own[c] with waiting := [] }).setSlot m ((s.slot m).moved .running)).setSlot w.slot (x.fails e.failure)) := by
  have hb : bestWaiter? s.own[c].waiting = some w := by rw [hw]; rfl
  obtain ⟨hslot, hown⟩ := pushActive_slot (n := w.slot) (s := s) ha hm hmw
  have hmoved := pushActive_of_active ha hm
  have hfetch := fetch_fails (n := w.slot) (s := removeWaiter w.slot c (pushActive c s)) (x := x) (e := e) (r := r)
    (hslot.trans hx) (by rw [hmoved]; exact he) (by rw [hmoved]; exact hr) hc hbad
  have hleft : leaveWaiting w.slot [w] = [] := by simp [leaveWaiting]
  have hlength : s.own[c].waiting.length = 0 + 1 := by rw [hw]; rfl
  rw [reexamineAll, hlength, reexamine_of_failed hb (qualifies_of ha hprio hroom) (by rw [hfetch]), hfetch]
  have hremoved : removeWaiter w.slot c (pushActive c s)
      = (s.setOwn c { s.own[c] with active := none, stack := a :: s.own[c].stack, waiting := [] }).setSlot m
          ((s.slot m).moved .suspended) := by
    rw [removeWaiter, hown, hmoved, ← State.setSlot_setOwn, State.setOwn_setOwn, hw, hleft]
    rfl
  rw [hremoved]
  have hown : ∀ o : Ownership, (raise (.slotFault w.slot) (((s.setOwn c o).setSlot m ((s.slot m).moved .suspended)).setSlot w.slot
      (x.fails e.failure))).own[c] = o := State.own_setOwn_same s c
  have hactive : { s.own[c] with active := some a, waiting := [] } = { s.own[c] with waiting := [] } := by rw [← ha]
  have hpushed (o : Ownership) : (raise (.slotFault w.slot) (((s.setOwn c o).setSlot m ((s.slot m).moved .suspended)).setSlot w.slot
      (x.fails e.failure))).slot m = (s.slot m).moved .suspended := by
    rw [raise_slot, State.slot_setSlot_ne _ _ _ _ (Ne.symm hmw), State.slot_setSlot_self]
  change resolveAll c _ = _
  rw [resolveAll_of_no_waiting (by rw [hown]), popOrBase_of_stack (by rw [hown]) hm, hown, hpushed, raise_setOwn, raise_setSlot,
    ← State.setSlot_setOwn, ← State.setSlot_setOwn, State.setOwn_setOwn, State.setSlot_comm _ (Ne.symm hmw), State.setSlot_setSlot]
  exact congrArg (fun o => raise (.slotFault w.slot) (((s.setOwn c o).setSlot m _).setSlot w.slot _)) hactive

/-- A withdrawal leaves room on the stack. -/
theorem kept_length_lt {n : SlotNo} (h : s.LawfulBut none ∅) (hst : (s.slot n).state = .suspended) (hc : (s.slot n).latch.target = c) :
    (s.own[c].stack.filter fun y => y.owner != some n).length < 4 := by
  subst hc
  obtain ⟨y, hy, hn⟩ := h.saved (Set.notMem_empty n) hst
  have hroom := (h.ordered (s.slot n).latch.target).room
  have hless : (s.own[(s.slot n).latch.target].stack.filter fun y => y.owner != some n).length
      < s.own[(s.slot n).latch.target].stack.length :=
    List.length_filter_lt_length_iff_exists.2 ⟨y, hy, by simp [hn]⟩
  exact hless.trans_le hroom

/-- The owner of a channel does not wait for it. -/
theorem owner_not_waiting (h : s.LawfulBut none ∅) (ha : s.own[c].active = some a) (hm : a.owner = some m)
    (hw : w ∈ s.own[c].waiting) : m ≠ w.slot := by
  rintro rfl
  have hplace : a.place .running ∈ s.own[c].places := Ownership.mem_places.2 (.inl ⟨a, ha, rfl⟩)
  have hrunning : (s.slot w.slot).state = .running := (h.placed.holder hplace hm).1
  rw [(h.waiter hw).1] at hrunning
  cases hrunning

end

/-- Settles O21. -/
theorem releaseResumesOrTakesOver : Obligations.ReleaseResumesOrTakesOver := by
  refine ⟨fun s c hw => ⟨fun x xs m hs hx => release_resumes hw hs hx, fun hs => release_to_base hw hs⟩, ?_,
    fun s n c => withdraw_quietly⟩
  intro s c w hmem hlaw hmax x e r left failed
  have h := State.ownershipLawful_iff.1 hlaw
  have hb := bestWaiter?_eq hmem hmax
  obtain ⟨-, hc, hprio, -⟩ := h.waiter hmem
  refine ⟨fun htop => ⟨fun hd hp => ?_, fun hbad => ?_⟩, fun y ys hs hy => ?_, fun n m a hst ht ha hm hlow => ?_⟩
  · obtain ⟨hown, hslot⟩ := release_takes h hb (beatsTop_of_all htop) rfl rfl rfl hd hp
    rw [hown, hslot]
    exact ⟨⟨_, rfl, rfl, congrArg Int.ofNat hprio, rfl⟩, rfl, rfl, rfl⟩
  · exact release_faults h hb (beatsTop_of_all htop) rfl rfl rfl hbad
  · rw [release_top h hb hs hy]
    exact ⟨rfl, rfl, rfl⟩
  · intro kept
    have hroom : kept.length < 4 := kept_length_lt h hst ht
    have hmw := owner_not_waiting h ha hm hmem
    have hown : (s.setOwn c { s.own[c] with stack := kept }).own[c] = { s.own[c] with stack := kept } := State.own_setOwn_same _ _ _
    refine ⟨fun hd hp => ?_, fun hbad hw => ?_⟩
    · have htakes := reexamineAll_takes (s := s.setOwn c { s.own[c] with stack := kept }) (c := c) (x := x) (e := e) (r := r)
        (by rw [hown]; exact hb) (by rw [hown]; exact ha) hm hmw hlow (by rw [hown]; exact hroom) rfl rfl rfl hc hprio hd hp
      have hwithdraw : withdraw n c s = _ := htakes
      rw [hwithdraw, hown, cueOf_own, cueOf_slot, cueOf_slot, State.setSlot_own, State.setSlot_own, State.own_setOwn_same,
        State.slot_setSlot_self, State.slot_setSlot_ne _ _ _ _ (Ne.symm hmw), State.slot_setSlot_self]
      refine ⟨rfl, rfl, rfl, fun k hk hkm => ?_⟩
      rw [cueOf_slot, State.slot_setSlot_ne _ _ _ _ (Ne.symm hk), State.slot_setSlot_ne _ _ _ _ (Ne.symm hkm)]
      rfl
    · have hfaults := reexamineAll_faults (s := s.setOwn c { s.own[c] with stack := kept }) (c := c) (x := x) (e := e) (r := r)
        (by rw [hown]; exact hw) (by rw [hown]; exact ha) hm hmw hlow (by rw [hown]; exact hroom) rfl rfl rfl hc hbad
      have hwithdraw : withdraw n c s = _ := hfaults
      rw [hwithdraw, hown, State.setOwn_setOwn]
      rfl

end Sys2Proof.Machine
end

section
/-! The requests on slots (6.3, 6.6, 6.7). -/

namespace Sys2Proof.Machine

section
variable {s : State} {r : Request} {n : SlotNo}

/-! ### ARM SLOT (R94 to R96) -/

theorem armSlotRequest_noIndex (h : 8 ≤ r.object ∨ 128 ≤ r.index) : armSlotRequest r s = refuse .noIndex s := by
  unfold armSlotRequest
  by_cases ho : 8 ≤ r.object
  · rw [index?_eq_none ho]
  · obtain ⟨n, hn⟩ := index?_isSome (n := 8) (i := r.object) (decide_eq_true (Nat.lt_of_not_le ho))
    rw [hn]
    exact if_pos (h.resolve_left ho)

theorem armSlotRequest_safe (hn : r.object = n.val) (hi : r.index < 128) (h : s.safe.asserted = true) :
    armSlotRequest r s = refuse .safe s := by
  unfold armSlotRequest
  rw [hn, index?_val]
  simp only [Config.blocks, Nat.not_le.2 hi, if_false, h, if_true]

section
variable (hn : r.object = n.val) (hi : r.index < 128) (hs : s.safe.asserted = false)
include hn hi hs

theorem armSlotRequest_busy (h : (s.slot n).state.busy = true) : armSlotRequest r s = refuse .busy s := by
  unfold armSlotRequest
  rw [hn, index?_val]
  simp only [Config.blocks, Nat.not_le.2 hi, if_false, hs, Bool.false_eq_true, h, if_true]

theorem armSlotRequest_held (h : (s.slot n).state = .faulted) : armSlotRequest r s = refuse .held s := by
  unfold armSlotRequest
  rw [hn, index?_val]
  simp only [Config.blocks, Nat.not_le.2 hi, if_false, hs, Bool.false_eq_true, h, if_true, SlotState.busy]

theorem armSlotRequest_fault {code : FaultCode} (h : (s.slot n).state = .idle) (hf : blockFault? (s.block r.index) s = some code) :
    armSlotRequest r s = refuse code.status s := by
  unfold armSlotRequest
  rw [hn, index?_val]
  simp only [Config.blocks, Nat.not_le.2 hi, if_false, hs, Bool.false_eq_true, h, hf, SlotState.busy, reduceCtorEq]

theorem armSlotRequest_arms {t : State} (h : (s.slot n).state = .idle) (hf : blockFault? (s.block r.index) s = none)
    (ht : armSlot n r.index (s.block r.index) s = t) : armSlotRequest r s = done [word (t.slot n).state.num] t := by
  subst ht
  unfold armSlotRequest
  rw [hn, index?_val]
  simp only [Config.blocks, Nat.not_le.2 hi, if_false, hs, Bool.false_eq_true, h, hf, SlotState.busy, reduceCtorEq]

end

/-- Settles O22. -/
theorem armSlotChecksAndLatches : Obligations.ArmSlotChecksAndLatches := by
  intro s r hs hr
  refine ⟨fun h => request_refused hs (codeIs_of hr) (armSlotRequest_noIndex h), fun n hn hi => ⟨fun ha => ?_, fun ha => ⟨fun h => ?_,
    fun h => ?_, fun h => ⟨fun hz => ?_, fun hz hb => ?_, fun hz hb he => ?_, fun hz hb he => ⟨fun hst hd => ?_, fun hst => ?_,
    fun hst => ?_⟩⟩⟩⟩⟩
  · exact request_refused hs (codeIs_of hr) (armSlotRequest_safe hn hi ha)
  · exact request_refused hs (codeIs_of hr) (armSlotRequest_busy hn hi ha h)
  · exact request_refused hs (codeIs_of hr) (armSlotRequest_held hn hi ha h)
  · exact request_refused hs (codeIs_of hr) (armSlotRequest_fault (s := s.toHunt) hn hi ha h (blockFault?_empty hz))
  · exact request_refused hs (codeIs_of hr) (armSlotRequest_fault (s := s.toHunt) hn hi ha h (blockFault?_bounds hz hb))
  · exact request_refused hs (codeIs_of hr) (armSlotRequest_fault (s := s.toHunt) hn hi ha h (blockFault?_off hz hb he))
  · have harm := armSlotRequest_arms (s := s.toHunt) hn hi ha h (blockFault?_none hz hb he) (armSlot_delay hst hd)
    rw [State.slot_setSlot_self] at harm
    exact request_done hs (codeIs_of hr) harm
  · have harm := armSlotRequest_arms (s := s.toHunt) hn hi ha h (blockFault?_none hz hb he) (armSlot_onFire hst)
    rw [State.slot_setSlot_self] at harm
    exact request_done hs (codeIs_of hr) harm
  · exact request_done hs (codeIs_of hr) (armSlotRequest_arms (s := s.toHunt) hn hi ha h (blockFault?_none hz hb he) (armSlot_now hst))

/-! ### ABORT SLOT, CLEAR SLOT and RESET SCENARIOS (R106 to R108) -/

theorem abortSlotRequest_eq {t : State} (hn : r.object = n.val) (ht : leaveChannel n s = t) :
    abortSlotRequest r s = done [word (s.slot n).state.num] (t.setSlot n Slot.idle) := by
  subst ht
  unfold abortSlotRequest
  rw [hn, index?_val]

theorem leaveChannel_waiting (h : (s.slot n).state = .waiting) : leaveChannel n s = removeWaiter n (s.slot n).latch.target s := by
  simp only [leaveChannel, h]

theorem leaveChannel_running (h : (s.slot n).state = .running) : leaveChannel n s = release (s.slot n).latch.target s := by
  simp only [leaveChannel, h]

theorem leaveChannel_suspended (h : (s.slot n).state = .suspended) : leaveChannel n s = withdraw n (s.slot n).latch.target s := by
  simp only [leaveChannel, h]

theorem leaveChannel_placeless (h : (s.slot n).state = .idle ∨ (s.slot n).state = .armed ∨ (s.slot n).state = .faulted) :
    leaveChannel n s = s := by
  rcases h with h | h | h <;> simp only [leaveChannel, h]

theorem exec_abortSlot {t : State} (hs : s.serves r) (hr : r.code = 10) (hn : r.object = n.val) (ht : leaveChannel n s.toHunt = t) :
    exec .abortSlot s = .next ((t.setSlot n Slot.idle).answered r .ok [word (s.slot n).state.num]) :=
  request_done hs (codeIs_of hr) (abortSlotRequest_eq hn ht)

theorem faultWords_eq (x : Slot) : faultWords x = [word x.fault.num, word x.block, x.entryAtFault.elim 65535 word] := by
  unfold faultWords
  cases x.entryAtFault <;> rfl

theorem clearSlotRequest_busy (hn : r.object = n.val) (h : (s.slot n).state.busy = true) :
    clearSlotRequest r s = { state := s, status := .busy, data := faultWords (s.slot n) } := by
  unfold clearSlotRequest
  rw [hn, index?_val]
  exact if_pos h

theorem clearSlotRequest_idle (hn : r.object = n.val) (h : (s.slot n).state = .idle) :
    clearSlotRequest r s = done (faultWords (s.slot n)) s := by
  unfold clearSlotRequest
  rw [hn, index?_val]
  simp only [h, SlotState.busy, Bool.false_eq_true, if_false, reduceCtorEq]

theorem clearSlotRequest_faulted (hn : r.object = n.val) (h : (s.slot n).state = .faulted) :
    clearSlotRequest r s = done (faultWords (s.slot n)) (s.setSlot n Slot.idle) := by
  unfold clearSlotRequest
  rw [hn, index?_val]
  simp only [h, SlotState.busy, Bool.false_eq_true, if_false, if_true]

/-- Clearing every channel changes the channels alone. -/
theorem clearChannels_eq (s : State) : clearChannels s = { s with own := (clearChannels s).own } :=
  foldl_moves (fun s t : State => t = { s with own := t.own }) (fun _ => rfl)
    (fun _ _ _ h k => by rw [k, h]) (fun s c => clearChannel c s) (fun _ _ => rfl) _ s

theorem mapSlots_idle (s : State) :
    s.mapSlots (fun _ => Slot.idle) = { s with scenario := { s.scenario with slots := Vector.replicate 8 Slot.idle } } := by
  have hslots : (Vector.ofFn fun _ : SlotNo => Slot.idle) = Vector.replicate 8 Slot.idle := by
    ext i hi
    rw [Vector.getElem_ofFn, Vector.getElem_replicate]
  unfold State.mapSlots
  rw [hslots]

end

/-- Settles O23. -/
theorem slotRequestsEndOrClearSlots : Obligations.SlotRequestsEndOrClearSlots := by
  refine ⟨fun s r hs hr => ⟨fun h => ?_, fun n hn => ⟨fun h => ?_, fun h => ?_, fun h => ?_, fun h hw => ?_, fun h => ?_⟩⟩,
    fun s r hs hr => ⟨fun h => ?_, fun n hn => ⟨fun h => ?_, fun h => ?_, fun h => ?_⟩⟩, fun s r hs hr => ?_⟩
  · refine request_refused hs (codeIs_of hr) ?_
    rw [abortSlotRequest, index?_eq_none h]
  · exact exec_abortSlot hs hr hn (leaveChannel_placeless h)
  · rw [exec_abortSlot hs hr hn (leaveChannel_waiting h), h]
    rfl
  · rw [exec_abortSlot hs hr hn (leaveChannel_running h), h]
    rfl
  · have hwithdraw : withdraw n (s.slot n).latch.target s.toHunt = _ :=
      withdraw_quietly (s := s.toHunt) (n := n) (c := (s.slot n).latch.target) fun v hv => by
        have hnone : s.toHunt.own[(s.slot n).latch.target].waiting = [] := hw
        rw [hnone] at hv
        exact absurd hv List.not_mem_nil
    rw [exec_abortSlot hs hr hn ((leaveChannel_suspended (s := s.toHunt) h).trans hwithdraw), h]
    rfl
  · rw [exec_abortSlot hs hr hn (leaveChannel_suspended h), h]
    rfl
  · refine request_refused hs (codeIs_of hr) ?_
    rw [clearSlotRequest, index?_eq_none h]
  · rw [← faultWords_eq]
    exact request_answers hs (codeIs_of hr) (clearSlotRequest_busy (s := s.toHunt) hn h)
  · rw [← faultWords_eq]
    exact request_done hs (codeIs_of hr) (clearSlotRequest_idle (s := s.toHunt) hn h)
  · rw [← faultWords_eq]
    exact request_done hs (codeIs_of hr) (clearSlotRequest_faulted (s := s.toHunt) hn h)
  · refine ⟨_, request_done hs (codeIs_of hr) rfl, ?_, fun c => ?_⟩
    · rw [mapSlots_idle]
      have hclear := clearChannels_eq s.toHunt
      generalize clearChannels s.toHunt = t at hclear ⊢
      rw [hclear]
      rfl
    · rw [State.mapSlots_own, clearChannels_own]
      exact ⟨rfl, rfl, rfl, rfl⟩

end Sys2Proof.Machine
end

section
/-! The ends of delays and of entries, with the counts of a tick (6.3, 6.4). -/

namespace Sys2Proof.Machine

/-! ### Counts once taken stay taken (log 5) -/

/-- Where no slot has a tick to count, none has one afterwards. -/
def Uncounted (s t : State) : Prop := (∀ m : SlotNo, (s.slot m).counts = false) → ∀ m : SlotNo, (t.slot m).counts = false

namespace Uncounted

variable {s t u : State}

theorem refl (s : State) : Uncounted s s := id

theorem trans (h : Uncounted s t) (k : Uncounted t u) : Uncounted s u := k ∘ h

theorem quiet (h : ∀ m, t.slot m = s.slot m) : Uncounted s t := fun hs m => by rw [h, hs m]

theorem setSlot {n : SlotNo} {x : Slot} (hx : (s.slot n).counts = false → x.counts = false) : Uncounted s (s.setSlot n x) := by
  intro hs m
  rw [State.slot_setSlot]
  split_ifs
  · exact hx (hs n)
  · exact hs m

theorem foldl {β : Type} (f : State → β → State) (h : ∀ s b, Uncounted s (f s b)) (l : List β) (s : State) :
    Uncounted s (l.foldl f s) := foldl_moves Uncounted refl (fun _ _ _ => trans) f h l s

end Uncounted

section
variable (s : State)

theorem fetch_uncounted (n : SlotNo) : Uncounted s (fetch n s).1 := by
  rcases fetch_cases n s with ⟨f, hf⟩ | ⟨e, r, hf⟩ <;> rw [hf]
  · exact .setSlot fun _ => rfl
  · have hinstall : Uncounted s (installEntry n e r s) := by
      rw [installEntry_run rfl rfl]
      exact (Uncounted.quiet (t := s.setOwn _ _) fun _ => rfl).trans (.setSlot fun _ => rfl)
    exact hinstall.trans (.quiet (cueOf_slot r _))

theorem fetch_uncounted_of {n : SlotNo} {t : State} {b : Bool} (h : fetch n s = (t, b)) : Uncounted s t := by
  have hfetch := fetch_uncounted s n
  rwa [h] at hfetch

theorem setOwnerState_uncounted (x : Context) (st : SlotState) : Uncounted s (setOwnerState x st s) := by
  unfold setOwnerState
  split
  · exact .setSlot fun _ => rfl
  · exact .refl s

theorem setOwn_uncounted (c : Chan) (o : Ownership) : Uncounted s (s.setOwn c o) := .quiet fun _ => rfl

theorem pushActive_uncounted (c : Chan) : Uncounted s (pushActive c s) := by
  unfold pushActive
  split
  · exact (setOwn_uncounted s _ _).trans (setOwnerState_uncounted _ _ _)
  · exact .refl s

theorem popOrBase_uncounted (c : Chan) : Uncounted s (popOrBase c s) := by
  unfold popOrBase
  split
  · exact (setOwn_uncounted s _ _).trans (setOwnerState_uncounted _ _ _)
  · exact setOwn_uncounted s _ _

theorem resolve_uncounted (k : Nat) (c : Chan) : Uncounted s (resolve k c s) := by
  induction k generalizing s with
  | zero => exact popOrBase_uncounted s c
  | succ k ih =>
    unfold resolve
    split
    · rename_i w _
      have hleft : Uncounted s (removeWaiter w.slot c s) := setOwn_uncounted s _ _
      split_ifs
      · split
        · exact hleft.trans (fetch_uncounted_of _ ‹_›)
        · exact (hleft.trans (fetch_uncounted_of _ ‹_›)).trans (ih _)
      · exact popOrBase_uncounted s c
    · exact popOrBase_uncounted s c

theorem reexamine_uncounted (k : Nat) (c : Chan) : Uncounted s (reexamine k c s) := by
  induction k generalizing s with
  | zero => exact .refl s
  | succ k ih =>
    unfold reexamine
    split
    · rename_i w _
      have hpush : Uncounted s (removeWaiter w.slot c (pushActive c s)) :=
        (pushActive_uncounted s c).trans (setOwn_uncounted _ _ _)
      split_ifs
      · split
        · exact (hpush.trans (fetch_uncounted_of _ ‹_›)).trans (ih _)
        · exact ((hpush.trans (fetch_uncounted_of _ ‹_›)).trans (resolve_uncounted _ _ c)).trans (ih _)
      · exact .refl s
    · exact .refl s

theorem vacate_uncounted (c : Chan) : Uncounted s (vacate c s) :=
  (resolve_uncounted s _ c).trans (reexamine_uncounted _ _ c)

theorem release_uncounted (c : Chan) : Uncounted s (release c s) := (setOwn_uncounted s _ _).trans (vacate_uncounted _ c)

theorem withdraw_uncounted (n : SlotNo) (c : Chan) : Uncounted s (withdraw n c s) :=
  (setOwn_uncounted s _ _).trans (reexamine_uncounted _ _ c)

theorem takeOver_uncounted (n : SlotNo) : Uncounted s (takeOver n s) := by
  unfold takeOver
  split
  · exact fetch_uncounted_of s ‹_›
  · exact (fetch_uncounted_of s ‹_›).trans (vacate_uncounted _ _)

theorem claim_uncounted (n : SlotNo) : Uncounted s (claim n s) := by
  unfold claim
  simp only
  split
  · exact takeOver_uncounted s n
  · split_ifs
    · exact (pushActive_uncounted s _).trans (takeOver_uncounted _ n)
    · rw [waitFor_eq rfl rfl]
      exact (setOwn_uncounted s _ _).trans (.setSlot id)

theorem startSlot_uncounted (n : SlotNo) : Uncounted s (startSlot n s) := by
  unfold startSlot
  simp only
  split
  · exact claim_uncounted s n
  · split_ifs
    · exact claim_uncounted s n
    · exact .setSlot id
  · exact .setSlot id

theorem armSlot_uncounted (n : SlotNo) (b : Nat) (x : Block) : Uncounted s (armSlot n b x s) :=
  Uncounted.trans (.setSlot fun _ => rfl) (startSlot_uncounted _ n)

theorem finishBlock_uncounted (n : SlotNo) (next : Option Nat) : Uncounted s (finishBlock n next s) := by
  unfold finishBlock
  split
  · exact .setSlot (x := Slot.idle) fun _ => rfl
  · unfold followOn
    split
    · exact .setSlot (x := Slot.followFault _ _ _ _) fun _ => rfl
    · exact armSlot_uncounted s n _ _

theorem blockEnd_uncounted (n : SlotNo) : Uncounted s (blockEnd n s) := by
  have hleave : Uncounted s (leaveBlock n s) := by
    rw [leaveBlock_eq]
    split_ifs
    · exact (setOwn_uncounted s _ _).trans (release_uncounted _ _)
    · exact release_uncounted s _
  exact hleave.trans (finishBlock_uncounted _ n _)

theorem Slot.afterEntry?_counts {x y : Slot} (h : x.afterEntry? = some y) : y.counts = x.counts := by
  unfold Slot.afterEntry? at h
  split_ifs at h <;> cases h <;> rfl

theorem endEntry_uncounted (n : SlotNo) : Uncounted s (endEntry n s) := by
  cases hx : (s.slot n).afterEntry? with
  | none =>
    rw [endEntry_done hx]
    exact blockEnd_uncounted s n
  | some x =>
    rw [endEntry_goes_on hx]
    have hnext : Uncounted s (s.setSlot n x) := .setSlot fun h => (Slot.afterEntry?_counts hx).trans h
    refine hnext.trans ?_
    unfold fetchInPlace
    split
    · exact fetch_uncounted_of _ ‹_›
    · exact (fetch_uncounted_of _ ‹_›).trans (release_uncounted _ _)

theorem leaveSaved_uncounted (n : SlotNo) : Uncounted s (leaveSaved n s) := by
  have hadopt (c : Chan) : Uncounted s (adoptSaved n c s) := .quiet (adoptSaved_slot n c s)
  unfold leaveSaved
  simp only
  split
  · exact (hadopt _).trans (withdraw_uncounted _ _ _)
  · exact withdraw_uncounted s _ _

theorem faultFetch_uncounted (n : SlotNo) (code : FaultCode) : Uncounted s (faultFetch n code s) := by
  rw [faultFetch_eq rfl]
  exact .setSlot (x := (s.slot n).fails code) fun _ => rfl

theorem mapSaved_uncounted (n : SlotNo) (c : Chan) (f : Context → Context) {x : Slot} (hx : x.counts = false) :
    Uncounted s ((mapSaved n c f s).setSlot n x) := (setOwn_uncounted s _ _).trans (.setSlot fun _ => hx)

theorem cueOf_uncounted (r : OverlayRecord) : Uncounted s (cueOf r s) := .quiet (cueOf_slot r s)

theorem fetchSaved_uncounted (n : SlotNo) : Uncounted s (fetchSaved n s) := by
  unfold fetchSaved
  simp only
  split
  · exact (faultFetch_uncounted s n _).trans (withdraw_uncounted _ _ _)
  · refine Uncounted.trans ?_ (cueOf_uncounted _ _)
    apply mapSaved_uncounted
    rfl

theorem endSaved_uncounted (n : SlotNo) : Uncounted s (endSaved n s) := by
  cases hx : (s.slot n).afterEntry? with
  | none =>
    rw [endSaved_done hx]
    exact (leaveSaved_uncounted s n).trans (finishBlock_uncounted _ n _)
  | some x =>
    rw [endSaved_goes_on hx]
    have hnext : Uncounted s (s.setSlot n x) := .setSlot fun h => (Slot.afterEntry?_counts hx).trans h
    exact hnext.trans (fetchSaved_uncounted _ n)

theorem entryRunsOut_uncounted (n : SlotNo) : Uncounted s (entryRunsOut n s) := by
  unfold entryRunsOut
  split
  · exact endEntry_uncounted s n
  · exact endSaved_uncounted s n
  all_goals exact .refl s

theorem actSlots_uncounted (ends claims : List SlotNo) : Uncounted s (actSlots ends claims s) :=
  (Uncounted.foldl _ entryRunsOut_uncounted ends s).trans (.foldl _ claim_uncounted claims _)

end

/-! ### The count of a tick that has stood open -/

section
variable {s : State} {n : SlotNo}

theorem Slot.counted_counts (x : Slot) : x.counted.counts = false := by
  unfold Slot.counted
  split_ifs <;> rfl

theorem countSlots_counts (s : State) (m : SlotNo) : ((countSlots s).slot m).counts = false := by
  rw [countSlots_slot]
  exact Slot.counted_counts _

/-- Where one slot alone has the tick to count, it alone changes. -/
theorem countSlots_alone (h : ∀ m, m ≠ n → (s.slot m).counts = false) : countSlots s = s.setSlot n (s.slot n).counted := by
  have hslots : (Vector.ofFn fun m => (s.slot m).counted) = s.scenario.slots.set n (s.slot n).counted := by
    ext1 i hi
    rw [Vector.getElem_ofFn, Vector.getElem_set]
    split_ifs with hni
    · exact congrArg (fun m => (s.slot m).counted) (Fin.ext hni.symm)
    · exact Slot.counted_still (h ⟨i, hi⟩ fun heq => hni (congrArg Fin.val heq).symm)
  unfold countSlots State.mapSlots State.setSlot
  exact congrArg (fun v => { s with scenario := { s.scenario with slots := v } }) hslots

theorem delayDue_iff : (s.slot n).delayDue = true ↔ (s.slot n).counts = true ∧ s.claimsAtTick n := by
  simp only [Slot.delayDue, Bool.and_eq_true, decide_eq_true_eq, Bool.not_eq_true', State.claimsAtTick]
  exact ⟨fun ⟨⟨⟨h1, h2⟩, h3⟩, h4⟩ => ⟨h1, h2, h3, h4⟩, fun ⟨h1, h2, h3, h4⟩ => ⟨⟨⟨h1, h2⟩, h3⟩, h4⟩⟩

theorem entryDue_iff : (s.slot n).entryDue = true ↔ (s.slot n).counts = true ∧ s.endsAtTick n := by
  simp only [Slot.entryDue, Bool.and_eq_true, decide_eq_true_eq, State.endsAtTick, and_assoc]

theorem exec_slotDelayExpiry (hp : s.phase = .running) (hc : (s.slot n).counts = true) (h : s.claimsAtTick n) :
    exec (.slotDelayExpiry n.val) s
      = .next (actSlots (entriesDue s) ((delaysDue s).erase n) (claim n (countSlots s))) := by
  change execSlotDelayExpiry n.val s = _
  unfold execSlotDelayExpiry
  rw [index?_val]
  exact congrArg Host.Outcome.next (if_pos ⟨hp, delayDue_iff.2 ⟨hc, h⟩⟩)

theorem exec_entryDurationExpiry (hp : s.phase = .running) (hc : (s.slot n).counts = true) (h : s.endsAtTick n) :
    exec (.entryDurationExpiry n.val) s
      = .next (actSlots (n :: (entriesDue s).erase n) (delaysDue s) (countSlots s)) := by
  change execEntryDurationExpiry n.val s = _
  unfold execEntryDurationExpiry
  rw [index?_val]
  exact congrArg Host.Outcome.next (if_pos ⟨hp, entryDue_iff.2 ⟨hc, h⟩⟩)

/-- No other slot comes to an end of its count at the tick. -/
def State.Alone (s : State) (n : SlotNo) : Prop := ∀ m : SlotNo, m ≠ n → (s.slot m).counts = true → ¬ s.endsAtTick m ∧ ¬ s.claimsAtTick m

theorem not_ends_of_claims {m : SlotNo} (h : s.claimsAtTick m) : ¬ s.endsAtTick m := fun hends => by
  have harmed := h.1
  rw [hends.1] at harmed
  cases harmed

theorem State.Alone.entries (h : s.Alone n) (hn : s.claimsAtTick n) : entriesDue s = [] :=
  List.eq_nil_iff_forall_not_mem.2 fun m hm => by
    obtain ⟨hc, hends⟩ := entryDue_iff.1 (mem_entriesDue.1 hm)
    by_cases hmn : m = n
    · subst hmn
      exact not_ends_of_claims hn hends
    · exact (h m hmn hc).1 hends

theorem State.Alone.otherDelays (h : s.Alone n) : (delaysDue s).erase n = [] :=
  List.eq_nil_iff_forall_not_mem.2 fun m hm => by
    obtain ⟨hmn, hm⟩ := ((delaysDue_nodup s).mem_erase_iff).1 hm
    obtain ⟨hc, hclaims⟩ := delayDue_iff.1 (mem_delaysDue.1 hm)
    exact (h m hmn hc).2 hclaims

theorem State.Alone.otherEntries (h : s.Alone n) : (entriesDue s).erase n = [] :=
  List.eq_nil_iff_forall_not_mem.2 fun m hm => by
    obtain ⟨hmn, hm⟩ := ((entriesDue_nodup s).mem_erase_iff).1 hm
    obtain ⟨hc, hends⟩ := entryDue_iff.1 (mem_entriesDue.1 hm)
    exact (h m hmn hc).1 hends

theorem State.Alone.delays (h : s.Alone n) (hn : s.endsAtTick n) : delaysDue s = [] :=
  List.eq_nil_iff_forall_not_mem.2 fun m hm => by
    obtain ⟨hc, hclaims⟩ := delayDue_iff.1 (mem_delaysDue.1 hm)
    by_cases hmn : m = n
    · subst hmn
      exact not_ends_of_claims hclaims hn
    · exact (h m hmn hc).2 hclaims

theorem alone_of_uncounted (h : ∀ m : SlotNo, m ≠ n → (s.slot m).counts = false) : s.Alone n := fun m hm hc => by
  rw [h m hm] at hc
  cases hc

/-- How each slot takes the tick. -/
theorem countSlots_each (s : State) (m : SlotNo) :
    ((s.slot m).counts = true → (s.slot m).state = .running →
        (countSlots s).slot m = { s.slot m with counts := false, ticksLeft := (s.slot m).ticksLeft - 1 })
      ∧ ((s.slot m).counts = true → (s.slot m).state = .armed →
        (countSlots s).slot m = { s.slot m with counts := false, delayLeft := (s.slot m).delayLeft - 1 })
      ∧ ((s.slot m).counts = false → (countSlots s).slot m = s.slot m) := by
  rw [countSlots_slot]
  exact ⟨Slot.counted_running, Slot.counted_armed, Slot.counted_still⟩

end

/-- Settles O24. -/
theorem slotCountsEndInActions : Obligations.SlotCountsEndInActions := by
  intro s n hphase hcounts alone counted
  refine ⟨fun h => ?_, fun h => ?_⟩
  · have hexec := exec_slotDelayExpiry hphase hcounts h
    have hclaim (ha : s.Alone n) : exec (.slotDelayExpiry n.val) s = .next (claim n (countSlots s)) := by
      rw [hexec, ha.entries h, ha.otherDelays]
      rfl
    refine ⟨⟨_, hexec, ?_⟩, fun ha => ⟨countSlots s, hclaim ha, countSlots_each s, rfl⟩, fun hothers => ?_⟩
    · exact actSlots_uncounted _ _ _ (claim_uncounted _ n (countSlots_counts s))
    · rw [hclaim (alone_of_uncounted hothers), countSlots_alone hothers, Slot.counted_armed hcounts h.1, h.2.2]
  · have hexec := exec_entryDurationExpiry hphase hcounts h
    have hend (ha : s.Alone n) : exec (.entryDurationExpiry n.val) s = .next (endEntry n (countSlots s)) := by
      have hrunning : ((countSlots s).slot n).state = .running := by
        rw [(countSlots_each s n).1 hcounts h.1]
        exact h.1
      rw [hexec, ha.otherEntries, ha.delays h, ← entryRunsOut_running hrunning]
      rfl
    refine ⟨⟨_, hexec, ?_⟩, fun ha => ⟨countSlots s, hend ha, countSlots_each s, rfl⟩, fun hothers => ?_⟩
    · exact actSlots_uncounted _ _ _ (countSlots_counts s)
    · have hticks : (s.slot n).ticksLeft - 1 = 0 := Nat.sub_eq_zero_of_le h.2
      rw [hend (alone_of_uncounted hothers), countSlots_alone hothers, Slot.counted_running hcounts h.1, hticks]

end Sys2Proof.Machine
end

section
/-! What a watch's fire reaches (7.3, 7.4). -/

namespace Sys2Proof.Machine

/-! ### One capture set's moves leave the other (chapter 9) -/

/-- Set k's moves leave the other set as it is, and take nothing off the drain queue. -/
structure OfSet (k : SetNo) (s t : State) : Prop where
  others : ∀ j, j ≠ k → t.capture[j] = s.capture[j]
  queue : ∀ e ∈ s.tx.drain, e ∈ t.tx.drain

namespace OfSet

variable {k : SetNo} {s t u : State}

theorem refl (s : State) : OfSet k s s := ⟨fun _ _ => rfl, fun _ => id⟩

theorem trans (h : OfSet k s t) (h' : OfSet k t u) : OfSet k s u :=
  ⟨fun j hj => (h'.others j hj).trans (h.others j hj), fun e he => h'.queue e (h.queue e he)⟩

theorem setCapture (x : CaptureSet) : OfSet k s (s.setCapture k x) :=
  ⟨fun j hj => by rw [State.capture_setCapture_fin, if_neg (Ne.symm hj)], fun _ => id⟩

theorem events (h : EventsMoved s t) : OfSet k s t :=
  ⟨fun j _ => by rw [h.capture], fun e he => by unfold EventsMoved at h; rw [h]; exact he⟩

end OfSet

section
variable (s : State) (k : SetNo)

theorem settleDrain_ofSet : OfSet k s (settleDrain k s) := by
  unfold settleDrain
  split_ifs
  · exact (OfSet.setCapture _).trans (.events (raise_moves _ _))
  · exact .refl s

theorem fillHalf_ofSet (h : HalfName) : OfSet k s (fillHalf k h s) :=
  OfSet.trans (.setCapture _) ⟨fun _ _ => rfl, fun _ he => List.mem_append_left _ he⟩

theorem stopCapture_ofSet : OfSet k s (stopCapture k s) := by
  have hclose : OfSet k s (closeFilling k s) := by
    unfold closeFilling
    simp only
    split
    · split_ifs
      · exact .setCapture _
      · exact fillHalf_ofSet s k _
    · exact .refl s
  unfold stopCapture
  split_ifs
  · exact (hclose.trans (.setCapture _)).trans (settleDrain_ofSet _ k)
  · exact .refl s

theorem turnHalf_ofSet (h : HalfName) : OfSet k s (turnHalf k h s) := by
  unfold turnHalf
  simp only
  split_ifs
  · exact (fillHalf_ofSet s k h).trans (.setCapture _)
  · exact ((fillHalf_ofSet s k h).trans (.setCapture _)).trans (.events (raise_moves _ _))

theorem takeRecord_ofSet (rec : List Word) : OfSet k s (takeRecord k rec s) := by
  unfold takeRecord
  simp only
  split
  · exact .setCapture _
  · split_ifs
    · exact (OfSet.setCapture _).trans (turnHalf_ofSet _ k _)
    · exact .setCapture _

theorem recordDue_ofSet : OfSet k s (recordDue k s) := by
  unfold recordDue
  simp only
  split
  · exact .refl s
  · split_ifs
    · exact takeRecord_ofSet s k _
    · exact (OfSet.setCapture _).trans (.events (advance_moves _ _ _))
    · exact .setCapture _

theorem captureTick_ofSet (vs : TickValues) : OfSet k s (captureTick vs k s) := by
  have hlength (t : State) : OfSet k t (lengthReached k t) := by
    unfold lengthReached
    split_ifs
    · exact stopCapture_ofSet t k
    · exact .refl t
  exact ((OfSet.setCapture _).trans (recordDue_ofSet _ k)).trans (hlength _)

theorem fireCapture_ofSet (w : WatchNo) : OfSet k s (fireCapture w k s) := by
  unfold fireCapture
  simp only
  split_ifs
  · exact .setCapture _
  · exact stopCapture_ofSet s k
  · exact .refl s

/-- Each set is reached by a fire once. -/
theorem fireCaptures_set (w : WatchNo) : ∃ t, t.capture[k] = s.capture[k] ∧ (fireCaptures w s).capture[k] = (fireCapture w k t).capture[k] := by
  by_cases hk : k = 0
  · subst hk
    exact ⟨s, rfl, (fireCapture_ofSet (fireCapture w 0 s) 1 w).others 0 (by decide)⟩
  · have hk1 : k = 1 := Fin.eq_one_of_ne_zero k hk
    subst hk1
    exact ⟨fireCapture w 0 s, (fireCapture_ofSet s 0 w).others 1 (by decide), rfl⟩

end

section
variable {s : State} {k : SetNo} {w : WatchNo}

theorem fireCapture_starts (hst : s.capture[k].state = .armed) (hw : s.capture[k].record.start = some w) :
    (fireCapture w k s).capture[k] = { s.capture[k] with
      state := .recording, halfA := s.capture[k].halfA.opened, ticksToNext := 0, due := none } := by
  unfold fireCapture
  simp only
  rw [if_pos ⟨hst, hw⟩]
  exact State.capture_setCapture_self _ _ _

theorem fireCapture_untouched (hs : s.capture[k].record.start ≠ some w) (hp : s.capture[k].record.stop ≠ some w) :
    fireCapture w k s = s := by
  unfold fireCapture
  simp only
  rw [if_neg fun h => hs h.2, if_neg fun h => hp h.2]

theorem settleDrain_state {y : CaptureSet} (hy : s.capture[k] = y) (hst : y.state = .draining) :
    (settleDrain k s).capture[k].state = .draining ∨ (settleDrain k s).capture[k].state = .idle := by
  by_cases hd : y.drained = true
  · have hset : (raise (.captureDone k) (s.setCapture k { y with state := .idle })).capture[k] = { y with state := .idle } :=
      State.capture_setCapture_self s k _
    rw [settleDrain_of_drained hy hd, hset]
    exact .inr rfl
  · rw [settleDrain_of_not_drained hy hd, hy]
    exact .inl hst

/-- A set that stops drains, or has nothing to drain. -/
theorem stopCapture_state (ha : s.capture[k].active = true) :
    (stopCapture k s).capture[k].state = .draining ∨ (stopCapture k s).capture[k].state = .idle := by
  unfold stopCapture
  rw [if_pos ha]
  exact settleDrain_state (State.capture_setCapture_self _ _ _) rfl

theorem fireCapture_stops (hst : s.capture[k].state = .recording ∨ s.capture[k].state = .overrun)
    (hw : s.capture[k].record.stop = some w) :
    (fireCapture w k s).capture[k].state = .draining ∨ (fireCapture w k s).capture[k].state = .idle := by
  have hactive : s.capture[k].active = true := CaptureSet.active_iff.2 hst
  unfold fireCapture
  simp only
  rw [if_neg, if_pos ⟨hactive, hw⟩]
  · exact stopCapture_state hactive
  · rintro ⟨harmed, -⟩
    rcases hst with h | h <;> rw [harmed] at h <;> cases h

/-! ### The fire noted (R119) -/

variable {v : Word} {n : SlotNo}

/-- The state a fire is noted in, before it is counted and reported. -/
def State.fireTaken (s : State) (w : WatchNo) (v : Word) : State :=
  joinHits w (s.setWatch w ((s.watchOf w).stored v s.timer.ticks))

theorem noteFire_moves (w : WatchNo) (v : Word) (s : State) : EventsMoved (s.fireTaken w v) (noteFire w v s) := by
  unfold noteFire
  simp only
  split_ifs
  · exact (advance_moves _ _ _).trans (raise_moves _ _)
  · exact advance_moves _ _ _

theorem noteFire_slot (w : WatchNo) (v : Word) (s : State) (n : SlotNo) : (noteFire w v s).slot n = s.slot n := by
  unfold State.slot
  rw [(noteFire_moves w v s).scenario]
  rfl

theorem noteFire_capture (w : WatchNo) (v : Word) (s : State) : (noteFire w v s).capture = s.capture :=
  (noteFire_moves w v s).capture

theorem noteFire_watchOf (w u : WatchNo) (v : Word) (s : State) :
    (noteFire w v s).watchOf u = if w = u then (s.watchOf w).stored v s.timer.ticks else s.watchOf u := by
  unfold State.watchOf
  rw [(noteFire_moves w v s).watch]
  unfold State.fireTaken joinHits State.setWatch State.watchOf
  simp only [Fin.getElem_fin]
  split_ifs with h
  · subst h
    exact Vector.getElem_set_self _
  · exact Vector.getElem_set_ne _ _ fun hval => h (Fin.ext hval)

theorem noteFire_hits (w : WatchNo) (v : Word) (s : State) :
    (noteFire w v s).watch.hits = s.watch.hits ||| BitVec.twoPow 8 w.val := by
  rw [(noteFire_moves w v s).watch]
  rfl

theorem Watch.stored_eq (v : Word) (tick : BitVec 32) (x : Watch) : x.stored v tick
    = if x.record.store = .compareStore then { x with lastValue := v, lastTick := tick, fire := none } else { x with fire := none } := by
  unfold Watch.stored
  cases x.record.store <;> rfl

theorem noteFire_fires (w : WatchNo) (v : Word) (s : State) :
    (noteFire w v s).events.counters[ctrFires w] = s.events.counters[ctrFires w] + 1 := by
  have hcount : (advance (ctrFires w) 1 (s.fireTaken w v)).events.counters[ctrFires w] = s.events.counters[ctrFires w] + 1 := by
    rw [advance_counters_add, if_pos rfl]
    rfl
  unfold noteFire
  simp only
  split_ifs
  · exact hcount
  · exact hcount

theorem noteFire_reports (hr : (s.watchOf w).record.report = true) (hm : s.setup.masks.getLsbD 5 = false) :
    (noteFire w v s).events.flags.getLsbD (47 + w.val) = true := by
  have hcategory : (Event.watchFire w).category = 5 := by
    fin_cases w <;> rfl
  have hmasked : masked (.watchFire w) (advance (ctrFires w) 1 (s.fireTaken w v)) = false := by
    unfold masked
    rw [hcategory, (advance_moves _ _ _).setup]
    exact hm
  have hflag : (Event.watchFire w).flag = 47 + w.val := rfl
  unfold noteFire
  simp only
  rw [if_pos hr, ← hflag]
  exact (raise_flag_iff _ _ (by rw [hflag]; omega)).2 (.inr ⟨rfl, hmasked⟩)

theorem exec_watchFire (hp : s.phase = .running) (hf : (s.watchOf w).fire = some v) :
    exec (.watchFire w.val) s = .next (fireCaptures w (fireSlots w (noteFire w v s))) := by
  change execWatchFire w.val s = _
  unfold execWatchFire takeFire
  rw [index?_val]
  simp only [hp, if_true, hf]

/-! ### The slots a fire reaches (R96, R100) -/

/-- A fire reaches slot n at its turn. -/
def fireTurn (w : WatchNo) (s : State) (t : State) (n : SlotNo) : State :=
  if (s.slot n).hears w && (t.slot n).hears w then fireSlot n t else t

theorem fireSlots_eq (w : WatchNo) (s : State) : fireSlots w s = (List.finRange 8).foldl (fireTurn w s) s := rfl

theorem fireTurn_deaf {t : State} (h : (s.slot n).hears w = false) : fireTurn w s t n = t := by
  unfold fireTurn
  rw [h, Bool.false_and]
  rfl

theorem foldl_deaf (l : List SlotNo) (h : ∀ m ∈ l, (s.slot m).hears w = false) (t : State) : l.foldl (fireTurn w s) t = t := by
  induction l generalizing t with
  | nil => rfl
  | cons m l ih =>
    rw [List.foldl_cons, fireTurn_deaf (h m List.mem_cons_self)]
    exact ih (fun m hm => h m (List.mem_cons_of_mem _ hm)) t

/-- Slot n's turn comes once. -/
theorem finRange_split (n : SlotNo) : ∃ l₁ l₂, List.finRange 8 = l₁ ++ n :: l₂ ∧ n ∉ l₁ ∧ n ∉ l₂ := by
  obtain ⟨l₁, l₂, h⟩ := List.append_of_mem (List.mem_finRange n)
  have hnodup := List.nodup_finRange 8
  rw [h] at hnodup
  have hparts := List.nodup_append.1 hnodup
  obtain ⟨-, hright, hdisjoint⟩ := hparts
  exact ⟨l₁, l₂, h, fun hn => hdisjoint n hn n List.mem_cons_self rfl, (List.nodup_cons.1 hright).1⟩

/-- Where one slot alone hears the fire, it alone acts. -/
theorem fireSlots_alone (hn : (s.slot n).hears w = true) (h : ∀ m, m ≠ n → (s.slot m).hears w = false) :
    fireSlots w s = fireSlot n s := by
  obtain ⟨l₁, l₂, hl, h₁, h₂⟩ := finRange_split n
  rw [fireSlots_eq, hl, List.foldl_append, List.foldl_cons, foldl_deaf l₁ (fun m hm => h m fun heq => h₁ (heq ▸ hm)),
    foldl_deaf l₂ (fun m hm => h m fun heq => h₂ (heq ▸ hm))]
  unfold fireTurn
  rw [hn]
  rfl

theorem fireStart_still {A : Set SlotNo} (h : s.LawfulBut none A) (hn : n ∉ A) (hst : (s.slot n).state.placed = false) :
    Still A s (fireStart n s) := by
  unfold fireStart
  simp only
  split_ifs
  · exact Still.trans (Still.setSlot hn _ s) (claim_lawful ((h.insert hst).reslot_away _) hn).2
  · exact Still.setSlot hn _ s

/-- A slot's turn leaves the law and the slots away. -/
theorem fireTurn_lawful {A : Set SlotNo} {t : State} (h : t.LawfulBut none A) (hn : n ∉ A) :
    (fireTurn w s t n).LawfulBut none A ∧ Still A t (fireTurn w s t n) := by
  unfold fireTurn
  split_ifs with hw
  · obtain ⟨-, hears⟩ := Bool.and_eq_true_iff.1 hw
    unfold fireSlot
    split_ifs with harmed
    · have hst : (t.slot n).state.placed = false := by rw [harmed]; rfl
      exact ⟨fireStart_lawful h hn hst, fireStart_still h hn hst⟩
    · exact endEntry_lawful h hn ((Slot.hears_state hears).resolve_left harmed)
  · exact ⟨h, .refl A t⟩

theorem foldl_fireTurn_lawful {A : Set SlotNo} (l : List SlotNo) (hl : ∀ m ∈ l, m ∉ A) : ∀ {t : State}, t.LawfulBut none A →
    (l.foldl (fireTurn w s) t).LawfulBut none A ∧ Still A t (l.foldl (fireTurn w s) t) := by
  induction l with
  | nil => exact fun h => ⟨h, .refl A _⟩
  | cons m l ih =>
    intro t h
    obtain ⟨hlaw, hstill⟩ := fireTurn_lawful (w := w) (s := s) h (hl m List.mem_cons_self)
    obtain ⟨hlaw', hstill'⟩ := ih (fun m hm => hl m (List.mem_cons_of_mem _ hm)) hlaw
    exact ⟨hlaw', Still.trans hstill hstill'⟩

end

end Sys2Proof.Machine
end

section
/-! The fire of a watch at its consumers, with the slots in the order of their numbers (7.4). -/

namespace Sys2Proof.Machine

section
variable {s : State} {n : SlotNo} {w : WatchNo} {v : Word}

theorem fireSlot_loads {t : State} {x : Slot} (hx : t.slot n = x) (hst : x.state = .armed) (hd : x.latch.delay ≠ 0) :
    fireSlot n t = t.setSlot n { x with awaiting := false, delayLeft := x.latch.delay, counts := false } := by
  subst hx
  unfold fireSlot fireStart
  rw [if_pos hst]
  exact if_neg hd

theorem fireSlot_claims {t : State} {x : Slot} (hx : t.slot n = x) (hst : x.state = .armed) (hd : x.latch.delay = 0) :
    fireSlot n t = claim n (t.setSlot n { x with awaiting := false }) := by
  subst hx
  unfold fireSlot fireStart
  rw [if_pos hst]
  exact if_pos hd

theorem fireSlot_ends {t : State} (hst : (t.slot n).state = .running) : fireSlot n t = endEntry n t := by
  unfold fireSlot
  rw [if_neg (by rw [hst]; decide)]

theorem Slot.hears_armed {x : Slot} (hst : x.state = .armed) (ha : x.awaiting = true) (hw : x.latch.watch = w) : x.hears w = true := by
  simp [Slot.hears, hst, ha, hw]

theorem Slot.hears_running {x : Slot} (hst : x.state = .running) (hw : x.endWatch = some w) : x.hears w = true := by
  simp [Slot.hears, hst, hw]

theorem Slot.deaf_armed {x : Slot} (hst : x.state = .armed) (h : x.awaiting = false ∨ x.latch.watch ≠ w) : x.hears w = false := by
  rcases h with h | h <;> simp [Slot.hears, hst, h]

theorem Slot.deaf_placeless {x : Slot} (h : x.state = .idle ∨ x.state = .faulted) : x.hears w = false := by
  rcases h with h | h <;> simp [Slot.hears, h]

/-- The turns of the others, before and after its own, leave a slot without a place as it is. -/
theorem fireSlots_away {y : Slot} (h : s.LawfulBut none ∅) (hst : (s.slot n).state.placed = false)
    (hturn : ∀ t : State, t.LawfulBut none (insert n ∅) → t.slot n = s.slot n →
      (fireTurn w s t n).LawfulBut none (insert n ∅) ∧ (fireTurn w s t n).slot n = y) : (fireSlots w s).slot n = y := by
  obtain ⟨l₁, l₂, hl, h₁, h₂⟩ := finRange_split n
  have hne {l : List SlotNo} (hn : n ∉ l) : ∀ m ∈ l, m ∉ (insert n ∅ : Set SlotNo) := fun m hm hmem => by
    rw [insert_empty_eq] at hmem
    exact hn (Set.mem_singleton_iff.1 hmem ▸ hm)
  obtain ⟨hlaw₁, hstill₁⟩ := foldl_fireTurn_lawful (w := w) (s := s) l₁ (hne h₁) (h.insert hst)
  obtain ⟨hlaw, hslot⟩ := hturn _ hlaw₁ (hstill₁ n (Set.mem_insert n ∅))
  rw [fireSlots_eq, hl, List.foldl_append, List.foldl_cons,
    (foldl_fireTurn_lawful l₂ (hne h₂) hlaw).2 n (Set.mem_insert n ∅), hslot]

/-- A slot without a place that does not hear the fire stands. -/
theorem fireSlots_deaf (h : s.LawfulBut none ∅) (hst : (s.slot n).state.placed = false) (hdeaf : (s.slot n).hears w = false) :
    (fireSlots w s).slot n = s.slot n :=
  fireSlots_away h hst fun t ht hslot => by
    rw [fireTurn_deaf hdeaf]
    exact ⟨ht, hslot⟩

/-- An ARMED slot that awaits the watch loads its delay (R96). -/
theorem fireSlots_loads (h : s.LawfulBut none ∅) (hst : (s.slot n).state = .armed) (ha : (s.slot n).awaiting = true)
    (hw : (s.slot n).latch.watch = w) (hd : (s.slot n).latch.delay ≠ 0) : (fireSlots w s).slot n
      = { s.slot n with awaiting := false, delayLeft := (s.slot n).latch.delay, counts := false } := by
  have hears := Slot.hears_armed hst ha hw
  refine fireSlots_away h (by rw [hst]; rfl) fun t ht hslot => ?_
  have hturn : fireTurn w s t n = fireSlot n t := by
    unfold fireTurn
    rw [hslot, hears]
    rfl
  rw [hturn, fireSlot_loads hslot hst hd, State.slot_setSlot_self]
  exact ⟨ht.reslot_away _, rfl⟩

end

/-- Settles O29. -/
theorem watchFireReachesItsConsumers : Obligations.WatchFireReachesItsConsumers := by
  intro s w v hphase hfire x
  have hslots := noteFire_slot w v s
  have hcapture := noteFire_capture w v s
  have hlaw (h : s.OwnershipLawful) : (noteFire w v s).LawfulBut none ∅ :=
    (noteFire_places w v s).lawful (State.ownershipLawful_iff.1 h)
  have hfires := fireSlots_scenario w (noteFire w v s)
  have hlast := fireCaptures_moves w (fireSlots w (noteFire w v s))
  have hlogs : Logs (fun e => e.ofSlot ∨ e.ofCapture) (noteFire w v s) (fireCaptures w (fireSlots w (noteFire w v s))) :=
    ((fireSlots_logs _ w).logs.mono fun _ => .inl).trans ((fireCaptures_logs _ w).mono fun _ => .inr)
  have hslot (n : SlotNo) : (fireCaptures w (fireSlots w (noteFire w v s))).slot n = (fireSlots w (noteFire w v s)).slot n := by
    unfold State.slot
    rw [hlast.scenario]
  have hwatchOf (u : WatchNo) : (fireCaptures w (fireSlots w (noteFire w v s))).watchOf u = (noteFire w v s).watchOf u := by
    unfold State.watchOf
    rw [hlast.watch, hfires.watch]
  have hset (k : SetNo) : ∃ t, t.capture[k] = s.capture[k]
      ∧ (fireCaptures w (fireSlots w (noteFire w v s))).capture[k] = (fireCapture w k t).capture[k] := by
    obtain ⟨t, ht, hk⟩ := fireCaptures_set (fireSlots w (noteFire w v s)) k w
    exact ⟨t, by rw [ht, hfires.capture, hcapture], hk⟩
  refine ⟨_, exec_watchFire hphase hfire, ?_, fun u hu => ?_, ?_, ?_, fun hr hm => ?_, fun h n hst ha hw hd => ?_,
    fun h n hst hn => ?_, fun h n hn => ?_, fun k hst hk => ?_, fun k hst hk => ?_, fun k hs hp => ?_,
    fun n hst hw hothers => ?_, fun n hst ha hw hd hothers => ?_⟩
  · rw [hwatchOf, noteFire_watchOf, if_pos rfl, Watch.stored_eq]
  · rw [hwatchOf, noteFire_watchOf, if_neg (Ne.symm hu)]
  · rw [hlast.watch, hfires.watch, noteFire_hits]
  · rw [hlogs.counters _ ?_, noteFire_fires]
    rintro (he | ⟨k, he⟩)
    · exact he
    · have hval := congrArg Fin.val he
      simp only [ctrFires, ctrRecordsDropped] at hval
      omega
  · exact hlogs.rises _ (noteFire_reports hr hm)
  · rw [hslot, fireSlots_loads (hlaw h) (by rw [hslots]; exact hst) (by rw [hslots]; exact ha) (by rw [hslots]; exact hw)
      (by rw [hslots]; exact hd), hslots]
  · rw [hslot, fireSlots_deaf (hlaw h) (by rw [hslots, hst]; rfl) (by rw [hslots]; exact Slot.deaf_armed hst hn), hslots]
  · have hplaced : ((noteFire w v s).slot n).state.placed = false := by
      rw [hslots]
      rcases hn with h | h <;> rw [h] <;> rfl
    rw [hslot, fireSlots_deaf (hlaw h) hplaced (by rw [hslots]; exact Slot.deaf_placeless hn), hslots]
  · obtain ⟨t, ht, hk'⟩ := hset k
    rw [hk', fireCapture_starts (by rw [ht]; exact hst) (by rw [ht]; exact hk), ht]
    exact ⟨rfl, rfl, rfl⟩
  · obtain ⟨t, ht, hk'⟩ := hset k
    rw [hk']
    exact fireCapture_stops (by rw [ht]; exact hst) (by rw [ht]; exact hk)
  · obtain ⟨t, ht, hk'⟩ := hset k
    rw [hk', fireCapture_untouched (by rw [ht]; exact hs) (by rw [ht]; exact hp), ht]
  · rw [fireSlots_alone (by rw [hslots]; exact Slot.hears_running hst hw) (fun m hm => by rw [hslots]; exact hothers m hm),
      fireSlot_ends (by rw [hslots]; exact hst)]
  · rw [fireSlots_alone (by rw [hslots]; exact Slot.hears_armed hst ha hw) (fun m hm => by rw [hslots]; exact hothers m hm),
      fireSlot_claims (hslots n) hst hd]

end Sys2Proof.Machine
end

section
/-! What a tick makes of each track (8.3 to 8.6). -/

namespace Sys2Proof.Machine

/-! ### One track at a tick (R129 to R134) -/

section
variable {x : Track} {m : Mem}

theorem endSpan_presented (x : Track) : (endSpan x).presented = x.presented := by
  unfold endSpan endStoredSpan endFedSpan
  split <;> split_ifs <;> rfl

theorem Track.passed_presented (x : Track) : x.passed.presented = x.presented := by
  unfold Track.passed
  split_ifs
  · exact endSpan_presented x
  · rfl

theorem stepPhase_presented (x : Track) : (stepPhase x).presented = x.presented := by
  unfold stepPhase
  split_ifs <;> rfl

theorem Track.ticked_presented (m : Mem) (x : Track) : (x.ticked m).presented = (settleTrack m x).presented := by
  unfold Track.ticked
  rw [Track.passed_presented, stepPhase_presented]

theorem settleTrack_eq (m : Mem) (x : Track) : settleTrack m x = { x with presented := (x.ticked m).presented } := by
  rw [Track.ticked_presented]
  rfl

theorem ticked_stored (h : x.desc.mode = .stored) : (x.ticked m).presented = settleStored m x := by
  rw [Track.ticked_presented]
  simp only [settleTrack, h]

theorem ticked_fed (h : x.desc.mode = .fed) : (x.ticked m).presented = settleFed m x := by
  rw [Track.ticked_presented]
  simp only [settleTrack, h]

theorem settleStored_sample (h : x.state ≠ .playing ∨ x.desc.interpolate = false) : settleStored m x = x.sample m x.playhead := by
  unfold settleStored
  split
  · rename_i hst hi _
    rcases h with h | h
    · exact absurd hst h
    · rw [hi] at h
      cases h
  · rfl

theorem settleStored_between {b : Word} (hst : x.state = .playing) (hi : x.desc.interpolate = true) (hb : x.nextSample? m = some b) :
    settleStored m x = interpolate (x.sample m x.playhead) b x.phase x.desc.divider := by
  simp only [settleStored, hst, hi, hb]

theorem settleStored_last (hb : x.nextSample? m = none) : settleStored m x = x.sample m x.playhead := by
  unfold settleStored
  split
  · rename_i b hsome
    rw [hb] at hsome
    cases hsome
  · rfl

theorem nextSample?_next (h : x.playhead + 1 < x.desc.size) : x.nextSample? m = some (x.sample m (x.playhead + 1)) := if_pos h

theorem nextSample?_loop (h : x.desc.size ≤ x.playhead + 1) (hl : x.desc.loop = true) : x.nextSample? m = some (x.sample m 0) := by
  unfold Track.nextSample?
  rw [if_neg (Nat.not_lt.2 h), if_pos hl]

theorem nextSample?_once (h : x.desc.size ≤ x.playhead + 1) (hl : x.desc.loop = false) : x.nextSample? m = none := by
  unfold Track.nextSample?
  rw [if_neg (Nat.not_lt.2 h), if_neg (by simp [hl])]

theorem settleFed_empty (h : x.fill = 0) : settleFed m x = x.presented := if_pos h

theorem settleFed_first (h : x.fill ≠ 0) (hn : x.state ≠ .playing ∨ x.desc.interpolate = false ∨ x.fill = 1) :
    settleFed m x = x.ring m 0 := by
  unfold settleFed
  rw [if_neg h, if_neg]
  rintro ⟨hst, hi, hf⟩
  rcases hn with hn | hn | hn
  · exact hn hst
  · rw [hi] at hn
    cases hn
  · omega

theorem settleFed_between (hst : x.state = .playing) (hi : x.desc.interpolate = true) (hf : 2 ≤ x.fill) :
    settleFed m x = interpolate (x.ring m 0) (x.ring m 1) x.phase x.desc.divider := by
  unfold settleFed
  rw [if_neg (by omega), if_pos ⟨hst, hi, hf⟩]

theorem ticked_not_playing (h : x.state ≠ .playing) : x.ticked m = { x with presented := (x.ticked m).presented } := by
  have hsettle : x.ticked m = settleTrack m x := by
    have hst : (settleTrack m x).state ≠ .playing := h
    unfold Track.ticked stepPhase Track.passed
    rw [if_neg hst, if_neg]
    simp [Track.spanOver, hst]
  rw [← settleTrack_eq]
  exact hsettle

theorem ticked_playing (h : x.state = .playing) :
    x.ticked m = Track.passed { x with presented := (x.ticked m).presented, phase := x.phase + 1 } := by
  have hstep : stepPhase (settleTrack m x) = { x with presented := (x.ticked m).presented, phase := x.phase + 1 } := by
    rw [settleTrack_eq]
    exact if_pos h
  rw [← hstep]
  rfl

theorem ticked_within (h : x.state = .playing) (hp : x.phase + 1 < x.desc.divider) :
    x.ticked m = { x with presented := (x.ticked m).presented, phase := x.phase + 1 } := by
  refine (ticked_playing h).trans (if_neg ?_)
  simp [Track.spanOver, h, Nat.not_le.2 hp]

/-- At the end of its span a track is where its span's end leaves it. -/
theorem ticked_over (h : x.state = .playing) (hp : x.phase + 1 = x.desc.divider) :
    x.ticked m = endSpan { x with presented := (x.ticked m).presented } := by
  refine (ticked_playing h).trans ((if_pos ?_).trans ?_)
  · simp [Track.spanOver, h, hp]
  · exact endSpan_phase { x with presented := (x.ticked m).presented } (x.phase + 1)

end

/-! ### The turn of one track (R129) -/

/-- The events of one track, with the counts of its underrun ticks. -/
def Event.ofTrackNo (u : TrackNo) (e : Event) : Prop := e = .trackEnd u ∨ e = .trackUnderrun u ∨ e = .counterWrap (ctrUnderrunTicks u)

section
variable {s : State} {u : TrackNo}

theorem spanEnd_logs_of (u : TrackNo) (s : State) : Logs (Event.ofTrackNo u) s (spanEnd u s) := by
  have hevent (x : Track) : ∀ e ∈ spanEvent? u x, Event.ofTrackNo u e := by
    intro e he
    unfold spanEvent? at he
    split at he <;> cases he
    · exact .inl rfl
    · exact .inr (.inl rfl)
  unfold spanEnd
  simp only
  split_ifs
  · exact Logs.after (raise?_logs _ (hevent _)) rfl
  · exact .refl s

theorem trackTick_logs_of (u : TrackNo) (s : State) : Logs (Event.ofTrackNo u) s (trackTick u s) := by
  unfold trackTick
  simp only
  split_ifs
  · exact Logs.after ((advance_logs _ (show Event.ofTrackNo u (.counterWrap _) from .inr (.inr rfl)) 1).trans
      (spanEnd_logs_of u _)) rfl
  · exact Logs.after (spanEnd_logs_of u _) rfl

theorem not_ofTrackNo {v : TrackNo} (h : v ≠ u) : ¬ Event.ofTrackNo v (.counterWrap (ctrUnderrunTicks u)) := by
  rintro (he | he | he)
  · cases he
  · cases he
  · have hval := congrArg Fin.val (Event.counterWrap.inj he)
    simp only [ctrUnderrunTicks] at hval
    exact h (Fin.ext (by omega))

/-- The other tracks' turns leave a track, and the count of its underrun ticks. -/
theorem foldl_trackTick (l : List TrackNo) (hl : u ∉ l) : ∀ s : State,
    let t := l.foldl (fun s v => trackTick v s) s
    TracksMoved s t ∧ t.track u = s.track u ∧ t.events.counters[ctrUnderrunTicks u] = s.events.counters[ctrUnderrunTicks u]
      ∧ ∀ f, s.events.flags.getLsbD f = true → t.events.flags.getLsbD f = true := by
  induction l with
  | nil => exact fun s => ⟨.refl s, rfl, rfl, fun _ => id⟩
  | cons v l ih =>
    intro s
    obtain ⟨hv, hl⟩ := List.ne_and_not_mem_of_not_mem_cons hl
    obtain ⟨hmoved, htrack, hcount, hrises⟩ := ih hl (trackTick v s)
    have hlogs := trackTick_logs_of v s
    exact ⟨(trackTick_moves v s).trans hmoved, htrack.trans (trackTick_track_ne (Ne.symm hv) s),
      hcount.trans (hlogs.counters _ (not_ofTrackNo (Ne.symm hv))), fun f hf => hrises f (hlogs.rises f hf)⟩

/-- Track u's turn at a tick. -/
theorem tracksTick_turn (u : TrackNo) (s : State) : ∃ r, TracksMoved s r ∧ r.track u = s.track u
    ∧ r.events.counters[ctrUnderrunTicks u] = s.events.counters[ctrUnderrunTicks u]
    ∧ (tracksTick s).events.counters[ctrUnderrunTicks u] = (trackTick u r).events.counters[ctrUnderrunTicks u]
    ∧ ∀ f, (trackTick u r).events.flags.getLsbD f = true → (tracksTick s).events.flags.getLsbD f = true := by
  obtain ⟨l₁, l₂, hl, h₁, h₂⟩ := finRange_split u
  obtain ⟨hmoved, htrack, hcount, -⟩ := foldl_trackTick l₁ h₁ s
  have hsplit : tracksTick s = l₂.foldl (fun s v => trackTick v s) (trackTick u (l₁.foldl (fun s v => trackTick v s) s)) := by
    unfold tracksTick
    rw [hl, List.foldl_append, List.foldl_cons]
  obtain ⟨-, -, hcount', hrises⟩ := foldl_trackTick l₂ h₂ (trackTick u (l₁.foldl (fun s v => trackTick v s) s))
  rw [hsplit]
  exact ⟨_, hmoved, htrack, hcount, hcount', hrises⟩

/-- Track u as its turn finds it, settled and its phase moved on. -/
theorem trackTick_playing (h : (s.track u).state = .playing) :
    trackTick u s = spanEnd u (s.setTrack u (stepPhase (settleTrack s.replay.mem (s.track u)))) := by
  have hst : (settleTrack s.replay.mem (s.track u)).state ≠ .underrun := by
    change (s.track u).state ≠ .underrun
    rw [h]
    decide
  unfold trackTick
  simp only
  rw [if_neg hst]

theorem trackTick_underrun (h : (s.track u).state = .underrun) :
    (trackTick u s).events.counters[ctrUnderrunTicks u] = s.events.counters[ctrUnderrunTicks u] + 1 := by
  have hst : (settleTrack s.replay.mem (s.track u)).state = .underrun := h
  have hover (t : State) (ht : (t.track u).state = .underrun) : spanEnd u t = t :=
    spanEnd_of_not_over (by simp [Track.spanOver, ht])
  have hstep : stepPhase (settleTrack s.replay.mem (s.track u)) = settleTrack s.replay.mem (s.track u) :=
    if_neg (by rw [hst]; decide)
  unfold trackTick
  simp only
  rw [if_pos hst, hstep, hover]
  · rw [advance_counters_add, if_pos rfl]
    rfl
  · rw [advance_track, State.track_setTrack_self]
    exact hst

end

end Sys2Proof.Machine
end

section
/-! The end of a track's span at a tick, and the tracks at a settled tick (8.5, 8.6). -/

namespace Sys2Proof.Machine

section
variable {s : State} {u : TrackNo} {st : TrackState}

/-- A PLAYING track's turn that ends its span raises the event of the state it goes to. -/
theorem trackTick_flag {e : Event} (h : (s.track u).state = .playing) (hst : ((s.track u).ticked s.replay.mem).state = st)
    (he : ∀ y : Track, y.state = st → spanEvent? u y = some e) (hne : st ≠ .playing) (hm : s.setup.masks.getLsbD e.category = false)
    (hf : e.flag < 123) : (trackTick u s).events.flags.getLsbD e.flag = true := by
  have htrack : (s.setTrack u (stepPhase (settleTrack s.replay.mem (s.track u)))).track u
      = stepPhase (settleTrack s.replay.mem (s.track u)) := State.track_setTrack_self _ _ _
  have hsettled : (stepPhase (settleTrack s.replay.mem (s.track u))).state = .playing := by
    have hplaying : (settleTrack s.replay.mem (s.track u)).state = .playing := h
    unfold stepPhase
    rw [if_pos hplaying]
    exact hplaying
  have hover : (stepPhase (settleTrack s.replay.mem (s.track u))).spanOver = true := by
    by_contra hnot
    unfold Track.ticked Track.passed at hst
    rw [if_neg hnot, hsettled] at hst
    exact hne hst.symm
  have hend : (endSpan (stepPhase (settleTrack s.replay.mem (s.track u)))).state = st := by
    unfold Track.ticked Track.passed at hst
    rwa [if_pos hover] at hst
  rw [trackTick_playing h, spanEnd_of_over (by rw [htrack]; exact hover), htrack, he _ hend]
  exact (raise_flag_iff e _ hf).2 (.inr ⟨rfl, hm⟩)

theorem trackTick_ended (h : (s.track u).state = .playing) (hst : ((s.track u).ticked s.replay.mem).state = .ended)
    (hm : s.setup.masks.getLsbD 3 = false) : (trackTick u s).events.flags.getLsbD (27 + u.val) = true := by
  have hcategory : (Event.trackEnd u).category = 3 := by fin_cases u <;> rfl
  have hflag : (Event.trackEnd u).flag = 27 + u.val := rfl
  rw [← hflag]
  refine trackTick_flag h hst (fun y hy => by simp only [spanEvent?, hy]) (by decide) (by rw [hcategory]; exact hm) ?_
  rw [hflag]
  omega

theorem trackTick_runs_short (h : (s.track u).state = .playing) (hst : ((s.track u).ticked s.replay.mem).state = .underrun)
    (hm : s.setup.masks.getLsbD 3 = false) : (trackTick u s).events.flags.getLsbD (35 + u.val) = true := by
  have hcategory : (Event.trackUnderrun u).category = 3 := by fin_cases u <;> rfl
  have hflag : (Event.trackUnderrun u).flag = 35 + u.val := rfl
  rw [← hflag]
  refine trackTick_flag h hst (fun y hy => by simp only [spanEvent?, hy]) (by decide) (by rw [hcategory]; exact hm) ?_
  rw [hflag]
  omega

end

/-! ### The tracks at a settled tick -/

section
variable {s s0 : State} {k : Instr} {o : CountOrder}

theorem not_ofFlow_underrun (u : TrackNo) : ¬ Event.ofFlow (.counterWrap (ctrUnderrunTicks u)) := by
  intro h
  have hval := congrArg Fin.val (show ctrUnderrunTicks u = ctrStaleTicks from h)
  simp [ctrUnderrunTicks, ctrStaleTicks] at hval
  omega

theorem not_ofValues_underrun (u : TrackNo) : ¬ Event.ofValues (.counterWrap (ctrUnderrunTicks u)) := by
  rintro (⟨c, h⟩ | ⟨j, h⟩ | h)
  · have hval := congrArg Fin.val h
    simp only [ctrUnderrunTicks, ctrClips] at hval
    omega
  · have hval := congrArg Fin.val h
    simp only [ctrUnderrunTicks, ctrRecordsDropped] at hval
    omega
  · exact h

/-- A command that makes a tick has counted no underrun tick before it. -/
theorem State.TickStarts.underruns (h : s.TickStarts k o s0) (u : TrackNo) :
    s0.events.counters[ctrUnderrunTicks u] = s.events.counters[ctrUnderrunTicks u] := by
  obtain ⟨-, ⟨rfl, -, rfl⟩ | ⟨rfl, -, rfl⟩ | ⟨us, f, rfl, -, -, -, -, -, -, rfl⟩⟩ := h
  · rfl
  · rfl
  · have hcount := (accepting_accepted (f := f) (s := s.toHunt)).counters (ctrUnderrunTicks u)
    have hne (i : CounterNo) (hi : i.val < 40) : ctrUnderrunTicks u ≠ i := fun heq => by
      have hval := congrArg Fin.val heq
      simp only [ctrUnderrunTicks] at hval
      omega
    rw [if_neg (hne _ (by decide)), if_neg (hne _ (by decide)), if_neg (hne _ (by decide))] at hcount
    exact hcount.trans (BitVec.add_zero _)

/-- The state in which the tracks take their turns at a settled tick. -/
theorem State.Settled.turns (h : s.Settled) : ∃ j, s.judged = tracksTick j ∧ j.replay = s.replay ∧ j.setup = s.setup
    ∧ ∀ u, j.events.counters[ctrUnderrunTicks u] = s.events.counters[ctrUnderrunTicks u] := by
  have hreplay : s.opened.replay = s.replay := by
    unfold State.opened
    rw [h.closeTick]
    exact (clearPort_moves s).replay
  have hevents : s.opened.events = s.events := by
    unfold State.opened
    rw [h.closeTick]
    exact (clearPort_moves s).events
  refine ⟨judge s.opened, rfl, ?_, ?_, fun u => ?_⟩
  · rw [(judge_moves _).replay, hreplay]
  · rw [(judge_moves _).setup, opened_setup]
  · rw [(judge_logs s.opened).counters _ (not_ofFlow_underrun u), hevents]

/-- What a settled tick, its count standing open, makes of a track. -/
theorem State.Settled.tick_track (h : s.Settled) (u : TrackNo) : (tick .eventsFirst s).track u = (s.track u).ticked s.replay.mem
    ∧ ((s.track u).state = .underrun → (tick .eventsFirst s).events.counters[ctrUnderrunTicks u]
        = s.events.counters[ctrUnderrunTicks u] + 1)
    ∧ ((s.track u).state = .playing → s.setup.masks.getLsbD 3 = false →
        (((s.track u).ticked s.replay.mem).state = .ended → (tick .eventsFirst s).events.flags.getLsbD (27 + u.val) = true)
        ∧ (((s.track u).ticked s.replay.mem).state = .underrun →
          (tick .eventsFirst s).events.flags.getLsbD (35 + u.val) = true)) := by
  obtain ⟨j, hj, hreplay, hsetup, hcounts⟩ := h.turns
  obtain ⟨r, hr, htrack, hcount, hlast, hrises⟩ := tracksTick_turn u j
  have hlogs := tick_logs s .eventsFirst
  have hjtrack : j.track u = s.track u := by unfold State.track; rw [hreplay]
  have hmem : r.replay.mem = s.replay.mem := by rw [hr.replay_mem, hreplay]
  have hrtrack : r.track u = s.track u := htrack.trans hjtrack
  refine ⟨?_, fun hst => ?_, fun hst hm => ?_⟩
  · have hdelivered : (tick .eventsFirst s).replay = s.judged.replay := by
      rw [tick_eventsFirst, tickCore_eq, deliverTick_replay]
    unfold State.track
    rw [hdelivered, hj]
    have hticked := tracksTick_track j u
    rw [hjtrack, hreplay] at hticked
    exact hticked
  · rw [hlogs.counters _ (not_ofValues_underrun u), hj, hlast, trackTick_underrun (by rw [hrtrack]; exact hst), hcount, hcounts]
  · have hmask : r.setup.masks.getLsbD 3 = false := by rw [hr.setup, hsetup]; exact hm
    refine ⟨fun hend => hlogs.rises _ ?_, fun hend => hlogs.rises _ ?_⟩
    · rw [hj]
      exact hrises _ (trackTick_ended (by rw [hrtrack]; exact hst) (by rw [hrtrack, hmem]; exact hend) hmask)
    · rw [hj]
      exact hrises _ (trackTick_runs_short (by rw [hrtrack]; exact hst) (by rw [hrtrack, hmem]; exact hend) hmask)

end

/-- Settles O32. -/
theorem tickSettlesEachTrack : Obligations.TickSettlesEachTrack := by
  intro s s0 k u hstart hsettled hlegal x m at_ ring
  obtain ⟨hsetup, -, -, -, hreplay, -⟩ := hstart.keeps
  have hx : s0.track u = x := by unfold State.track; rw [hreplay]; rfl
  have hm : s0.replay.mem = m := by rw [hreplay]
  obtain ⟨htrack, hcount, hflags⟩ := hsettled.tick_track u
  rw [hx, hm] at htrack
  rw [hx] at hcount
  rw [hx, hm, hsetup] at hflags
  refine ⟨_, hstart.exec, fun hmode => ?_, fun hmode => ?_, fun hst => ?_, fun hst hp => ?_, fun hst hp hmode => ?_,
    fun hst hp hmode => ?_, fun hst => ?_⟩
  · rw [htrack, ticked_stored hmode]
    refine ⟨settleStored_sample, fun hst hi => ⟨fun hn => ?_, fun hn hl => ?_, fun hn hl => ?_⟩⟩
    · exact settleStored_between hst hi (nextSample?_next hn)
    · exact settleStored_between hst hi (nextSample?_loop hn hl)
    · exact settleStored_last (nextSample?_once hn hl)
  · rw [htrack, ticked_fed hmode]
    exact ⟨settleFed_empty, settleFed_first, settleFed_between⟩
  · rw [htrack]
    exact ticked_not_playing hst
  · rw [htrack]
    exact ticked_within hst hp
  · rw [htrack]
    have hover := ticked_over (m := m) hst hp
    refine ⟨fun hn => ?_, fun hn hl => ?_, fun hn hl => ⟨?_, fun hmask => ?_⟩⟩
    · exact hover.trans (endSpan_stored_next hmode hn)
    · exact hover.trans (endSpan_stored_loop hmode hn hl)
    · exact hover.trans (endSpan_stored_once hmode hn hl)
    · refine (hflags hst hmask).1 ?_
      rw [hover.trans (endSpan_stored_once hmode hn hl)]
  · rw [htrack]
    have hover := ticked_over (m := m) hst hp
    refine ⟨fun hn => ?_, fun hn => ⟨?_, fun hmask => ?_⟩⟩
    · exact hover.trans (endSpan_fed_next hmode hn)
    · exact hover.trans (endSpan_fed_short hmode hn)
    · refine (hflags hst hmask).2 ?_
      rw [hover.trans (endSpan_fed_short hmode hn)]
  · rw [hcount hst, hstart.underruns]

end Sys2Proof.Machine
end

section
/-! WRITE RECORD over any table: the checks every table shares, the groups of the written words and their decoding (10.2); and
the writes of the Setup record (10.4) and of the Slot Map (2.2). -/

namespace Sys2Proof.Machine

/-! ### The written words, record by record -/

theorem groups_one (w : Nat) {ws : List Word} (h : ws.length = w) : groups w 1 ws = [ws] := by
  subst h
  rw [groups, groups, List.take_length]

theorem groups_flatMap {α : Type} {w : Nat} {f : α → List Word} :
    ∀ {xs : List α}, (∀ x ∈ xs, (f x).length = w) → groups w xs.length (xs.flatMap f) = xs.map f
  | [], _ => rfl
  | x :: xs, h => by
    have hx : (f x).length = w := h x (List.mem_cons_self ..)
    have hxs := groups_flatMap (xs := xs) fun y hy => h y (List.mem_cons_of_mem _ hy)
    rw [List.flatMap_cons, List.length_cons, groups, ← hx, List.take_left, List.drop_left, hx, hxs, List.map_cons]

theorem groups_flatten {w : Nat} : ∀ {n : Nat} {ws : List Word}, ws.length = n * w → (groups w n ws).flatten = ws
  | 0, ws, h => by
    rw [List.eq_nil_of_length_eq_zero (h.trans (Nat.zero_mul w))]
    rfl
  | n + 1, ws, h => by
    have hrest : (ws.drop w).length = n * w := by
      rw [List.length_drop, h]
      exact (congrArg (· - w) (Nat.succ_mul n w)).trans (Nat.add_sub_cancel ..)
    rw [groups, List.flatten_cons, groups_flatten hrest, List.take_append_drop]

theorem length_flatMap_words {α : Type} {w : Nat} {f : α → List Word} :
    ∀ {xs : List α}, (∀ x ∈ xs, (f x).length = w) → (xs.flatMap f).length = xs.length * w
  | [], _ => (Nat.zero_mul w).symm
  | x :: xs, h => by
    rw [List.flatMap_cons, List.length_append, h x (List.mem_cons_self ..),
      length_flatMap_words fun y hy => h y (List.mem_cons_of_mem _ hy), List.length_cons, Nat.succ_mul, Nat.add_comm]

theorem decodeAll_one {α : Type} {f : List Word → Option α} {g : List Word} {x : α} (h : f g = some x) :
    decodeAll f [g] = some [x] := by
  rw [decodeAll, h]
  rfl

theorem decodeAll_map {α : Type} {f : List Word → Option α} {words : α → List Word} :
    ∀ {xs : List α}, (∀ x ∈ xs, f (words x) = some x) → decodeAll f (xs.map words) = some xs
  | [], _ => rfl
  | x :: xs, h => by
    rw [List.map_cons, decodeAll, h x (List.mem_cons_self ..), decodeAll_map fun y hy => h y (List.mem_cons_of_mem _ hy)]

theorem decodeAll_none {α : Type} {f : List Word → Option α} {g : List Word} (hg : f g = none) :
    ∀ {gs : List (List Word)}, g ∈ gs → decodeAll f gs = none
  | h :: gs, hmem => by
    rw [decodeAll]
    rcases List.mem_cons.1 hmem with rfl | hmem
    · rw [hg]
    · rw [decodeAll_none hg hmem]
      cases f h <;> rfl

/-! ### A WRITE RECORD that passes the shared checks, and one that does not -/

/-- What a WRITE RECORD of a table passes before the table's own rule is asked (10.2). -/
structure Request.FitsTable (r : Request) (object size words : Nat) : Prop where
  code : r.code = 2
  object : r.object = object
  index : r.index < size
  count : r.index + r.count ≤ size
  length : r.data.length = r.count * words

section
variable {s t : State} {r : Request} {object size words : Nat} {store : Nat → List (List Word) → State → Answer}

theorem Request.FitsTable.writeRow (h : r.FitsTable object size words) : Machine.writeRow object r = true :=
  writeRow_iff.2 ⟨h.code, .inl h.object⟩

theorem Request.FitsTable.writeTable (h : r.FitsTable object size words) (s : State) :
    Machine.writeTable object size words store r s = store r.index (groups words r.count r.data) s := by
  have hroom : ¬ (size ≤ r.index ∨ size < r.index + r.count) := by
    have hi := h.index
    have hc := h.count
    omega
  rw [Machine.writeTable, if_neg (not_not.2 h.object), if_neg hroom, if_neg (not_not.2 h.length)]

theorem write_stored (hs : s.serves r) (h : r.FitsTable object size words)
    (hstore : store r.index (groups words r.count r.data) s.toHunt = done [] t) :
    request (writeRow object) (writeTable object size words store) s = .next (t.answered r .ok []) :=
  request_done hs h.writeRow ((h.writeTable _).trans hstore)

theorem write_refused {st : Status} (hs : s.serves r) (h : r.FitsTable object size words)
    (hstore : store r.index (groups words r.count r.data) s.toHunt = refuse st s.toHunt) :
    request (writeRow object) (writeTable object size words store) s = .next (s.toHunt.answered r st []) :=
  request_refused hs h.writeRow ((h.writeTable _).trans hstore)

theorem writeTable_noTable (h : r.object ≠ object) : writeTable object size words store r s = refuse .noTable s := by
  rw [writeTable, if_pos h]

theorem writeTable_noIndex (ho : r.object = object) (h : size ≤ r.index ∨ size < r.index + r.count) :
    writeTable object size words store r s = refuse .noIndex s := by
  rw [writeTable, if_neg (not_not.2 ho), if_pos h]

theorem writeTable_range (ho : r.object = object) (hi : r.index < size) (hc : r.index + r.count ≤ size)
    (hl : r.data.length ≠ r.count * words) : writeTable object size words store r s = refuse .range s := by
  rw [writeTable, if_neg (not_not.2 ho), if_neg (by omega), if_pos hl]

end

theorem storeDecoded_done {α : Type} {decode : List Word → Option α} {put : Nat → List α → State → State} {i : Nat}
    {gs : List (List Word)} {xs : List α} (s : State) (h : decodeAll decode gs = some xs) :
    storeDecoded decode put i gs s = done [] (put i xs s) := by
  rw [storeDecoded, h]

/-! ### The Setup record -/

theorem clampNat_eq (lo hi n : Nat) : clampNat lo hi n = max lo (min hi n) := rfl

/-- What a Setup record holds of the words it was written with (10.4). -/
theorem setupOf?_fields {w1 p st sk e m : Word} {x : Setup} (h : setupOf? [w1, p, st, sk, e, m] = some x) :
    x.period = clampNat 5 10000 p.toNat ∧ x.starve = clampNat 10 65535 st.toNat ∧ x.staleLimit = bits sk 8 8
      ∧ x.recovery = bits sk 0 8 ∧ x.expected = e.toNat ∧ x.masks = BitVec.ofNat 8 m.toNat := by
  simp only [setupOf?, Option.bind_eq_bind, Option.bind_eq_some_iff] at h
  obtain ⟨source, -, hold, -, h⟩ := h
  split at h
  · cases h
  · cases h
    exact ⟨rfl, rfl, rfl, rfl, rfl, rfl⟩

theorem putSetup_keep {s : State} {x : Setup} (h : x.source = s.setup.source) :
    putSetup x s = { s with setup := x, tx := { s.tx with
      report := s.tx.report || (s.setup.hold && !x.hold && s.events.summary != 0) } } := by
  rw [putSetup, if_pos h]
  cases s.setup.hold && !x.hold with
  | false => rw [Bool.false_and, Bool.or_false]; rfl
  | true => rfl

theorem putSetup_change {s : State} {x : Setup} (h : x.source ≠ s.setup.source) :
    putSetup x s = { s with
      setup := x
      ingress := { s.ingress with flow := .recovering, freshRun := 0, flowDue := none }
      timer := { s.timer with interval := some (s.timer.interval.getD x.period), heldTick := false, starve := none }
      tx := { s.tx with report := s.tx.report || (s.setup.hold && !x.hold && s.events.summary != 0) } } := by
  rw [putSetup, if_neg h]
  cases s.setup.hold && !x.hold with
  | false => rw [Bool.false_and, Bool.or_false]; rfl
  | true => rfl

/-- Settles O47. -/
theorem setupWriteActsOnChangedFields : Obligations.SetupWriteActsOnChangedFields := by
  intro s r w1 p st sk e m x hs hcode hobj hindex hcount hdata hx
  have hlen : r.data.length = 6 := by rw [hdata]; rfl
  have hfits : r.FitsTable 9 1 6 := ⟨hcode, hobj, by omega, by omega, by omega⟩
  have hgroups : groups 6 r.count r.data = [r.data] := by rw [hcount]; exact groups_one 6 hlen
  have hwrite : exec .writeRecordSetup s = .next ((putSetup x s.toHunt).answered r .ok []) := by
    refine write_stored hs hfits ?_
    rw [hgroups]
    exact storeDecoded_done _ (decodeAll_one hx)
  refine ⟨?_, ?_⟩
  · obtain ⟨hperiod, hstarve, hstale, hrecovery, hexpected, hmasks⟩ := setupOf?_fields (hdata ▸ hx)
    have hsk := sk.isLt
    refine ⟨hperiod, hstarve, hstale.trans ?_, hrecovery.trans ?_, hexpected, hmasks.trans ?_⟩
    · rw [bits]; omega
    · rw [bits]; omega
    · exact BitVec.ofNat_toNat ..
  · intro report
    exact ⟨fun hsame => hwrite.trans (by rw [putSetup_keep (s := s.toHunt) hsame]; rfl),
      fun hother => hwrite.trans (by rw [putSetup_change (s := s.toHunt) hother]; rfl)⟩

/-! ### The Slot Map -/

theorem mapEntryOf?_mapEntryWords (e : Option Chan) : mapEntryOf? (mapEntryWords e) = some e := by
  cases e with
  | none => rfl
  | some c =>
    have hc := c.isLt
    have hword : (word c.val).toNat = c.val := word_toNat_of_lt (by omega)
    change (if (word c.val).toNat = 255 then some none else (index? 32 (word c.val).toNat).map some) = _
    rw [hword, if_neg (by omega), index?_val]
    rfl

theorem written?_eq_getD {α : Type} {i k : Nat} {xs : List α} (d : α) :
    (written? i xs k).getD d = if i ≤ k ∧ k < i + xs.length then xs.getD (k - i) d else d := by
  unfold written?
  by_cases hi : i ≤ k
  · by_cases hk : k < i + xs.length
    · rw [if_pos hi, if_pos ⟨hi, hk⟩, List.getD_eq_getElem?_getD]
    · rw [if_pos hi, if_neg (fun h => hk h.2), List.getElem?_eq_none (by omega), Option.getD_none]
  · rw [if_neg hi, if_neg (fun h => hi h.1), Option.getD_none]

theorem getElem_putAll_getD {α : Type} {n : Nat} (v : Vector α n) (i : Nat) (xs : List α) (k : Fin n) :
    (putAll v i xs)[k] = if i ≤ k.val ∧ k.val < i + xs.length then xs.getD (k.val - i) v[k] else v[k] := by
  rw [getElem_putAll, written?_eq_getD]

theorem getD_of_lt {α : Type} {xs : List α} {k : Nat} (d e : α) (h : k < xs.length) : xs.getD k d = xs.getD k e := by
  rw [List.getD_eq_getElem _ _ h, List.getD_eq_getElem _ _ h]

theorem putAll_eq {α : Type} {n : Nat} {v w : Vector α n} {i : Nat} {xs : List α}
    (h : ∀ k : Fin n, w[k] = if i ≤ k.val ∧ k.val < i + xs.length then xs.getD (k.val - i) v[k] else v[k]) :
    putAll v i xs = w :=
  Vector.ext fun k hk => (getElem_putAll_getD v i xs ⟨k, hk⟩).trans (h ⟨k, hk⟩).symm

theorem storeSlotMap_done {i : Nat} {gs : List (List Word)} {es : List (Option Chan)} {m : Vector (Option Chan) 32} {s : State}
    (hgs : decodeAll mapEntryOf? gs = some es) (hm : putAll s.ingress.slotMap i es = m) (hd : mapDistinct m = true) :
    storeSlotMap i gs s = done [] { s with ingress := { s.ingress with slotMap := m } } := by
  rw [storeSlotMap, hgs]
  exact (if_pos (hm ▸ hd)).trans (by rw [hm])

theorem storeSlotMap_duplicate {i : Nat} {gs : List (List Word)} {es : List (Option Chan)} {m : Vector (Option Chan) 32}
    {s : State} (hgs : decodeAll mapEntryOf? gs = some es) (hm : putAll s.ingress.slotMap i es = m)
    (hd : mapDistinct m = false) : storeSlotMap i gs s = refuse .duplicate s := by
  rw [storeSlotMap, hgs]
  exact if_neg (by rw [hm, hd]; exact Bool.false_ne_true)

/-- Settles O44. -/
theorem slotMapWriteKeepsChannelsDistinct : Obligations.SlotMapWriteKeepsChannelsDistinct := by
  intro s r es m hs hcode hobj hindex hcount hroom hdata hm
  have hword : ∀ e ∈ es, (mapEntryWords e).length = 1 := fun e _ => by cases e <;> rfl
  have hflat : r.data = es.flatMap mapEntryWords := by
    rw [hdata, ← List.flatMap_singleton' (es.map _), List.flatMap_map]
    exact congrArg (es.flatMap ·) (funext fun e => by cases e <;> rfl)
  have hlen : r.data.length = r.count * 1 := by rw [hflat, length_flatMap_words hword, hcount]
  have hfits : r.FitsTable 2 32 1 := ⟨hcode, hobj, hindex, hcount ▸ hroom, hlen⟩
  have hdecode : decodeAll mapEntryOf? (groups 1 r.count r.data) = some es := by
    rw [hcount, hflat, groups_flatMap hword]
    exact decodeAll_map fun e _ => mapEntryOf?_mapEntryWords e
  have hput : putAll s.toHunt.ingress.slotMap r.index es = m := putAll_eq fun k => by
    rw [hm k]
    refine ite_congr rfl (fun h => getD_of_lt _ _ (by omega)) fun _ => rfl
  refine ⟨fun hdistinct => ?_, fun i j c hi hj hne => ?_⟩
  · exact write_stored hs hfits (storeSlotMap_done hdecode hput (mapDistinct_iff.2 hdistinct))
  · refine write_refused hs hfits (storeSlotMap_duplicate hdecode hput ?_)
    exact Bool.eq_false_iff.2 fun hd => hne (mapDistinct_iff.1 hd i j c hi hj)

end Sys2Proof.Machine
end

section
/-! The records' words read back: each code, each field at its bits, each record (12.4). -/

namespace Sys2Proof.Machine

/-! ### Codes -/

theorem flagOf?_flagCode (b : Bool) : flagOf? (flagCode b) = some b := by cases b <;> rfl
theorem starvePolicyOf?_num (x : StarvePolicy) : starvePolicyOf? x.num = some x := by cases x <;> rfl
theorem overlayKindOf?_num (x : OverlayKind) : overlayKindOf? x.num = some x := by cases x <;> rfl
theorem pinConditionOf?_num (x : PinCondition) : pinConditionOf? x.num = some x := by cases x <;> rfl
theorem tapOf?_num (x : Tap) : tapOf? x.num = some x := by cases x <;> rfl
theorem watchModeOf?_num (x : WatchMode) : watchModeOf? x.num = some x := by cases x <;> rfl
theorem rearmOf?_num (x : Rearm) : rearmOf? x.num = some x := by cases x <;> rfl
theorem storeModeOf?_num (x : StoreMode) : storeModeOf? x.num = some x := by cases x <;> rfl
theorem trackModeOf?_num (x : TrackMode) : trackModeOf? x.num = some x := by cases x <;> rfl
theorem tickSourceOf?_num (x : TickSource) : tickSourceOf? x.num = some x := by cases x <;> rfl

theorem flagCode_lt (b : Bool) : flagCode b < 2 := by cases b <;> decide
theorem starvePolicy_num_lt (x : StarvePolicy) : x.num < 3 := by cases x <;> decide
theorem overlayKind_num_lt (x : OverlayKind) : x.num < 8 := by cases x <;> decide
theorem pinCondition_num_lt (x : PinCondition) : x.num < 5 := by cases x <;> decide
theorem tap_num_lt (x : Tap) : x.num < 2 := by cases x <;> decide
theorem watchMode_num_lt (x : WatchMode) : x.num < 6 := by cases x <;> decide
theorem rearm_num_lt (x : Rearm) : x.num < 2 := by cases x <;> decide
theorem storeMode_num_lt (x : StoreMode) : x.num < 2 := by cases x <;> decide
theorem trackMode_num_lt (x : TrackMode) : x.num < 2 := by cases x <;> decide
theorem tickSource_num_lt (x : TickSource) : x.num < 2 := by cases x <;> decide

theorem watchCode_lt (x : Option WatchNo) : watchCode x < 9 := by
  cases x with
  | none => decide
  | some w => exact w.isLt.trans (by decide)

theorem watchOf?_watchCode (x : Option WatchNo) : watchOf? (watchCode x) = some x := by
  cases x with
  | none => rfl
  | some w =>
    have hw := w.isLt
    change (if w.val = 8 then some none else (index? 8 w.val).map some) = _
    rw [if_neg (by omega), index?_val]
    rfl

/-! ### CHANNEL -/

theorem trackBits_lt (r : ChannelRecord) : r.trackBits < 16 := by
  unfold ChannelRecord.trackBits
  split
  next t _ => exact t.isLt.trans (by decide)
  next => exact r.spare.isLt

theorem source_num_lt (x : Source) : x.num < 3 := by cases x <;> simp [Source.num]

theorem sourceOf?_num {r : ChannelRecord} : sourceOf? r.source.num r.trackBits = some r.source := by
  unfold ChannelRecord.trackBits
  cases r.source with
  | live => rfl
  | code => rfl
  | track t =>
    change (index? 8 t.val).map Source.track = _
    rw [index?_val]
    rfl

theorem spareOf_trackBits {r : ChannelRecord} (h : (∃ t, r.source = .track t) → r.spare = 0) :
    spareOf r.source r.trackBits = r.spare := by
  unfold spareOf ChannelRecord.trackBits
  cases hs : r.source with
  | live => exact Fin.ext (Nat.mod_eq_of_lt r.spare.isLt)
  | code => exact Fin.ext (Nat.mod_eq_of_lt r.spare.isLt)
  | track t => exact (h ⟨t, hs⟩).symm

theorem clampSafe_of_between {lo hi v : Word} (hlo : lo.toInt ≤ v.toInt) (hhi : v.toInt ≤ hi.toInt) : clampSafe lo hi v = v := by
  rw [clampSafe, if_neg (not_lt.2 hlo), if_neg (not_lt.2 hhi)]

theorem channelOf?_words {r : ChannelRecord} (h : r.Legal) (hspare : (∃ t, r.source = .track t) → r.spare = 0) :
    channelOf? r.words = some r := by
  obtain ⟨hlo, hhi, htrim, htrim'⟩ := h
  have henabled := flagCode_lt r.enabled
  have hstarve := starvePolicy_num_lt r.starve
  have hsource := source_num_lt r.source
  have htrack := trackBits_lt r
  simp only [channelOf?, ChannelRecord.words, List.getD_cons_zero, List.getD_cons_succ, bits_word]
  rw [show _ / 2 ^ 14 % 2 ^ 2 = flagCode r.enabled by omega, show _ / 2 ^ 12 % 2 ^ 2 = r.starve.num by omega,
    show _ / 2 ^ 10 % 2 ^ 2 = r.source.num by omega, show _ / 2 ^ 6 % 2 ^ 4 = r.trackBits by omega,
    flagOf?_flagCode, starvePolicyOf?_num, sourceOf?_num]
  change (if _ then none else if _ then none else some _) = _
  rw [if_neg (by omega), if_neg (by omega), spareOf_trackBits hspare, clampSafe_of_between hlo hhi]

/-! ### OVERLAY -/

theorem overlayOf?_words {r : OverlayRecord} (h : r.Legal) : overlayOf? r.words = some r := by
  obtain ⟨hlimit, ⟨hon, hon'⟩, ⟨hoff, hoff'⟩, ⟨hcoarse, hcoarse'⟩, hlen, hlen'⟩ := h
  have hkind := overlayKind_num_lt r.kind
  have hpin := pinCondition_num_lt r.pin
  have hcue := flagCode_lt r.cue
  have htrack := r.track.isLt
  have hpartner := r.partner.isLt
  simp only [overlayOf?, OverlayRecord.words, List.getD_cons_zero, List.getD_cons_succ, bits_word]
  rw [show (r.kind.num * 256 + r.pin.num) % 65536 / 2 ^ 8 % 2 ^ 8 = r.kind.num by omega,
    show (r.kind.num * 256 + r.pin.num) % 65536 / 2 ^ 0 % 2 ^ 8 = r.pin.num by omega,
    show (r.track.val * 256 + flagCode r.cue) % 65536 / 2 ^ 8 % 2 ^ 8 = r.track.val by omega,
    show (r.track.val * 256 + flagCode r.cue) % 65536 / 2 ^ 0 % 2 ^ 8 = flagCode r.cue by omega,
    show (r.coarse * 256 + r.partner.val) % 65536 / 2 ^ 8 % 2 ^ 8 = r.coarse by omega,
    show (r.coarse * 256 + r.partner.val) % 65536 / 2 ^ 0 % 2 ^ 8 = r.partner.val by omega,
    word_toNat_of_lt (show r.limit < 65536 by omega), word_toNat_of_lt (show r.gapOn < 65536 by omega),
    word_toNat_of_lt (show r.gapOff < 65536 by omega), word_toNat_of_lt (show r.patternLength < 65536 by omega),
    overlayKindOf?_num, pinConditionOf?_num, index?_val, flagOf?_flagCode, index?_val]
  change (if _ then none else if _ then none else some _) = _
  rw [if_neg (by omega), if_neg (by omega)]

/-! ### WATCH -/

theorem watchRecordOf?_words {r : WatchRecord} (h1 : 1 ≤ r.persistence) (h2 : r.persistence ≤ 255)
    (h : (r.mode = .inside ∨ r.mode = .outside) → r.t1.toInt ≤ r.t2.toInt) : watchRecordOf? r.words = some r := by
  have henabled := flagCode_lt r.enabled
  have htap := tap_num_lt r.tap
  have hmode := watchMode_num_lt r.mode
  have hrearm := rearm_num_lt r.rearm
  have hstore := storeMode_num_lt r.store
  have hreport := flagCode_lt r.report
  have hchannel := r.channel.isLt
  simp only [watchRecordOf?, WatchRecord.words, List.getD_cons_zero, List.getD_cons_succ, bits_word]
  rw [show _ / 2 ^ 14 % 2 ^ 2 = flagCode r.enabled by omega, show _ / 2 ^ 12 % 2 ^ 2 = r.tap.num by omega,
    show _ / 2 ^ 9 % 2 ^ 3 = r.mode.num by omega, show _ / 2 ^ 7 % 2 ^ 2 = r.rearm.num by omega,
    show _ / 2 ^ 5 % 2 ^ 2 = r.store.num by omega, show _ / 2 ^ 3 % 2 ^ 2 = flagCode r.report by omega,
    show _ / 2 ^ 8 % 2 ^ 8 = r.channel.val by omega, show _ / 2 ^ 0 % 2 ^ 8 = r.persistence by omega,
    flagOf?_flagCode, tapOf?_num, watchModeOf?_num, rearmOf?_num, storeModeOf?_num, flagOf?_flagCode, index?_val]
  change (if _ then none else if _ then none else some _) = _
  rw [if_neg (by omega), if_neg fun ⟨hm, hlt⟩ => absurd (h hm) (not_le.2 hlt)]

/-! ### TRACK -/

theorem trackOf?_words {d : TrackDescriptor} (h : d.Legal) : trackOf? d.words = some d := by
  obtain ⟨hsize, hregion, hdiv, hdiv'⟩ := h
  have hmode := trackMode_num_lt d.mode
  have hloop := flagCode_lt d.loop
  have hinterpolate := flagCode_lt d.interpolate
  have hword : (if (word d.size).toNat = 0 then 65536 else (word d.size).toNat) = d.size := by
    rw [word_toNat]
    split <;> omega
  simp only [trackOf?, TrackDescriptor.words, List.getD_cons_zero, List.getD_cons_succ, bits_word]
  rw [hword, show _ / 2 ^ 14 % 2 ^ 2 = d.mode.num by omega, show _ / 2 ^ 12 % 2 ^ 2 = flagCode d.loop by omega,
    show _ / 2 ^ 10 % 2 ^ 2 = flagCode d.interpolate by omega, word_toNat_of_lt (show d.base < 65536 by omega),
    word_toNat_of_lt (show d.divider < 65536 by omega), trackModeOf?_num, flagOf?_flagCode, flagOf?_flagCode]
  change (if _ then none else some _) = _
  rw [if_neg (by omega)]

/-! ### CAPTURE -/

/-- The eight list words of a Capture Set record's words. -/
theorem ofFn_getD_drop3 (a b c : Word) (list : List Word) (h : list.length = 8) :
    (Vector.ofFn fun i : Fin 8 => (a :: b :: c :: list).getD (3 + i.val) 0).toList = list := by
  refine List.ext_getElem (by rw [Vector.length_toList, h]) fun i hi hi' => ?_
  rw [Vector.getElem_toList, Vector.getElem_ofFn, Nat.add_comm]
  exact List.getD_eq_getElem _ _ hi'

theorem captureOf?_words {r : CaptureRecord} (hn : 1 ≤ r.channels) (hn' : r.channels ≤ 8) (hm : 1 ≤ r.decimation)
    (hm' : r.decimation ≤ 256) (hlen : r.length < 65536) (hlist : ∀ v ∈ r.list.toList.take r.channels, v.toNat ≤ 31) :
    captureOf? r.words = some r := by
  have htap := tap_num_lt r.tap
  have hstart := watchCode_lt r.start
  have hstop := watchCode_lt r.stop
  have hvec : (Vector.ofFn fun i : Fin 8 => r.words.getD (3 + i.val) 0) = r.list :=
    Vector.toList_inj.1 (ofFn_getD_drop3 _ _ _ _ r.list.size_toArray)
  have hany : (r.list.toList.take r.channels).any (fun v => decide (31 < v.toNat)) = false := by
    rw [List.any_eq_false]
    exact fun v hv => by simpa using hlist v hv
  simp only [captureOf?, hvec]
  simp only [CaptureRecord.words, List.getD_cons_zero, List.getD_cons_succ, bits_word]
  rw [show _ / 2 ^ 12 % 2 ^ 4 = r.channels by omega, show _ / 2 ^ 10 % 2 ^ 2 = r.tap.num by omega,
    show _ / 2 ^ 6 % 2 ^ 4 = watchCode r.start by omega, show _ / 2 ^ 2 % 2 ^ 4 = watchCode r.stop by omega,
    word_toNat_of_lt (show r.decimation < 65536 by omega), word_toNat_of_lt hlen, hany, tapOf?_num, watchOf?_watchCode,
    watchOf?_watchCode]
  change (if _ then none else if _ then none else some _) = _
  rw [if_neg (by omega), if_neg Bool.false_ne_true]

/-! ### SETUP -/

theorem clampNat_of_between {lo hi n : Nat} (h : lo ≤ n) (h' : n ≤ hi) : clampNat lo hi n = n := by
  rw [clampNat, min_eq_right h', max_eq_right h]

theorem setupOf?_words {x : Setup} (h : x.Legal) : setupOf? x.words = some x := by
  obtain ⟨⟨hp, hp'⟩, ⟨hst, hst'⟩, ⟨hsl, hsl'⟩, ⟨hk, hk'⟩, he, he'⟩ := h
  have hsource := tickSource_num_lt x.source
  have hhold := flagCode_lt x.hold
  have hmasks := x.masks.isLt
  simp only [setupOf?, Setup.words, List.getD_cons_zero, List.getD_cons_succ, bits_word]
  rw [show _ / 2 ^ 14 % 2 ^ 2 = x.source.num by omega, show _ / 2 ^ 12 % 2 ^ 2 = flagCode x.hold by omega,
    show _ / 2 ^ 8 % 2 ^ 8 = x.staleLimit by omega, show _ / 2 ^ 0 % 2 ^ 8 = x.recovery by omega,
    word_toNat_of_lt (show x.period < 65536 by omega), word_toNat_of_lt (show x.starve < 65536 by omega),
    word_toNat_of_lt (show x.expected < 65536 by omega), word_toNat_of_lt (show x.masks.toNat < 65536 by omega),
    clampNat_of_between hp hp', clampNat_of_between hst hst', BitVec.ofNat_toNat, BitVec.setWidth_eq, tickSourceOf?_num,
    flagOf?_flagCode]
  change (if _ then none else some _) = _
  rw [if_neg (by omega)]

end Sys2Proof.Machine
end

section
/-! Scenario Blocks and Episode Entries as they stand in the stores (6.1, 12.4), and the round trip of every record. -/

namespace Sys2Proof.Machine

theorem readAll_two (m : Mem) (a : Nat) : Mem.readAll m a 2 = [Mem.read m a, Mem.read m (a + 1)] := rfl

theorem readAll_five (m : Mem) (a : Nat) :
    Mem.readAll m a 5 = [Mem.read m a, Mem.read m (a + 1), Mem.read m (a + 2), Mem.read m (a + 3), Mem.read m (a + 4)] := rfl

/-- What the end action adds to a block's first word (12.4). -/
def EndAction.bit2 : EndAction → Nat
  | .restore => 0 | .adopt => 4

/-- The last eight bits of a block's fifth word: a follow-on block with its mark, or ignored bits (12.4). -/
def nextBits (next : Option Nat) (spare : Nat) : Nat :=
  match next with
  | some m => 128 + m
  | none => spare

theorem endAction_bit2 (x : EndAction) : x.bit2 = 0 ∧ x = .restore ∨ x.bit2 = 4 ∧ x = .adopt := by cases x <;> simp [EndAction.bit2]

theorem nextBits_lt {next : Option Nat} {spare : Nat} (hn : ∀ m ∈ next, m < 128) (hs : spare < 128) :
    nextBits next spare < 256 := by
  cases next with
  | none => exact hs.trans (by decide)
  | some m => exact Nat.add_lt_add_left (hn m rfl) 128

theorem next_of_nextBits {next : Option Nat} {spare : Nat} (hn : ∀ m ∈ next, m < 128) (hs : spare < 128) :
    (if nextBits next spare / 2 ^ 7 % 2 ^ 1 = 1 then some (nextBits next spare % 2 ^ 7) else none) = next := by
  cases next with
  | none => exact if_neg (by change ¬ spare / 2 ^ 7 % 2 ^ 1 = 1; omega)
  | some m =>
    have hm : m < 128 := hn m rfl
    rw [nextBits, if_pos (by omega)]
    exact congrArg some (by omega)

/-- A block read from its five words, whatever their ignored bits hold. -/
theorem blockOf_words {x : Block} {start spare1 spare3 spare4 spare5 : Nat} (hp : x.priority < 8) (hd : x.delay < 65536)
    (hls : x.listStart < 1024) (hlc : x.listCount < 2048) (hpa : x.passes < 256) (hn : ∀ m ∈ x.next, m < 128)
    (hst : start < 4) (hstart : x.start = startKindOf start) (h1 : spare1 < 4)
    (h5 : spare5 < 128) :
    blockOf [word (x.target.val * 2048 + x.priority * 256 + start * 64 + x.watch.val * 8 + x.endAction.bit2 + spare1),
      word x.delay, word (spare3 * 1024 + x.listStart), word (spare4 * 2048 + x.listCount),
      word (x.passes * 256 + nextBits x.next spare5)] = x := by
  have htarget := x.target.isLt
  have hwatch := x.watch.isLt
  have hnext := nextBits_lt hn h5
  have hmark : (x.passes * 256 + nextBits x.next spare5) % 65536 / 2 ^ 7 % 2 ^ 1 = nextBits x.next spare5 / 2 ^ 7 % 2 ^ 1 := by
    omega
  have hlow : (x.passes * 256 + nextBits x.next spare5) % 65536 / 2 ^ 0 % 2 ^ 7 = nextBits x.next spare5 % 2 ^ 7 := by omega
  have hfollow := next_of_nextBits hn h5
  have haction := endAction_bit2 x.endAction
  simp only [blockOf, List.getD_cons_zero, List.getD_cons_succ, bits_word, word_toNat_of_lt hd, hmark, hlow, hfollow]
  generalize nextBits x.next spare5 = nb at *
  generalize x.endAction.bit2 = eb at *
  obtain ⟨target, priority, startKind, watch, delay, listStart, listCount, passes, endAction, next⟩ := x
  clear hmark hlow hfollow
  dsimp only at *
  rw [Block.mk.injEq]
  refine ⟨Fin.ext (by dsimp only; omega), by omega, ?_, Fin.ext (by dsimp only; omega), rfl, by omega, by omega, by omega, ?_, rfl⟩
  · rw [hstart]
    exact congrArg startKindOf (by omega)
  · rcases haction with ⟨heb, rfl⟩ | ⟨heb, rfl⟩
    · exact if_neg (by omega)
    · exact if_pos (by omega)

/-- An entry read from its two words, whatever its ignored bits hold. -/
theorem entryOf_words {x : Entry} {spare code : Nat} (hd : x.duration < 65536) (hs : spare < 16) (hc : code < 16)
    (hw : x.endWatch = index? 8 code) : entryOf [word (x.overlay.val * 256 + spare * 16 + code), word x.duration] = x := by
  have hoverlay := x.overlay.isLt
  simp only [entryOf, List.getD_cons_zero, List.getD_cons_succ, bits_word, word_toNat_of_lt hd]
  obtain ⟨overlay, duration, endWatch⟩ := x
  dsimp only at *
  rw [Entry.mk.injEq]
  exact ⟨Fin.ext (by dsimp only; omega), rfl, hw ▸ congrArg (index? 8) (by omega)⟩

/-- Settles O41. -/
theorem recordWordsRoundTrip : Obligations.RecordWordsRoundTrip := by
  refine ⟨fun r => channelOf?_words, mapEntryOf?_mapEntryWords, fun r => overlayOf?_words,
    fun r h1 h2 h => watchRecordOf?_words h1 h2 h, fun d => trackOf?_words,
    fun r hn hn' hm hm' hlen hlist => captureOf?_words hn hn' hm hm' hlen hlist, fun x => setupOf?_words, ?_, ?_⟩
  · intro s b x start spare1 spare3 spare4 spare5 hp hd hls hlc hpa hn hst hstart h1 _ _ h5 hw1 hw2 hw3 hw4 hw5
    rw [State.block, readAll_five, hw1, hw2, hw3, hw4, hw5]
    exact blockOf_words hp hd hls hlc hpa hn hst hstart h1 h5
  · intro s e x spare code hd hs hc hwatch hw1 hw2
    rw [State.entry, readAll_two, hw1, hw2]
    exact entryOf_words hd hs hc hwatch

end Sys2Proof.Machine
end

section
/-! What RANGE refuses of the written records, table by table, and the checks of WRITE RECORD (10.2, 12.4). -/

namespace Sys2Proof.Machine

/-! ### Codes that name nothing -/

theorem flagOf?_eq_none {n : Nat} : flagOf? n = none ↔ 1 < n := by unfold flagOf?; split_ifs <;> simp <;> omega
theorem starvePolicyOf?_eq_none {n : Nat} : starvePolicyOf? n = none ↔ 2 < n := by
  unfold starvePolicyOf?; split_ifs <;> simp <;> omega
theorem overlayKindOf?_eq_none {n : Nat} : overlayKindOf? n = none ↔ 7 < n := by
  unfold overlayKindOf?; split_ifs <;> simp <;> omega
theorem pinConditionOf?_eq_none {n : Nat} : pinConditionOf? n = none ↔ 4 < n := by
  unfold pinConditionOf?; split_ifs <;> simp <;> omega
theorem tapOf?_eq_none {n : Nat} : tapOf? n = none ↔ 1 < n := by unfold tapOf?; split_ifs <;> simp <;> omega
theorem watchModeOf?_eq_none {n : Nat} : watchModeOf? n = none ↔ 5 < n := by
  unfold watchModeOf?; split_ifs <;> simp <;> omega
theorem rearmOf?_eq_none {n : Nat} : rearmOf? n = none ↔ 1 < n := by unfold rearmOf?; split_ifs <;> simp <;> omega
theorem storeModeOf?_eq_none {n : Nat} : storeModeOf? n = none ↔ 1 < n := by
  unfold storeModeOf?; split_ifs <;> simp <;> omega
theorem trackModeOf?_eq_none {n : Nat} : trackModeOf? n = none ↔ 1 < n := by
  unfold trackModeOf?; split_ifs <;> simp <;> omega
theorem tickSourceOf?_eq_none {n : Nat} : tickSourceOf? n = none ↔ 1 < n := by
  unfold tickSourceOf?; split_ifs <;> simp <;> omega

theorem index?_eq_none_iff {n i : Nat} : index? n i = none ↔ n ≤ i := by unfold index?; split_ifs <;> simp <;> omega

theorem watchOf?_eq_none {n : Nat} : watchOf? n = none ↔ 8 < n := by
  unfold watchOf?
  split_ifs with h
  · simp [h]
  · rw [Option.map_eq_none_iff, index?_eq_none_iff]
    omega

theorem sourceOf?_eq_none {n t : Nat} : sourceOf? n t = none ↔ 2 < n ∨ n = 2 ∧ 7 < t := by
  unfold sourceOf?
  split_ifs with h0 h1 h2
  · simp [h0]
  · simp [h1]
  · rw [Option.map_eq_none_iff, index?_eq_none_iff]
    omega
  · simp only [true_iff]
    omega

/-- The modes that compare with both thresholds, by their codes. -/
theorem watchModeOf?_interval {n : Nat} {m : WatchMode} (h : watchModeOf? n = some m) :
    (m = .inside ∨ m = .outside) ↔ (n = 2 ∨ n = 3) := by
  unfold watchModeOf? at h
  split_ifs at h <;> cases h <;> simp <;> omega

theorem word_eq_zero_iff {w : Word} : w = 0 ↔ w.toNat = 0 :=
  ⟨fun h => h ▸ rfl, fun h => BitVec.eq_of_toNat_eq h⟩

/-- A decoder of one field after another refuses what a field refuses, or what the rest does. -/
theorem bind_eq_none_iff_or {α β : Type} {o : Option α} {f : α → Option β} {p q : Prop} (ho : o = none ↔ p)
    (hf : ∀ x, o = some x → (f x = none ↔ q)) : (o.bind f = none) ↔ p ∨ q := by
  cases o with
  | none => exact ⟨fun _ => .inl (ho.1 rfl), fun _ => rfl⟩
  | some x => exact (hf x rfl).trans ⟨.inr, fun h => h.resolve_left fun hp => nomatch ho.2 hp⟩

theorem ite_none_some_iff {α : Type} {p : Prop} [Decidable p] {x : α} : (if p then none else some x) = none ↔ p := by
  split_ifs with h <;> simp [h]

theorem ite_none_iff {α : Type} {p q : Prop} [Decidable p] {o : Option α} (h : o = none ↔ q) :
    (if p then none else o) = none ↔ p ∨ q := by
  split_ifs with hp <;> simp [hp, h]

/-! ### The records RANGE refuses -/

theorem channelOf?_eq_none (w1 ins lo hi trim safe : Word) :
    channelOf? [w1, ins, lo, hi, trim, safe] = none
      ↔ (1 < bits w1 14 2 ∨ bits w1 12 2 = 3 ∨ bits w1 10 2 = 3 ∨ (bits w1 10 2 = 2 ∧ 7 < bits w1 6 4)
        ∨ hi.toInt < lo.toInt ∨ trim.toInt < -4096 ∨ 4095 < trim.toInt) := by
  have hstarve := bits_lt w1 12 2
  have hsource := bits_lt w1 10 2
  refine (bind_eq_none_iff_or flagOf?_eq_none fun _ _ => bind_eq_none_iff_or starvePolicyOf?_eq_none fun _ _ =>
    bind_eq_none_iff_or sourceOf?_eq_none fun _ _ => ite_none_iff ite_none_some_iff).trans ?_
  change 1 < bits w1 14 2 ∨ 2 < bits w1 12 2 ∨ (2 < bits w1 10 2 ∨ bits w1 10 2 = 2 ∧ 7 < bits w1 6 4)
    ∨ hi.toInt < lo.toInt ∨ trim.toInt < -4096 ∨ 4095 < trim.toInt ↔ _
  omega

theorem overlayOf?_eq_none (w1 g o h st lm tc a b qp du len : Word) :
    overlayOf? [w1, g, o, h, st, lm, tc, a, b, qp, du, len] = none
      ↔ (7 < bits w1 8 8 ∨ 4 < bits w1 0 8 ∨ 32767 < lm.toNat ∨ 7 < bits tc 8 8 ∨ 1 < bits tc 0 8 ∨ a = 0 ∨ b = 0
          ∨ bits qp 8 8 = 0 ∨ 12 < bits qp 8 8 ∨ 31 < bits qp 0 8 ∨ len = 0 ∨ 16 < len.toNat) := by
  rw [word_eq_zero_iff, word_eq_zero_iff, word_eq_zero_iff]
  refine (bind_eq_none_iff_or overlayKindOf?_eq_none fun _ _ => bind_eq_none_iff_or pinConditionOf?_eq_none fun _ _ =>
    bind_eq_none_iff_or index?_eq_none_iff fun _ _ => bind_eq_none_iff_or flagOf?_eq_none fun _ _ =>
    bind_eq_none_iff_or index?_eq_none_iff fun _ _ => ite_none_iff ite_none_some_iff).trans ?_
  change 7 < bits w1 8 8 ∨ 4 < bits w1 0 8 ∨ 8 ≤ bits tc 8 8 ∨ 1 < bits tc 0 8 ∨ 32 ≤ bits qp 0 8
    ∨ (32767 < lm.toNat ∨ a.toNat = 0 ∨ b.toNat = 0)
    ∨ bits qp 8 8 = 0 ∨ 12 < bits qp 8 8 ∨ len.toNat = 0 ∨ 16 < len.toNat ↔ _
  omega

theorem watchRecordOf?_eq_none (w1 cp t1 t2 m c : Word) :
    watchRecordOf? [w1, cp, t1, t2, m, c] = none
      ↔ (1 < bits w1 14 2 ∨ 1 < bits w1 12 2 ∨ 5 < bits w1 9 3 ∨ 1 < bits w1 7 2 ∨ 1 < bits w1 5 2 ∨ 1 < bits w1 3 2
          ∨ 31 < bits cp 8 8 ∨ bits cp 0 8 = 0 ∨ ((bits w1 9 3 = 2 ∨ bits w1 9 3 = 3) ∧ t2.toInt < t1.toInt)) := by
  refine (bind_eq_none_iff_or flagOf?_eq_none fun _ _ => bind_eq_none_iff_or tapOf?_eq_none fun _ _ =>
    bind_eq_none_iff_or watchModeOf?_eq_none fun _ hmode => bind_eq_none_iff_or rearmOf?_eq_none fun _ _ =>
    bind_eq_none_iff_or storeModeOf?_eq_none fun _ _ => bind_eq_none_iff_or flagOf?_eq_none fun _ _ =>
    bind_eq_none_iff_or index?_eq_none_iff fun _ _ =>
      ite_none_iff (ite_none_some_iff.trans (and_congr_left' (watchModeOf?_interval hmode)))).trans ?_
  change 1 < bits w1 14 2 ∨ 1 < bits w1 12 2 ∨ 5 < bits w1 9 3 ∨ 1 < bits w1 7 2 ∨ 1 < bits w1 5 2 ∨ 1 < bits w1 3 2
    ∨ 32 ≤ bits cp 8 8 ∨ bits cp 0 8 = 0 ∨ ((bits w1 9 3 = 2 ∨ bits w1 9 3 = 3) ∧ t2.toInt < t1.toInt) ↔ _
  omega

theorem trackOf?_eq_none (w1 base size k : Word) :
    trackOf? [w1, base, size, k] = none
      ↔ (1 < bits w1 14 2 ∨ 1 < bits w1 12 2 ∨ 1 < bits w1 10 2 ∨ k = 0 ∨ 256 < k.toNat
          ∨ 65536 < base.toNat + (if size = 0 then 65536 else size.toNat)) := by
  rw [word_eq_zero_iff, if_congr word_eq_zero_iff rfl rfl]
  refine (bind_eq_none_iff_or trackModeOf?_eq_none fun _ _ => bind_eq_none_iff_or flagOf?_eq_none fun _ _ =>
    bind_eq_none_iff_or flagOf?_eq_none fun _ _ => ite_none_some_iff).trans ?_
  change 1 < bits w1 14 2 ∨ 1 < bits w1 12 2 ∨ 1 < bits w1 10 2
    ∨ 65536 < base.toNat + (if size.toNat = 0 then 65536 else size.toNat) ∨ k.toNat = 0 ∨ 256 < k.toNat ↔ _
  omega

theorem setupOf?_eq_none (w1 p st sk e m : Word) :
    setupOf? [w1, p, st, sk, e, m] = none
      ↔ (1 < bits w1 14 2 ∨ 1 < bits w1 12 2 ∨ bits sk 8 8 = 0 ∨ bits sk 0 8 = 0 ∨ e = 0 ∨ 32 < e.toNat) := by
  rw [word_eq_zero_iff]
  exact bind_eq_none_iff_or tickSourceOf?_eq_none fun _ _ => bind_eq_none_iff_or flagOf?_eq_none fun _ _ => ite_none_some_iff

theorem captureOf?_eq_none (w1 m len : Word) (list : List Word) (hlist : list.length = 8) :
    captureOf? (w1 :: m :: len :: list) = none
      ↔ (bits w1 12 4 = 0 ∨ 8 < bits w1 12 4 ∨ 1 < bits w1 10 2 ∨ 8 < bits w1 6 4 ∨ 8 < bits w1 2 4 ∨ m = 0
          ∨ 256 < m.toNat ∨ ∃ v ∈ list.take (bits w1 12 4), 31 < v.toNat) := by
  have hlisted : (((Vector.ofFn fun i : Fin 8 => (w1 :: m :: len :: list).getD (3 + i.val) 0).toList.take
      (bits w1 12 4)).any fun v => decide (31 < v.toNat)) = true ↔ ∃ v ∈ list.take (bits w1 12 4), 31 < v.toNat := by
    rw [ofFn_getD_drop3 _ _ _ _ hlist, List.any_eq_true]
    simp only [decide_eq_true_eq]
  generalize (∃ v ∈ list.take (bits w1 12 4), 31 < v.toNat) = listed at hlisted ⊢
  rw [word_eq_zero_iff]
  refine (bind_eq_none_iff_or tapOf?_eq_none fun _ _ => bind_eq_none_iff_or watchOf?_eq_none fun _ _ =>
    bind_eq_none_iff_or watchOf?_eq_none fun _ _ => ite_none_iff (ite_none_some_iff.trans hlisted)).trans ?_
  change 1 < bits w1 10 2 ∨ 8 < bits w1 6 4 ∨ 8 < bits w1 2 4
    ∨ (bits w1 12 4 = 0 ∨ 8 < bits w1 12 4 ∨ m.toNat = 0 ∨ 256 < m.toNat) ∨ listed ↔ _
  tauto

theorem mapEntryOf?_eq_none (w : Word) : mapEntryOf? [w] = none ↔ (31 < w.toNat ∧ w ≠ 255) := by
  have hw : w = 255 ↔ w.toNat = 255 := ⟨fun h => h ▸ rfl, fun h => BitVec.eq_of_toNat_eq h⟩
  change (if w.toNat = 255 then some none else (index? 32 w.toNat).map some) = none ↔ _
  rw [Ne, hw]
  split_ifs with h
  · simp [h]
  · rw [Option.map_eq_none_iff, index?_eq_none_iff]
    omega

/-! ### The checks -/

/-- The record words a WRITE RECORD row refuses with RANGE. -/
def refusesRecord (c : Instr) (g : List Word) : Prop :=
  (c = .writeRecordChannel ∧ channelOf? g = none) ∨ (c = .writeRecordSlotmap ∧ mapEntryOf? g = none)
    ∨ (c = .writeRecordOverlay ∧ overlayOf? g = none) ∨ (c = .writeRecordWatch ∧ watchRecordOf? g = none)
    ∨ (c = .writeRecordTrack ∧ trackOf? g = none) ∨ (c = .writeRecordCapture ∧ captureOf? g = none)
    ∨ (c = .writeRecordSetup ∧ setupOf? g = none)

theorem storeDecoded_range {α : Type} {decode : List Word → Option α} {put : Nat → List α → State → State} {i : Nat}
    {gs : List (List Word)} (s : State) (h : decodeAll decode gs = none) : storeDecoded decode put i gs s = refuse .range s := by
  rw [storeDecoded, h]

theorem storeSlotMap_range {i : Nat} {gs : List (List Word)} (s : State) (h : decodeAll mapEntryOf? gs = none) :
    storeSlotMap i gs s = refuse .range s := by
  rw [storeSlotMap, h]

theorem storeTracks_range {i : Nat} {gs : List (List Word)} (s : State) (h : decodeAll trackOf? gs = none) :
    storeTracks i gs s = refuse .range s := by
  rw [storeTracks, h]

theorem storeCaptures_range {i : Nat} {gs : List (List Word)} (s : State) (h : decodeAll captureOf? gs = none) :
    storeCaptures i gs s = refuse .range s := by
  rw [storeCaptures, h]

/-- A WRITE RECORD row is its table's checks with the table's own rule, and that rule refuses a record out of range. -/
theorem exec_of_writtenTable {c : Instr} {obj size words : Nat} (h : writtenTable? c = some (obj, size, words)) :
    ∃ store : Nat → List (List Word) → State → Answer,
      (∀ s, exec c s = request (writeRow obj) (writeTable obj size words store) s)
      ∧ ∀ i gs s, (∃ g ∈ gs, refusesRecord c g) → store i gs s = refuse .range s := by
  cases c <;> cases h
  case writeRecordChannel =>
    refine ⟨_, fun _ => rfl, fun i gs s ⟨g, hg, hr⟩ => storeDecoded_range s (decodeAll_none ?_ hg)⟩
    simpa [refusesRecord] using hr
  case writeRecordSlotmap =>
    refine ⟨_, fun _ => rfl, fun i gs s ⟨g, hg, hr⟩ => storeSlotMap_range s (decodeAll_none ?_ hg)⟩
    simpa [refusesRecord] using hr
  case writeRecordOverlay =>
    refine ⟨_, fun _ => rfl, fun i gs s ⟨g, hg, hr⟩ => storeDecoded_range s (decodeAll_none ?_ hg)⟩
    simpa [refusesRecord] using hr
  case writeRecordBlock => exact ⟨_, fun _ => rfl, fun i gs s ⟨g, hg, hr⟩ => by simp [refusesRecord] at hr⟩
  case writeRecordEpisode => exact ⟨_, fun _ => rfl, fun i gs s ⟨g, hg, hr⟩ => by simp [refusesRecord] at hr⟩
  case writeRecordWatch =>
    refine ⟨_, fun _ => rfl, fun i gs s ⟨g, hg, hr⟩ => storeDecoded_range s (decodeAll_none ?_ hg)⟩
    simpa [refusesRecord] using hr
  case writeRecordTrack =>
    refine ⟨_, fun _ => rfl, fun i gs s ⟨g, hg, hr⟩ => storeTracks_range s (decodeAll_none ?_ hg)⟩
    simpa [refusesRecord] using hr
  case writeRecordCapture =>
    refine ⟨_, fun _ => rfl, fun i gs s ⟨g, hg, hr⟩ => storeCaptures_range s (decodeAll_none ?_ hg)⟩
    simpa [refusesRecord] using hr
  case writeRecordSetup =>
    refine ⟨_, fun _ => rfl, fun i gs s ⟨g, hg, hr⟩ => storeDecoded_range s (decodeAll_none ?_ hg)⟩
    simpa [refusesRecord] using hr

theorem namesTable_of_writtenTable {c : Instr} {obj size words : Nat} (h : writtenTable? c = some (obj, size, words)) :
    namesTable obj = true := by
  cases c <;> cases h <;> rfl

theorem namesTable_eq_false {object : Nat} (h : object = 0 ∨ 9 < object) : namesTable object = false := by
  simp only [namesTable, Bool.and_eq_false_iff, decide_eq_false_iff_not]
  omega

/-- Settles O40. -/
theorem recordWritesAreCheckedWhole : Obligations.RecordWritesAreCheckedWhole := by
  refine ⟨fun c obj size words s r htable hs hcode => ?_, channelOf?_eq_none, overlayOf?_eq_none, watchRecordOf?_eq_none,
    trackOf?_eq_none, setupOf?_eq_none, fun w1 m len list => captureOf?_eq_none w1 m len list, mapEntryOf?_eq_none⟩
  obtain ⟨store, hexec, hrange⟩ := exec_of_writtenTable htable
  rw [hexec]
  refine ⟨fun hnone => ?_, fun hobj hindex => ?_, fun hobj hindex hcount => ⟨fun hlen => ?_, fun hlen hbad => ?_⟩⟩
  · have hnamed := namesTable_eq_false hnone
    refine request_refused hs (writeRow_iff.2 ⟨hcode, .inr hnamed⟩) (writeTable_noTable fun heq => ?_)
    rw [heq, namesTable_of_writtenTable htable] at hnamed
    exact Bool.false_ne_true hnamed.symm
  · exact request_refused hs (writeRow_iff.2 ⟨hcode, .inl hobj⟩) (writeTable_noIndex hobj hindex)
  · exact request_refused hs (writeRow_iff.2 ⟨hcode, .inl hobj⟩) (writeTable_range hobj hindex hcount hlen)
  · exact write_refused hs ⟨hcode, hobj, hindex, hcount, hlen⟩ (hrange _ _ _ hbad)

end Sys2Proof.Machine
end

section
/-! Writes of Track Descriptors (8.2). -/

namespace Sys2Proof.Machine

theorem getD_map_of_lt {α β : Type} {f : α → β} {xs : List α} {k : Nat} (d : α) (e : β) (h : k < xs.length) :
    (xs.map f).getD k e = f (xs.getD k d) := by
  rw [List.getD_eq_getElem _ _ (by rwa [List.length_map]), List.getElem_map, List.getD_eq_getElem _ _ h]

/-- Two regions that hold an address each overlap where they share one. -/
theorem regionsMeet_iff {d e : TrackDescriptor} (hd : 1 ≤ d.size) (he : 1 ≤ e.size) :
    regionsMeet d e = true ↔ ∃ a, (d.base ≤ a ∧ a < d.base + d.size) ∧ (e.base ≤ a ∧ a < e.base + e.size) := by
  rw [regionsMeet, Bool.and_eq_true, decide_eq_true_iff, decide_eq_true_iff]
  exact ⟨fun h => ⟨max d.base e.base, by omega, by omega⟩, fun ⟨a, hda, hea⟩ => by omega⟩

theorem inUse_iff {x : Track} : x.inUse = true ↔ x.state = .playing ∨ x.state = .underrun := by
  rw [Track.inUse, Bool.or_eq_true, decide_eq_true_iff, decide_eq_true_iff]

/-- Whether a written track is in use (R126, check 3). -/
def writesInUse (i n : Nat) (s : State) : Bool :=
  (List.finRange 8).any fun t => decide (i ≤ t.val) && decide (t.val < i + n) && (s.track t).inUse

theorem writesInUse_iff {i n : Nat} {s : State} :
    writesInUse i n s = true
      ↔ ∃ u : TrackNo, (i ≤ u.val ∧ u.val < i + n) ∧ ((s.track u).state = .playing ∨ (s.track u).state = .underrun) := by
  simp only [writesInUse, List.any_eq_true, List.mem_finRange, true_and, Bool.and_eq_true, decide_eq_true_eq, inUse_iff]

/-- The rule of the table by its checks. -/
theorem storeTracks_eq {i : Nat} {gs : List (List Word)} {ds : List TrackDescriptor} (s : State)
    (h : decodeAll trackOf? gs = some ds) :
    storeTracks i gs s
      = if writesInUse i ds.length s then refuse .busy s
        else if regionsClash i ds.length (putAll s.replay.tracks i (ds.map Track.cleared)) then refuse .overlap s
        else done [] { s with replay :=
          { s.replay with tracks := putAll s.replay.tracks i (ds.map Track.cleared) } } := by
  rw [storeTracks, h]
  rfl

/-- Where no two FED regions overlapped before, check 4 finds any two that do now. -/
theorem regionsClash_of_meet {s : State} {i n : Nat} {xs : Vector Track 8} {u v : TrackNo} (hs : s.TracksLegal)
    (hkeep : ∀ w : TrackNo, ¬ (i ≤ w.val ∧ w.val < i + n) → xs[w] = s.track w) (huv : u ≠ v) (hu : xs[u].desc.mode = .fed)
    (hv : xs[v].desc.mode = .fed) (hmeet : regionsMeet xs[u].desc xs[v].desc = true) : regionsClash i n xs = true := by
  by_contra hclash
  rw [Bool.not_eq_true, regionsClash_eq_false_iff] at hclash
  by_cases hwu : i ≤ u.val ∧ u.val < i + n
  · exact Bool.false_ne_true ((hclash u v hwu huv.symm hu hv).symm.trans hmeet)
  by_cases hwv : i ≤ v.val ∧ v.val < i + n
  · exact Bool.false_ne_true ((hclash v u hwv huv hv hu).symm.trans (by rwa [regionsMeet_comm]))
  rw [hkeep u hwu] at hu hmeet
  rw [hkeep v hwv] at hv hmeet
  exact Bool.false_ne_true ((hs.2 u v huv hu hv).symm.trans hmeet)

/-- Settles O46. -/
theorem trackWriteResetsTheRunState : Obligations.TrackWriteResetsTheRunState := by
  intro s r ds xs hs hcode hobj hindex hcount hroom hdata hds htracks hxs written moves meets
  have hwords : ∀ d ∈ ds, d.words.length = 4 := fun _ _ => rfl
  have hfits : r.FitsTable 7 8 4 :=
    ⟨hcode, hobj, hindex, hcount ▸ hroom, by rw [hdata, length_flatMap_words hwords, hcount]⟩
  have hdecode : decodeAll trackOf? (groups 4 r.count r.data) = some ds := by
    rw [hcount, hdata, groups_flatMap hwords]
    exact decodeAll_map fun d hd => trackOf?_words (hds d hd)
  have hput : putAll s.replay.tracks r.index (ds.map Track.cleared) = xs := putAll_eq fun u => by
    rw [hxs u, List.length_map]
    exact ite_congr rfl (fun h => (getD_map_of_lt (f := Track.cleared) (xs := ds) (s.track u).desc _ (by omega)).symm) fun _ => rfl
  have hkeep : ∀ u : TrackNo, ¬ (r.index ≤ u.val ∧ u.val < r.index + ds.length) → xs[u] = s.track u := fun u h =>
    (hxs u).trans (if_neg h)
  have hsize : ∀ u : TrackNo, 1 ≤ xs[u].desc.size := fun u => by
    by_cases h : r.index ≤ u.val ∧ u.val < r.index + ds.length
    · rw [hxs u, if_pos h]
      have hmem : ds.getD (u.val - r.index) (s.track u).desc ∈ ds := by
        rw [List.getD_eq_getElem _ _ (by omega)]
        exact List.getElem_mem _
      exact (hds _ hmem).1
    · rw [hkeep u h]
      exact (htracks.1 u).1.1
  have hstore := storeTracks_eq (i := r.index) s.toHunt hdecode
  rw [show putAll s.toHunt.replay.tracks r.index (ds.map Track.cleared) = xs from hput] at hstore
  have hidle (hquiet : ∀ u, written u → ¬ moves u) : ¬ writesInUse r.index ds.length s.toHunt = true := fun h => by
    obtain ⟨u, hw, hm⟩ := writesInUse_iff.1 h
    exact hquiet u hw hm
  refine ⟨fun ⟨u, hw, hm⟩ => ?_, fun hquiet ⟨u, v, huv, hu, hv, hmeet⟩ => ?_, fun hquiet hapart => ?_⟩
  · exact write_refused hs hfits (hstore.trans (if_pos (writesInUse_iff.2 ⟨u, hw, hm⟩)))
  · have hclash := regionsClash_of_meet htracks hkeep huv hu hv ((regionsMeet_iff (hsize u) (hsize v)).2 hmeet)
    exact write_refused hs hfits ((hstore.trans (if_neg (hidle hquiet))).trans (if_pos hclash))
  · have hclash : ¬ regionsClash r.index ds.length xs = true := by
      rw [Bool.not_eq_true, regionsClash_eq_false_iff]
      refine fun u v _ hvu hu hv => Bool.eq_false_iff.2 fun hmeet => ?_
      exact hapart u v ⟨hvu.symm, hu, hv, (regionsMeet_iff (hsize u) (hsize v)).1 hmeet⟩
    exact write_stored hs hfits ((hstore.trans (if_neg (hidle hquiet))).trans (if_neg hclash))

end Sys2Proof.Machine
end

section
/-! Writes of Overlay Records, Scenario Blocks, Episode Entries, Watch Records and Capture Set records (4.1, 6.1, 7.1, 9.1). -/

namespace Sys2Proof.Machine

/-! ### Words in the stores -/

theorem storeBlocks_eq {i n : Nat} {ws : List Word} (s : State) (h : ws.length = n * 5) :
    storeBlocks i (groups 5 n ws) s
      = done [] { s with scenario := { s.scenario with blocks := Mem.writeAll s.scenario.blocks (5 * i) ws } } := by
  rw [storeBlocks, groups_flatten h]

theorem storeEntries_eq {i n : Nat} {ws : List Word} (s : State) (h : ws.length = n * 2) :
    storeEntries i (groups 2 n ws) s
      = done [] { s with scenario := { s.scenario with entries := Mem.writeAll s.scenario.entries (2 * i) ws } } := by
  rw [storeEntries, groups_flatten h]

/-- What words written to a canonical store leave in it. -/
theorem Mem.writeAll_stands {m : Mem} (h : Mem.Wf m) (a : Nat) (ws : List Word) :
    Mem.Wf (Mem.writeAll m a ws)
      ∧ (∀ j, j < ws.length → Mem.read (Mem.writeAll m a ws) (a + j) = ws.getD j 0)
      ∧ ∀ b, (b < a ∨ a + ws.length ≤ b) → Mem.read (Mem.writeAll m a ws) b = Mem.read m b :=
  ⟨Mem.writeAll_wf ws h a, fun _ => Mem.read_writeAll_written h a, fun _ => Mem.read_writeAll_outside h⟩

/-! ### Watches -/

theorem takeFire_of_no_fire {s : State} {w : WatchNo} (h : (s.watchOf w).fire = none) : takeFire w s = s := by
  rw [takeFire, h]

/-- Where no fire waits, a write of watches takes none (log 15). -/
theorem takeFiresOf_of_no_fires {s : State} (h : ∀ w : WatchNo, (s.watchOf w).fire = none) (i n : Nat) :
    takeFiresOf i n s = s := by
  unfold takeFiresOf
  induction List.finRange 8 with
  | nil => rfl
  | cons w ws ih =>
    rw [List.foldl_cons, takeFire_of_no_fire (h w), ite_self]
    exact ih

theorem putWatches_of_no_fires {s : State} (h : ∀ w : WatchNo, (s.watchOf w).fire = none) (i : Nat) (rs : List WatchRecord) :
    putWatches i rs s
      = { s with watch := { s.watch with watches := putAll s.watch.watches i (rs.map Watch.cleared) } } := by
  rw [putWatches, takeFiresOf_of_no_fires h]

/-! ### Capture sets -/

theorem captureRecord_words_length (x : CaptureRecord) : x.words.length = 11 := by
  simp only [CaptureRecord.words, List.length_cons, Vector.length_toList]

/-- The rule of the table on one record written. -/
theorem storeCaptures_one {i : Nat} {k : SetNo} {gs : List (List Word)} {x : CaptureRecord} (s : State) (hi : i = k.val)
    (h : decodeAll captureOf? gs = some [x]) :
    storeCaptures i gs s
      = if ¬ (x.list.toList.take x.channels).Nodup then refuse .duplicate s
        else if s.capture[k].state ≠ .idle then refuse .busy s
        else done [] (s.setCapture k { s.capture[k] with record := x }) := by
  subst hi
  have hduplicate : [x].any CaptureRecord.repeats = true ↔ ¬ (x.list.toList.take x.channels).Nodup := by
    simp [CaptureRecord.repeats]
  have hbusy : ((List.finRange 2).any fun j =>
      decide (k.val ≤ j.val) && decide (j.val < k.val + [x].length) && decide ((s.capture[j]).state ≠ .idle)) = true
        ↔ s.capture[k].state ≠ .idle := by
    simp only [List.any_eq_true, List.mem_finRange, true_and, Bool.and_eq_true, decide_eq_true_eq, List.length_singleton]
    refine ⟨fun ⟨j, ⟨hlo, hhi⟩, hj⟩ => ?_, fun hk => ⟨k, ⟨le_rfl, Nat.lt_succ_self _⟩, hk⟩⟩
    rwa [show j = k from Fin.ext (by omega)] at hj
  have hput : (Vector.ofFn fun j : Fin 2 =>
      { s.capture[j] with record := (written? k.val [x] j.val).getD s.capture[j].record })
        = s.capture.set k { s.capture[k] with record := x } := by
    refine Vector.ext fun j hj => ?_
    rw [Vector.getElem_ofFn, Vector.getElem_set, written?_eq_getD]
    by_cases hkj : k.val = j
    · subst hkj
      rw [if_pos rfl, if_pos (by simp), Nat.sub_self]
      rfl
    · rw [if_neg hkj, if_neg (by simp only [List.length_singleton]; omega)]
      rfl
  rw [storeCaptures, h]
  exact (if_congr hduplicate rfl (if_congr hbusy rfl (congrArg (fun c => done [] { s with capture := c }) hput)))

theorem overlay_write {s : State} {r : Request} {rs : List OverlayRecord} (hs : s.serves r) (hcode : r.code = 2)
    (hlegal : ∀ x ∈ rs, x.Legal) (hobj : r.object = 3) (hindex : r.index < 256) (hcount : r.count = rs.length)
    (hroom : r.index + rs.length ≤ 256) (hdata : r.data = rs.flatMap OverlayRecord.words) :
    exec .writeRecordOverlay s
      = .next (State.answered r .ok [] { s.toHunt with bank := putAll s.bank r.index rs }) := by
  have hwords : ∀ x ∈ rs, x.words.length = 12 := fun _ _ => rfl
  refine write_stored hs ⟨hcode, hobj, hindex, hcount ▸ hroom, by rw [hdata, length_flatMap_words hwords, hcount]⟩
    (storeDecoded_done _ ?_)
  rw [hcount, hdata, groups_flatMap hwords]
  exact decodeAll_map fun x hx => overlayOf?_words (hlegal x hx)

theorem watch_write {s : State} {r : Request} {rs : List WatchRecord} (hs : s.serves r) (hcode : r.code = 2)
    (hobj : r.object = 6) (hindex : r.index < 8) (hcount : r.count = rs.length) (hroom : r.index + rs.length ≤ 8)
    (hdata : r.data = rs.flatMap WatchRecord.words)
    (hlegal : ∀ x ∈ rs, (1 ≤ x.persistence ∧ x.persistence ≤ 255)
      ∧ ((x.mode = .inside ∨ x.mode = .outside) → x.t1.toInt ≤ x.t2.toInt))
    (hfires : ∀ w : WatchNo, (s.watchOf w).fire = none) :
    exec .writeRecordWatch s = .next (State.answered r .ok [] { s.toHunt with
      watch := { s.watch with watches := putAll s.watch.watches r.index (rs.map Watch.cleared) } }) := by
  have hwords : ∀ x ∈ rs, x.words.length = 6 := fun _ _ => rfl
  refine write_stored hs ⟨hcode, hobj, hindex, hcount ▸ hroom, by rw [hdata, length_flatMap_words hwords, hcount]⟩
    ((storeDecoded_done (xs := rs) _ ?_).trans ?_)
  · rw [hcount, hdata, groups_flatMap hwords]
    refine decodeAll_map fun x hx => ?_
    obtain ⟨⟨h1, h2⟩, hinterval⟩ := hlegal x hx
    exact watchRecordOf?_words h1 h2 hinterval
  · rw [putWatches_of_no_fires (s := s.toHunt) hfires]
    rfl

/-- Settles O45. -/
theorem overlayScenarioWatchAndCaptureWrites : Obligations.OverlayScenarioWatchAndCaptureWrites := by
  refine ⟨fun s r hs hcode => ⟨?overlays, ?blocks, ?entries⟩, ?watches, ?captures⟩
  case overlays =>
    intro rs hlegal hobj hindex hcount hroom hdata
    exact ⟨_, overlay_write hs hcode hlegal hobj hindex hcount hroom hdata, getElem_putAll_getD _ _ _⟩
  case blocks =>
    intro hobj hindex hroom hlen hwf
    exact ⟨_, write_stored hs ⟨hcode, hobj, hindex, hroom, hlen⟩ (storeBlocks_eq _ hlen), Mem.writeAll_stands hwf _ _⟩
  case entries =>
    intro hobj hindex hroom hlen hwf
    exact ⟨_, write_stored hs ⟨hcode, hobj, hindex, hroom, hlen⟩ (storeEntries_eq _ hlen), Mem.writeAll_stands hwf _ _⟩
  case watches =>
    intro s r rs hs hcode hobj hindex hcount hroom hdata hlegal hfires
    refine ⟨_, watch_write hs hcode hobj hindex hcount hroom hdata hlegal hfires, fun w => ?_⟩
    rw [getElem_putAll_getD, List.length_map]
    exact ite_congr rfl (fun h => getD_map_of_lt (f := Watch.cleared) (xs := rs) _ _ (by omega)) fun _ => rfl
  case captures =>
    intro s r k x hs hcode hobj hindex hcount hdata hx
    have hlen : r.data.length = 11 := hdata ▸ captureRecord_words_length x
    have hfits : r.FitsTable 8 2 11 := ⟨hcode, hobj, by omega, by omega, by omega⟩
    have hgroups : groups 11 r.count r.data = [r.data] := by rw [hcount, groups_one 11 hlen]
    have hstore := storeCaptures_one s.toHunt hindex (hgroups ▸ decodeAll_one (hdata ▸ hx))
    refine ⟨fun hdup => ?_, fun hnodup hbusy => ?_, fun hnodup hidle => ?_⟩
    · exact write_refused hs hfits (hstore.trans (if_pos hdup))
    · exact write_refused hs hfits ((hstore.trans (if_neg (not_not.2 hnodup))).trans (if_pos hbusy))
    · exact write_stored hs hfits ((hstore.trans (if_neg (not_not.2 hnodup))).trans (if_neg (not_not.2 hidle)))

end Sys2Proof.Machine
end

section
/-! Writes of Channel Records, and the channels they turn off (3.1, 6.6, 10.3). -/

namespace Sys2Proof.Machine

/-! ### What turning channels off moves -/

/-- The channels' ownership, the slots, and the flags, categories and report request of events may move. -/
def TurnedOff (s t : State) : Prop :=
  t = { s with
    own := t.own
    scenario := { s.scenario with slots := t.scenario.slots }
    events := { s.events with flags := t.events.flags, summary := t.events.summary }
    tx := { s.tx with report := t.tx.report } }

namespace TurnedOff

variable {s t u : State}

theorem refl (s : State) : TurnedOff s s := rfl

theorem trans (h : TurnedOff s t) (k : TurnedOff t u) : TurnedOff s u := by
  unfold TurnedOff at *
  rw [k]
  simp only
  rw [h]

theorem foldl {β : Type} (f : State → β → State) (h : ∀ s b, TurnedOff s (f s b)) (l : List β) (s : State) :
    TurnedOff s (l.foldl f s) :=
  foldl_moves TurnedOff refl (fun _ _ _ => trans) f h l s

theorem channels (h : TurnedOff s t) : t.channels = s.channels := by rw [h]

theorem setup (h : TurnedOff s t) : t.setup = s.setup := by rw [h]

end TurnedOff

theorem raise_turnedOff (e : Event) (s : State) : TurnedOff s (raise e s) := by
  unfold raise
  split_ifs <;> rfl

theorem faultOn_turnedOff (c : Chan) (n : SlotNo) (s : State) : TurnedOff s (faultOn c n s) := by
  unfold faultOn
  split_ifs
  · exact TurnedOff.trans (t := s.setSlot n (s.slot n).channelOff) rfl (raise_turnedOff _ _)
  · rfl

theorem clearChannel_turnedOff (c : Chan) (s : State) : TurnedOff s (clearChannel c s) := rfl

theorem disableChannel_turnedOff (c : Chan) (s : State) : TurnedOff s (disableChannel c s) := by
  unfold disableChannel
  exact (TurnedOff.foldl _ (fun s n => faultOn_turnedOff c n s) _ s).trans (clearChannel_turnedOff c _)

/-- The turn of a channel: it is disabled where the write turned it off. -/
def turnOff (old : Vector ChannelRecord 32) (s : State) (c : Chan) : State :=
  if old[c].enabled && !s.enabled c then disableChannel c s else s

theorem disableWritten_eq (old : Vector ChannelRecord 32) (s : State) :
    disableWritten old s = (List.finRange 32).foldl (turnOff old) s := rfl

theorem turnOff_turnedOff (old : Vector ChannelRecord 32) (s : State) (c : Chan) : TurnedOff s (turnOff old s c) := by
  unfold turnOff
  split_ifs
  · exact disableChannel_turnedOff c s
  · rfl

theorem disableWritten_turnedOff (old : Vector ChannelRecord 32) (s : State) : TurnedOff s (disableWritten old s) :=
  .foldl _ (turnOff_turnedOff old) _ s

/-- Channels the write did not turn off keep their contexts. -/
theorem disableWritten_own_of_not {old : Vector ChannelRecord 32} {s : State} {d : Chan}
    (h : (old[d].enabled && !s.enabled d) = false) : (disableWritten old s).own[d] = s.own[d] := by
  have hkeep := List.foldlRecOn (motive := fun t : State => t.channels = s.channels ∧ t.own[d] = s.own[d]) (List.finRange 32)
    (turnOff old) ⟨rfl, rfl⟩ fun t ⟨hch, hown⟩ c _ => by
      refine ⟨((turnOff_turnedOff old t c).channels).trans hch, ?_⟩
      unfold turnOff
      split_ifs with hc
      · rw [disableChannel_own]
        refine (if_neg fun hcd => ?_).trans hown
        rw [State.enabled, hch, hcd] at hc
        exact Bool.false_ne_true (h.symm.trans hc)
      · exact hown
  exact hkeep.2

/-- Channels none of which the write turned off are passed over. -/
theorem foldl_turnOff_none {old : Vector ChannelRecord 32} {s : State} {l : List Chan}
    (h : ∀ c ∈ l, (old[c].enabled && !s.enabled c) = false) : l.foldl (turnOff old) s = s := by
  induction l with
  | nil => rfl
  | cons c l ih =>
    have hc : turnOff old s c = s := if_neg (Bool.not_eq_true _ ▸ h c List.mem_cons_self)
    rw [List.foldl_cons, hc]
    exact ih fun d hd => h d (List.mem_cons_of_mem _ hd)

theorem disableWritten_none {old : Vector ChannelRecord 32} {s : State}
    (h : ∀ c : Chan, (old[c].enabled && !s.enabled c) = false) : disableWritten old s = s :=
  foldl_turnOff_none fun c _ => h c

/-- Where the write turned one channel off, it alone is disabled. -/
theorem disableWritten_one {old : Vector ChannelRecord 32} {s : State} {c : Chan} (hc : (old[c].enabled && !s.enabled c) = true)
    (h : ∀ d : Chan, d ≠ c → (old[d].enabled && !s.enabled d) = false) : disableWritten old s = disableChannel c s := by
  obtain ⟨l₁, l₂, hl⟩ := List.append_of_mem (List.mem_finRange c)
  have hnodup := List.nodup_finRange 32
  rw [hl] at hnodup
  obtain ⟨-, hright, hdisjoint⟩ := List.nodup_append.1 hnodup
  have hbefore : ∀ d ∈ l₁, d ≠ c := fun d hd => hdisjoint d hd c List.mem_cons_self
  have hafter : ∀ d ∈ l₂, d ≠ c := fun d hd heq => (List.nodup_cons.1 hright).1 (heq ▸ hd)
  have hturn : turnOff old s c = disableChannel c s := if_pos hc
  rw [disableWritten_eq, hl, List.foldl_append, List.foldl_cons, foldl_turnOff_none fun d hd => h d (hbefore d hd), hturn]
  refine foldl_turnOff_none fun d hd => ?_
  rw [State.enabled, (disableChannel_turnedOff c s).channels]
  exact h d (hafter d hd)

/-! ### The event of a slot turned off -/

theorem faultOn_flag_mono {c : Chan} {n : SlotNo} {s : State} {f : Nat} (hf : f < 123)
    (h : s.events.flags.getLsbD f = true) : (faultOn c n s).events.flags.getLsbD f = true := by
  unfold faultOn
  split_ifs
  · exact (raise_flag_iff _ _ hf).2 (.inl h)
  · exact h

theorem faultOns_flag_mono {c : Chan} {f : Nat} (hf : f < 123) (l : List SlotNo) {s : State}
    (h : s.events.flags.getLsbD f = true) : (l.foldl (fun s n => faultOn c n s) s).events.flags.getLsbD f = true :=
  List.foldlRecOn (motive := fun t : State => t.events.flags.getLsbD f = true) _ _ h fun _ ht _ _ => faultOn_flag_mono hf ht

theorem faultOn_flag {c : Chan} {n : SlotNo} {s : State} (hbusy : (s.slot n).state.busy = true)
    (htarget : (s.slot n).latch.target = c) (hmask : s.setup.masks.getLsbD 2 = false) :
    (faultOn c n s).events.flags.getLsbD (11 + n.val) = true := by
  have hcond : ((s.slot n).state.busy && decide ((s.slot n).latch.target = c)) = true := by simp [hbusy, htarget]
  rw [faultOn, if_pos hcond]
  refine (raise_flag_iff (.slotFault n) _ (by have := n.isLt; omega)).2 (.inr ⟨rfl, ?_⟩)
  rw [masked, Event.category_slotFault]
  exact hmask

/-- A slot busy on the channel raises SLOT_FAULT. -/
theorem faultOns_flag {c : Chan} {n : SlotNo} {l : List SlotNo} {s : State} (hmem : n ∈ l)
    (hbusy : (s.slot n).state.busy = true) (htarget : (s.slot n).latch.target = c)
    (hmask : s.setup.masks.getLsbD 2 = false) :
    (l.foldl (fun s n => faultOn c n s) s).events.flags.getLsbD (11 + n.val) = true := by
  induction l generalizing s with
  | nil => cases hmem
  | cons m l ih =>
    rw [List.foldl_cons]
    by_cases hmn : n = m
    · rw [← hmn]
      exact faultOns_flag_mono (by have := n.isLt; omega) l (faultOn_flag hbusy htarget hmask)
    · have hslot : (faultOn c m s).slot n = s.slot n := faultOn_slot_ne hmn s
      refine ih ((List.mem_cons.1 hmem).resolve_left hmn) ?_ ?_ ?_
      · rwa [hslot]
      · rwa [hslot]
      · rwa [(faultOn_turnedOff c m s).setup]

theorem clearChannel_events (c : Chan) (s : State) : (clearChannel c s).events = s.events := rfl

theorem disableChannel_flag {c : Chan} {n : SlotNo} {s : State} (hbusy : (s.slot n).state.busy = true)
    (htarget : (s.slot n).latch.target = c) (hmask : s.setup.masks.getLsbD 2 = false) :
    (disableChannel c s).events.flags.getLsbD (11 + n.val) = true := by
  rw [disableChannel, clearChannel_events]
  exact faultOns_flag (List.mem_finRange n) hbusy htarget hmask

/-! ### The records -/

/-- The Channel Records as a write leaves them, before its effects. -/
def State.rewritten (s : State) (i : Nat) (rs : List ChannelRecord) : State :=
  { s with channels := { s.channels with records := putAll s.channels.records i rs } }

theorem putChannels_eq (s : State) (i : Nat) (rs : List ChannelRecord) :
    putChannels i rs s = disableWritten s.channels.records (s.rewritten i rs) := rfl

theorem channel_write {s : State} {r : Request} {rs : List ChannelRecord} (hs : s.serves r) (h : r.FitsTable 1 32 6)
    (hdecode : decodeAll channelOf? (groups 6 r.count r.data) = some rs) :
    exec .writeRecordChannel s
      = .next ((disableWritten s.channels.records (s.toHunt.rewritten r.index rs)).answered r .ok []) :=
  write_stored hs h (storeDecoded_done _ hdecode)

section
variable (s : State) (i : Nat) (rs : List ChannelRecord)

theorem rewritten_last : (s.rewritten i rs).channels.last = s.channels.last := by unfold State.rewritten; rfl
theorem rewritten_own : (s.rewritten i rs).own = s.own := by unfold State.rewritten; rfl
theorem rewritten_scenario : (s.rewritten i rs).scenario = s.scenario := by unfold State.rewritten; rfl
theorem rewritten_slot (n : SlotNo) : (s.rewritten i rs).slot n = s.slot n := by
  rw [State.slot, State.slot, rewritten_scenario]
theorem toHunt_slot (n : SlotNo) : s.toHunt.slot n = s.slot n := by rw [State.slot, State.slot, State.toHunt_scenario]
theorem rewritten_setup : (s.rewritten i rs).setup = s.setup := by unfold State.rewritten; rfl

end

/-- The record of a channel after a write. -/
theorem rewritten_record (s : State) (i : Nat) (rs : List ChannelRecord) (c : Chan) :
    (s.rewritten i rs).channels.records[c]
      = if i ≤ c.val ∧ c.val < i + rs.length then rs.getD (c.val - i) s.channels.records[c] else s.channels.records[c] :=
  getElem_putAll_getD _ _ _ c

/-- A write keeps everything but the records, and what turning channels off moves. -/
theorem written_frame {s t : State} {y : ChannelTable} (h : TurnedOff { s with channels := y } t) :
    t = { s with
      channels := t.channels, own := t.own
      scenario := { s.scenario with slots := t.scenario.slots }
      events := { s.events with flags := t.events.flags, summary := t.events.summary }
      tx := { s.tx with report := t.tx.report } } := by
  have hch := h.channels
  generalize t.channels = z at hch ⊢
  subst hch
  exact h

theorem channel_write_any {s : State} {r : Request} {rs : List ChannelRecord} {t : State}
    (ht : t = disableWritten s.channels.records (s.toHunt.rewritten r.index rs)) :
    (∀ c : Chan, t.channels.records[c]
        = if r.index ≤ c.val ∧ c.val < r.index + rs.length then rs.getD (c.val - r.index) s.channels.records[c]
          else s.channels.records[c])
      ∧ t.channels.last = s.channels.last
      ∧ t = { s.toHunt with
                channels := t.channels, own := t.own
                scenario := { s.scenario with slots := t.scenario.slots }
                events := { s.events with flags := t.events.flags, summary := t.events.summary }
                tx := { s.tx with report := t.tx.report } }
      ∧ (∀ c : Chan, (s.enabled c = false ∨ t.enabled c = true) → t.own[c] = s.own[c])
      ∧ ((∀ c : Chan, s.enabled c = true → t.enabled c = true) → t = { s.toHunt with channels := t.channels }) := by
  have hmoved : TurnedOff (s.toHunt.rewritten r.index rs) t := ht ▸ disableWritten_turnedOff _ _
  have hch := hmoved.channels
  have hkept : ∀ c : Chan, (s.enabled c = false ∨ t.enabled c = true) →
      (s.channels.records[c].enabled && !(s.toHunt.rewritten r.index rs).enabled c) = false := fun c hc => by
    rw [State.enabled, State.enabled, hch] at hc
    rcases hc with hoff | hon
    · rw [hoff, Bool.false_and]
    · rw [State.enabled, hon, Bool.not_true, Bool.and_false]
  refine ⟨fun c => ?_, ?_, written_frame (s := s.toHunt) hmoved, fun c hc => ?_, fun hall => ?_⟩
  · rw [hch]
    exact rewritten_record s.toHunt r.index rs c
  · rw [hch, rewritten_last, State.toHunt_channels]
  · have hown := disableWritten_own_of_not (hkept c hc)
    rw [← ht, rewritten_own, State.toHunt_own] at hown
    exact hown
  · have hsame : t = s.toHunt.rewritten r.index rs := ht.trans (disableWritten_none fun c => hkept c (by
      cases hs : s.enabled c with
      | false => exact .inl rfl
      | true => exact .inr (hall c hs)))
    rw [hch]
    exact hsame

theorem Slot.offChannel_of_busy {c : Chan} {x : Slot} (hb : x.state.busy = true) (ht : x.latch.target = c) :
    x.offChannel c = x.channelOff := by
  rw [Slot.offChannel, if_pos]
  simp [hb, ht]

theorem Slot.offChannel_of_not {c : Chan} {x : Slot} (h : x.state.busy = false ∨ x.latch.target ≠ c) : x.offChannel c = x := by
  rw [Slot.offChannel, if_neg]
  simp only [Bool.and_eq_true, decide_eq_true_eq, not_and]
  rcases h with h | h
  · simp [h]
  · exact fun _ => h

/-- Settles O43. -/
theorem channelWriteStoresAndTurnsOff : Obligations.ChannelWriteStoresAndTurnsOff := by
  refine ⟨fun s r rs hs hcode hobj hcount hindex hroom hdecode hlen => ?_,
    fun s r c x hs hcode hobj hcount hindex hlen hdecode hon hoff => ?_⟩
  · have hfits : r.FitsTable 1 32 6 := ⟨hcode, hobj, hindex, hcount ▸ hroom, by rw [hlen, hcount, Nat.mul_comm]⟩
    exact ⟨_, channel_write hs hfits (hcount ▸ hdecode), channel_write_any rfl⟩
  · have hc := c.isLt
    have hfits : r.FitsTable 1 32 6 := ⟨hcode, hobj, by omega, by omega, by omega⟩
    have hgroups : decodeAll channelOf? (groups 6 r.count r.data) = some [x] := by
      rw [hcount, groups_one 6 hlen]
      exact decodeAll_one hdecode
    have hrecord : ∀ d : Chan, (s.toHunt.rewritten r.index [x]).channels.records[d]
        = if d = c then x else s.channels.records[d] := fun d => by
      rw [rewritten_record, hindex, List.length_singleton]
      by_cases hdc : d = c
      · rw [hdc, if_pos rfl, if_pos ⟨le_rfl, Nat.lt_succ_self _⟩, Nat.sub_self]
        rfl
      · rw [if_neg hdc, if_neg fun h => hdc (Fin.ext (by omega))]
        rfl
    have hone : disableWritten s.channels.records (s.toHunt.rewritten r.index [x])
        = disableChannel c (s.toHunt.rewritten r.index [x]) := by
      refine disableWritten_one ?_ fun d hd => ?_
      · rw [State.enabled, hrecord, if_pos rfl, hoff]
        exact congrArg (· && true) hon
      · rw [State.enabled, hrecord, if_neg hd, Bool.and_not_self]
    have hexec := channel_write hs hfits hgroups
    rw [hone] at hexec
    have hmoved := disableChannel_turnedOff c (s.toHunt.rewritten r.index [x])
    have hch := hmoved.channels
    have hown := disableChannel_own c (s := s.toHunt.rewritten r.index [x])
    have hslot := disableChannel_slot c (s := s.toHunt.rewritten r.index [x])
    rw [rewritten_own, rewritten_last, State.toHunt_own, State.toHunt_channels] at hown
    simp only [rewritten_slot, toHunt_slot] at hslot
    have hflag := fun n => disableChannel_flag (c := c) (n := n) (s := s.toHunt.rewritten r.index [x])
    simp only [rewritten_slot, rewritten_setup, toHunt_slot, State.toHunt_setup] at hflag
    generalize disableChannel c (s.toHunt.rewritten r.index [x]) = t at hexec hmoved hch hown hslot hflag
    refine ⟨t, hexec, ?_, ?_, written_frame (s := s.toHunt) hmoved, ?_, ?_, ?_, ?_, fun d hd => ⟨?_, ?_⟩,
      fun n hbusy htarget => ?_, fun n hn => (hslot n).trans (Slot.offChannel_of_not hn)⟩
    · rw [hch, hrecord, if_pos rfl]
    · rw [hch, rewritten_last, State.toHunt_channels]
    · rw [hown, if_pos rfl]
    · rw [hown, if_pos rfl]
    · rw [hown, if_pos rfl]
    · rw [hown, if_pos rfl, settle]
    · rw [hown, if_neg (Ne.symm hd)]
    · rw [hch, hrecord, if_neg hd]
    · have hx : t.slot n = (s.slot n).channelOff := (hslot n).trans (Slot.offChannel_of_busy hbusy htarget)
      rw [hx]
      refine ⟨rfl, rfl, rfl, fun h => if_pos h, fun h => if_neg ?_, hflag n hbusy htarget⟩
      rcases h with h | h <;> rw [h] <;> decide

end Sys2Proof.Machine
end

section
/-! A tick's event of one capture set (9.4 to 9.6): it waits, drops the record due, or takes it into its FILLING half. -/

namespace Sys2Proof.Machine

/-! ### A set with a record due -/

/-- The set with a record made due by the tick. -/
def CaptureSet.offered (x : CaptureSet) (rec : List Word) : CaptureSet := { x with due := some rec }

/-- What a record due leaves of the set's counts (9.4), its halves and its state being those of `z`. -/
def CaptureSet.counted (x z : CaptureSet) : CaptureSet :=
  { z with ticksToNext := x.record.decimation - 1, nextSeq := x.nextSeq + 1, recordsDue := x.dueAfter }

/-- The record due is the last of the set's length. -/
def CaptureSet.lastDue (x : CaptureSet) : Prop := x.record.length ≠ 0 ∧ x.dueAfter = x.record.length

section
variable {x : CaptureSet} {h : HalfName} {rec : List Word} {tick : BitVec 32}

theorem offered_half : (x.offered rec).half h = x.half h := by cases h <;> rfl

theorem offered_grown : (x.offered rec).grown h tick rec = x.grown h tick rec := by
  unfold CaptureSet.grown
  rw [offered_half]
  rfl

theorem offered_took : (x.offered rec).took h tick rec = x.took h tick rec := by
  unfold CaptureSet.took
  rw [offered_grown]
  cases h <;> rfl

theorem consume_eq_counted (hd : x.due = none) : x.consume = x.counted x := by
  unfold CaptureSet.consume CaptureSet.counted
  rw [hd]
  rfl

theorem took_eq_counted (hd : x.due = none) : x.took h tick rec = x.counted (x.setHalf h (x.grown h tick rec)) := by
  have hset : (x.setHalf h (x.grown h tick rec)).due = none := CaptureSet.setHalf_due.trans hd
  rw [CaptureSet.took, consume_eq_counted hset]
  cases h <;> rfl

/-- The set whose record fills its half while the other half is EMPTY. -/
theorem turned_eq_counted {y y' : Half} (hd : x.due = none) :
    (((x.offered rec).setHalf h y).setHalf h.other y').consume = x.counted ((x.setHalf h y).setHalf h.other y') := by
  have hset : ((x.setHalf h y).setHalf h.other y').due = none :=
    CaptureSet.setHalf_due.trans (CaptureSet.setHalf_due.trans hd)
  have hoffered : (((x.offered rec).setHalf h y).setHalf h.other y').consume = ((x.setHalf h y).setHalf h.other y').consume := by
    cases h <;> rfl
  rw [hoffered, consume_eq_counted hset]
  cases h <;> rfl

/-- The set whose record fills its half while the other half is FULL. -/
theorem overrun_eq_counted {y : Half} (hd : x.due = none) :
    { ((x.offered rec).setHalf h y).consume with state := .overrun }
      = { x.counted (x.setHalf h y) with state := .overrun } := by
  have hset : (x.setHalf h y).due = none := CaptureSet.setHalf_due.trans hd
  have hoffered : ((x.offered rec).setHalf h y).consume = (x.setHalf h y).consume := by cases h <;> rfl
  rw [hoffered, consume_eq_counted hset]
  cases h <;> rfl

/-- The set whose half is closed by the last record of its length. -/
theorem stopped_eq_counted {y y' : Half} (hd : x.due = none) :
    ((x.counted (x.setHalf h y)).setHalf h y').stopped = { x.counted (x.setHalf h y') with state := .draining } := by
  unfold CaptureSet.stopped CaptureSet.counted
  cases h <;> simp [CaptureSet.setHalf, hd]

theorem counted_lengthReached {z : CaptureSet} (hz : z.record = x.record) (h : ¬ x.lastDue) :
    (x.counted z).lengthReached = false := by
  rw [Bool.eq_false_iff]
  intro hl
  obtain ⟨-, hlen, hdue⟩ := CaptureSet.lengthReached_iff.1 hl
  change z.record.length ≠ 0 at hlen
  change x.dueAfter = z.record.length at hdue
  rw [hz] at hlen hdue
  exact h ⟨hlen, hdue⟩

end

/-! ### The event of a tick -/

section
variable {p : State} {k : SetNo} {x : CaptureSet} {h : HalfName} (vs : TickValues)

theorem lengthReached_stays (hx : p.capture[k] = x) (hl : x.lengthReached = false) : lengthReached k p = p := by
  rw [lengthReached, hx, hl]
  rfl

theorem lengthReached_stops (hx : p.capture[k] = x) (hl : x.lengthReached = true) : lengthReached k p = stopCapture k p := by
  rw [lengthReached, hx, if_pos hl]

theorem captureTick_of_mark {y : CaptureSet} (hx : p.capture[k] = x) (hy : markDue vs x = y) :
    captureTick vs k p = lengthReached k (recordDue k (p.setCapture k y)) := by
  rw [captureTick, hx, hy]

/-- Where no record is due, the set counts the tick, or leaves it. -/
theorem captureTick_of_none {y : CaptureSet} (hx : p.capture[k] = x) (hy : markDue vs x = y) (hd : y.due = none)
    (hl : y.lengthReached = false) : captureTick vs k p = p.setCapture k y := by
  have hset := State.capture_setCapture_self p k y
  rw [captureTick_of_mark vs hx hy, recordDue_of_none hset hd, lengthReached_stays hset hl]

theorem captureTick_passive (hx : p.capture[k] = x) (ha : x.active = false) (hd : x.due = none) :
    (captureTick vs k p).capture[k] = x := by
  have hl : x.lengthReached = false := by rw [CaptureSet.lengthReached, ha, Bool.false_and, Bool.false_and]
  have hmark : markDue vs x = x := by
    rw [markDue, ha]
    rfl
  rw [captureTick_of_none vs hx hmark hd hl]
  exact State.capture_setCapture_self p k x

theorem captureTick_waits (hx : p.capture[k] = x) (ha : x.active = true) (ht : 0 < x.ticksToNext) (hd : x.due = none)
    (hl : ¬ (x.record.length ≠ 0 ∧ x.recordsDue = x.record.length)) :
    (captureTick vs k p).capture[k] = { x with ticksToNext := x.ticksToNext - 1 } := by
  have hmark : markDue vs x = { x with ticksToNext := x.ticksToNext - 1 } := by rw [markDue, if_pos ha, if_pos ht]
  have hlength : ({ x with ticksToNext := x.ticksToNext - 1 } : CaptureSet).lengthReached = false :=
    Bool.eq_false_iff.2 fun h => hl (CaptureSet.lengthReached_iff.1 h).2
  rw [captureTick_of_none vs hx hmark hd hlength]
  exact State.capture_setCapture_self p k _

/-- A set with no tick to wait has a record due. -/
theorem captureTick_offers (hx : p.capture[k] = x) (ha : x.active = true) (ht : x.ticksToNext = 0) :
    captureTick vs k p = lengthReached k (recordDue k (p.setCapture k (x.offered (x.record.sample vs)))) := by
  refine captureTick_of_mark vs hx ?_
  rw [markDue, if_pos ha, if_neg (by omega)]
  rfl

/-- In OVERRUN the record due is dropped and counted. -/
theorem captureTick_drops (hx : p.capture[k] = x) (hst : x.state = .overrun) (ht : x.ticksToNext = 0) (hd : x.due = none) :
    captureTick vs k p
      = lengthReached k (advance (ctrRecordsDropped k) 1 (p.setCapture k (x.counted x))) := by
  rw [captureTick_offers vs hx (CaptureSet.active_iff.2 (.inr hst)) ht,
    recordDue_of_overrun (x := x.offered (x.record.sample vs)) (State.capture_setCapture_self p k _) rfl hst, State.setCapture_setCapture]
  exact congrArg (fun y => lengthReached k (advance (ctrRecordsDropped k) 1 (p.setCapture k y))) (consume_eq_counted hd)

/-- RECORDING, the record due is taken. -/
theorem captureTick_takes (hx : p.capture[k] = x) (hst : x.state = .recording) (ht : x.ticksToNext = 0) :
    captureTick vs k p
      = lengthReached k (takeRecord k (x.record.sample vs) (p.setCapture k (x.offered (x.record.sample vs)))) := by
  rw [captureTick_offers vs hx (CaptureSet.active_iff.2 (.inl hst)) ht,
    recordDue_of_recording (x := x.offered (x.record.sample vs)) (State.capture_setCapture_self p k _) rfl hst]

theorem dropped_capture {y : CaptureSet} : (advance (ctrRecordsDropped k) 1 (p.setCapture k y)).capture[k] = y := by
  rw [(advance_moves _ _ _).capture]
  exact State.capture_setCapture_self p k y

theorem captureTick_drops_counter (hx : p.capture[k] = x) (hst : x.state = .overrun) (ht : x.ticksToNext = 0)
    (hd : x.due = none) (ha : x.halfA.state = .full) (hb : x.halfB.state = .full) :
    (captureTick vs k p).events.counters[ctrRecordsDropped k] = p.events.counters[ctrRecordsDropped k] + 1
      ∧ (¬ x.lastDue → (captureTick vs k p).capture[k] = x.counted x)
      ∧ (x.lastDue → (captureTick vs k p).capture[k] = { x.counted x with state := .draining }) := by
  have hcap : (advance (ctrRecordsDropped k) 1 (p.setCapture k (x.counted x))).capture[k] = x.counted x := dropped_capture
  have hcount : (advance (ctrRecordsDropped k) 1 (p.setCapture k (x.counted x))).events.counters[ctrRecordsDropped k]
      = p.events.counters[ctrRecordsDropped k] + 1 := by
    rw [advance_counters_add, if_pos rfl]
    rfl
  rw [captureTick_drops vs hx hst ht hd]
  generalize advance (ctrRecordsDropped k) 1 (p.setCapture k (x.counted x)) = u at hcap hcount
  by_cases hlast : x.lastDue
  · have hl : (x.counted x).lengthReached = true := CaptureSet.lengthReached_iff.2 ⟨.inr hst, hlast⟩
    have hstop : stopCapture k u = u.setCapture k (x.counted x).stopped := stopCapture_of_overrun hcap hst ha hb
    rw [lengthReached_stops hcap hl, hstop]
    refine ⟨hcount, fun h => absurd hlast h, fun _ => ?_⟩
    refine (State.capture_setCapture_self u k _).trans ?_
    unfold CaptureSet.stopped CaptureSet.counted
    rw [hd]
  · rw [lengthReached_stays hcap (counted_lengthReached rfl hlast)]
    exact ⟨hcount, fun _ => hcap, fun h => absurd h hlast⟩

/-! ### A record taken -/

variable {y : Half}

theorem not_lastDue_took {tick : BitVec 32} {rec : List Word} (hst : x.state = .recording) (hlast : ¬ x.lastDue) :
    ((x.offered rec).took h tick rec).lengthReached = false := by
  rw [offered_took, Bool.eq_false_iff]
  exact fun hl => hlast ((CaptureSet.took_lengthReached hst tick).1 hl)

/-- The record joins its half, which has room for more. -/
theorem captureTick_joins (hx : p.capture[k] = x) (hst : x.state = .recording) (ht : x.ticksToNext = 0) (hd : x.due = none)
    (hf : (x.half h).state = .filling) (ho : (x.half h.other).state ≠ .filling) (hlast : ¬ x.lastDue)
    (hy : x.grown h p.timer.ticks (x.record.sample vs) = y) (hroom : y.records.length < x.record.room) :
    (captureTick vs k p).capture[k] = x.counted (x.setHalf h y) := by
  have hset := State.capture_setCapture_self p k (x.offered (x.record.sample vs))
  have hfill : (x.offered (x.record.sample vs)).filling? = some h := CaptureSet.filling?_of_half _ _ hf ho
  have hnot : ¬ (x.record.room ≤ ((x.offered (x.record.sample vs)).grown h p.timer.ticks (x.record.sample vs)).records.length
      ∧ ((x.offered (x.record.sample vs)).took h p.timer.ticks (x.record.sample vs)).lengthReached = false) := by
    rw [offered_grown, hy]
    exact fun hfull => absurd hroom (not_lt.2 hfull.1)
  have htook : (x.offered (x.record.sample vs)).took h p.timer.ticks (x.record.sample vs) = x.counted (x.setHalf h y) := by
    rw [offered_took, took_eq_counted hd, hy]
  rw [captureTick_takes vs hx hst ht, takeRecord_of_room hset hfill hnot, State.setCapture_setCapture]
  generalize hz : (x.offered (x.record.sample vs)).took h _ (x.record.sample vs) = z
  have hzc : z = x.counted (x.setHalf h y) := hz.symm.trans htook
  have hcap := State.capture_setCapture_self p k z
  rw [lengthReached_stays hcap (hzc ▸ counted_lengthReached CaptureSet.setHalf_record hlast)]
  exact hcap.trans hzc

/-- The record fills its half, and the other half opens. -/
theorem captureTick_turns (hx : p.capture[k] = x) (hst : x.state = .recording) (ht : x.ticksToNext = 0) (hd : x.due = none)
    (hf : (x.half h).state = .filling) (ho : (x.half h.other).state = .vacant) (hlast : ¬ x.lastDue)
    (hy : x.grown h p.timer.ticks (x.record.sample vs) = y) (hroom : x.record.room ≤ y.records.length) :
    (captureTick vs k p).capture[k] = x.counted ((x.setHalf h y.filled).setHalf h.other (x.half h.other).opened)
      ∧ ({ set := k, half := h, sent := 0 } : DrainEntry) ∈ (captureTick vs k p).tx.drain := by
  have hset := State.capture_setCapture_self p k (x.offered (x.record.sample vs))
  have htake := takeRecord_turns (rec := x.record.sample vs) (h := h) hset (by rw [offered_half]; exact hf)
    (by rw [offered_half]; exact ho) (by rw [offered_grown]; exact hy ▸ hroom) (not_lastDue_took hst hlast)
  rw [offered_grown, offered_half, State.setCapture_setCapture] at htake
  have hset' : x.grown h (p.setCapture k (x.offered (x.record.sample vs))).timer.ticks (x.record.sample vs) = y := hy
  rw [hset'] at htake
  generalize hz : (((x.offered (x.record.sample vs)).setHalf h y.filled).setHalf h.other _).consume = z at htake
  have hzc : z = x.counted ((x.setHalf h y.filled).setHalf h.other (x.half h.other).opened) :=
    hz.symm.trans (turned_eq_counted hd)
  have hrecord : ((x.setHalf h y.filled).setHalf h.other (x.half h.other).opened).record = x.record :=
    CaptureSet.setHalf_record.trans CaptureSet.setHalf_record
  have hlength : z.lengthReached = false := hzc ▸ counted_lengthReached hrecord hlast
  generalize hu : ({ p.setCapture k z with tx := _ } : State) = u at htake
  have hcap : u.capture[k] = z := hu ▸ State.capture_setCapture_self p k z
  have hqueue : ({ set := k, half := h, sent := 0 } : DrainEntry) ∈ u.tx.drain :=
    hu ▸ List.mem_append_right _ (List.mem_singleton_self _)
  rw [captureTick_takes vs hx hst ht, htake, lengthReached_stays hcap hlength]
  exact ⟨hcap.trans hzc, hqueue⟩

/-- The record fills its half while the other is FULL. -/
theorem captureTick_overruns (hx : p.capture[k] = x) (hst : x.state = .recording) (ht : x.ticksToNext = 0)
    (hd : x.due = none) (hf : (x.half h).state = .filling) (ho : (x.half h.other).state = .full) (hlast : ¬ x.lastDue)
    (hy : x.grown h p.timer.ticks (x.record.sample vs) = y) (hroom : x.record.room ≤ y.records.length) :
    (captureTick vs k p).capture[k] = { x.counted (x.setHalf h y.filled) with state := .overrun }
      ∧ ({ set := k, half := h, sent := 0 } : DrainEntry) ∈ (captureTick vs k p).tx.drain
      ∧ (p.setup.masks.getLsbD 4 = false → (captureTick vs k p).events.flags.getLsbD (43 + k.val) = true) := by
  have hset := State.capture_setCapture_self p k (x.offered (x.record.sample vs))
  have htake := takeRecord_overruns (rec := x.record.sample vs) (h := h) hset (by rw [offered_half]; exact hf)
    (by rw [offered_half]; exact ho) (by rw [offered_grown]; exact hy ▸ hroom) (not_lastDue_took hst hlast)
  rw [offered_grown, State.setCapture_setCapture] at htake
  have hset' : x.grown h (p.setCapture k (x.offered (x.record.sample vs))).timer.ticks (x.record.sample vs) = y := hy
  rw [hset', overrun_eq_counted hd] at htake
  have hrecord : (x.setHalf h y.filled).record = x.record := CaptureSet.setHalf_record
  have hlength := counted_lengthReached hrecord hlast
  generalize hz : ({ x.counted (x.setHalf h y.filled) with state := .overrun } : CaptureSet) = z at htake ⊢
  have hzl : z.lengthReached = false := by
    rw [Bool.eq_false_iff]
    intro hl
    obtain ⟨-, hlen, hdue⟩ := CaptureSet.lengthReached_iff.1 hl
    rw [← hz] at hlen hdue
    exact Bool.false_ne_true (hlength.symm.trans (CaptureSet.lengthReached_iff.2
      ⟨.inl (CaptureSet.setHalf_state.trans hst), hlen, hdue⟩))
  generalize hu : ({ p.setCapture k z with tx := _ } : State) = u at htake
  have hcap : u.capture[k] = z := hu ▸ State.capture_setCapture_self p k z
  have hqueue : ({ set := k, half := h, sent := 0 } : DrainEntry) ∈ u.tx.drain :=
    hu ▸ List.mem_append_right _ (List.mem_singleton_self _)
  have hsetup : u.setup = p.setup := hu ▸ rfl
  have hraised : (raise (.captureOverrun k) u).capture[k] = z := by
    rw [(raise_moves _ _).capture]
    exact hcap
  rw [captureTick_takes vs hx hst ht, htake, lengthReached_stays hraised hzl]
  refine ⟨hraised, hqueue, fun hmask => (raise_flag_iff (.captureOverrun k) u (by have := k.isLt; omega)).2 (.inr ⟨rfl, ?_⟩)⟩
  rw [masked, Event.category_captureOverrun, hsetup]
  exact hmask

/-- The record is the last of the set's length: the set stops and drains. -/
theorem captureTick_ends (hx : p.capture[k] = x) (hst : x.state = .recording) (ht : x.ticksToNext = 0) (hd : x.due = none)
    (hf : (x.half h).state = .filling) (ho : (x.half h.other).state ≠ .filling) (hlast : x.lastDue)
    (hy : x.grown h p.timer.ticks (x.record.sample vs) = y) :
    (captureTick vs k p).capture[k] = { x.counted (x.setHalf h y.filled) with state := .draining }
      ∧ ({ set := k, half := h, sent := 0 } : DrainEntry) ∈ (captureTick vs k p).tx.drain := by
  have hset := State.capture_setCapture_self p k (x.offered (x.record.sample vs))
  have hfill : (x.offered (x.record.sample vs)).filling? = some h := CaptureSet.filling?_of_half _ _ hf ho
  have hreached : ((x.offered (x.record.sample vs)).took h p.timer.ticks (x.record.sample vs)).lengthReached = true := by
    rw [offered_took]
    exact (CaptureSet.took_lengthReached hst _).2 hlast
  have htake := takeRecord_of_room hset hfill fun hfull => Bool.false_ne_true (hfull.2.symm.trans hreached)
  have hyf : (y.state = .filling) ∧ y.records ≠ [] := by
    rw [← hy, CaptureSet.grown_state, CaptureSet.grown_records]
    exact ⟨hf, List.append_ne_nil_of_right_ne_nil _ (List.cons_ne_nil _ _)⟩
  have htook : (x.offered (x.record.sample vs)).took h p.timer.ticks (x.record.sample vs) = x.counted (x.setHalf h y) := by
    rw [offered_took, took_eq_counted hd, hy]
  have hself : (x.counted (x.setHalf h y)).half h = y := by cases h <;> rfl
  have hother : (x.counted (x.setHalf h y)).half h.other = x.half h.other := by cases h <;> rfl
  rw [htook] at hreached
  have hzfill : (x.counted (x.setHalf h y)).filling? = some h :=
    CaptureSet.filling?_of_half _ _ (by rw [hself]; exact hyf.1) (by rw [hother]; exact ho)
  have hactive : (x.counted (x.setHalf h y)).active = true :=
    CaptureSet.active_iff.2 (CaptureSet.lengthReached_iff.1 hreached).1
  rw [captureTick_takes vs hx hst ht, htake, State.setCapture_setCapture]
  generalize hz : (x.offered (x.record.sample vs)).took h _ (x.record.sample vs) = z
  have hzc : z = x.counted (x.setHalf h y) := hz.symm.trans htook
  have hcap := (State.capture_setCapture_self p k z).trans hzc
  rw [lengthReached_stops hcap hreached, stopCapture_of_records hcap hactive hzfill (by rw [hself]; exact hyf.2), hself,
    stopped_eq_counted hd, State.setCapture_setCapture]
  exact ⟨State.capture_setCapture_self p k _, List.mem_append_right _ (List.mem_singleton_self _)⟩

end

end Sys2Proof.Machine
end

section
/-! The record of a recording set at a tick (9.4 to 9.6): from the state the tick's values are offered in to the tick's end. -/

namespace Sys2Proof.Machine

/-- The state in which a tick's values are offered to the capture sets. -/
def State.offering (s : State) : State :=
  watchesTick (tickValues s.judged) (beginDelivery (tickValues s.judged) (takeValues (tickValues s.judged) s.judged))

theorem tickCore_captures (s : State) : tickCore s = meetTick (capturesTick (tickValues s.judged) s.offering) := rfl

/-! ### What the offering state has of the state before -/

section
variable {P : Event → Prop}

theorem watchesTick_beginDelivery (vs : TickValues) (u : State) :
    (watchesTick vs (beginDelivery vs u)).capture = u.capture ∧ (watchesTick vs (beginDelivery vs u)).timer = u.timer
      ∧ (watchesTick vs (beginDelivery vs u)).setup = u.setup := ⟨rfl, rfl, rfl⟩

theorem ValuesMoved.keeps {s t : State} (h : ValuesMoved s t) :
    t.capture = s.capture ∧ t.timer = s.timer ∧ t.setup = s.setup := by
  unfold ValuesMoved at h
  rw [h]
  exact ⟨rfl, rfl, rfl⟩

theorem State.offering_keeps (s : State) :
    s.offering.capture = s.judged.capture ∧ s.offering.timer = s.judged.timer ∧ s.offering.setup = s.setup := by
  obtain ⟨hcap, htimer, hsetup⟩ := (takeValues_moves (tickValues s.judged) s.judged).keeps
  obtain ⟨hcap', htimer', hsetup'⟩ :=
    watchesTick_beginDelivery (tickValues s.judged) (takeValues (tickValues s.judged) s.judged)
  exact ⟨hcap'.trans hcap, htimer'.trans htimer, (hsetup'.trans hsetup).trans (judged_setup s)⟩

theorem not_flow_track_dropped (k : SetNo) :
    ¬ (Event.ofFlow (.counterWrap (ctrRecordsDropped k)) ∨ Event.ofTrack (.counterWrap (ctrRecordsDropped k))) := by
  rintro (h | ⟨u, h⟩)
  · have hval := congrArg Fin.val (show ctrRecordsDropped k = ctrStaleTicks from h)
    simp [ctrRecordsDropped, ctrStaleTicks] at hval
    omega
  · have hval := congrArg Fin.val h
    simp only [ctrRecordsDropped, ctrUnderrunTicks] at hval
    omega

theorem not_ofClip_dropped (k : SetNo) : ¬ Event.ofClip (.counterWrap (ctrRecordsDropped k)) := by
  rintro ⟨c, h⟩
  have hval := congrArg Fin.val h
  simp only [ctrRecordsDropped, ctrClips] at hval
  omega

/-- The count of records dropped of a set is not the other set's. -/
theorem not_ofSet_dropped {k j : SetNo} (hkj : k ≠ j) : ¬ Event.ofSet j (.counterWrap (ctrRecordsDropped k)) := by
  rintro (h | h | h)
  · cases h
  · cases h
  · have hval : 56 + k.val = 56 + j.val := congrArg Fin.val (Event.counterWrap.inj h)
    exact hkj (Fin.ext (by omega))

/-- Up to the captures, a settled tick counts no record dropped. -/
theorem State.Settled.offering_dropped {s : State} (h : s.Settled) (k : SetNo) :
    s.offering.events.counters[ctrRecordsDropped k] = s.events.counters[ctrRecordsDropped k] := by
  have hvalues := (takeValues_logs s.judged (tickValues s.judged)).counters _ (not_ofClip_dropped k)
  have hjudged := h.judged_logs.counters _ (not_flow_track_dropped k)
  rw [State.offering, watchesTick_events]
  exact hvalues.trans hjudged

end

/-! ### Both sets, one after the other -/

/-- Set k takes its event of a tick from state `p`, on the way from `s` to `t`. -/
structure TakesItsEvent (vs : TickValues) (k : SetNo) (s p t : State) : Prop where
  moved : CaptureMoved s p
  set : p.capture[k] = s.capture[k]
  droppedBefore : p.events.counters[ctrRecordsDropped k] = s.events.counters[ctrRecordsDropped k]
  capture : t.capture[k] = (captureTick vs k p).capture[k]
  queue : ∀ e ∈ (captureTick vs k p).tx.drain, e ∈ t.tx.drain
  flags : ∀ f, (captureTick vs k p).events.flags.getLsbD f = true → t.events.flags.getLsbD f = true
  dropped : t.events.counters[ctrRecordsDropped k] = (captureTick vs k p).events.counters[ctrRecordsDropped k]

theorem capturesTick_eq (vs : TickValues) (s : State) : capturesTick vs s = captureTick vs 1 (captureTick vs 0 s) := rfl

/-- A set's event, followed by the other set's. -/
theorem TakesItsEvent.before {vs : TickValues} {k j : SetNo} {s q t : State} (hkj : k ≠ j) (hq : captureTick vs k s = q)
    (hset : OfSet j q t) (hlogs : Logs (Event.ofSet j) q t) : TakesItsEvent vs k s s t := by
  subst hq
  exact ⟨.refl s, rfl, rfl, hset.others k hkj, hset.queue, hlogs.rises, hlogs.counters _ (not_ofSet_dropped hkj)⟩

/-- A set's event, preceded by the other set's. -/
theorem TakesItsEvent.after {vs : TickValues} {k j : SetNo} {s q : State} (hkj : k ≠ j) (hq : q = captureTick vs j s) :
    TakesItsEvent vs k s q (captureTick vs k q) := by
  have hmoved := captureTick_moves vs j s
  have hcap := (captureTick_ofSet s j vs).others k hkj
  have hcount := (captureTick_logs s vs j).counters _ (not_ofSet_dropped hkj)
  rw [← hq] at hmoved hcap hcount
  exact ⟨hmoved, hcap, hcount, Eq.refl _, fun _ => id, fun _ => id, Eq.refl _⟩

theorem capturesTick_set (vs : TickValues) (k : SetNo) (s : State) : ∃ p, TakesItsEvent vs k s p (capturesTick vs s) := by
  rw [capturesTick_eq]
  by_cases hk : k = 0
  · subst hk
    exact ⟨s, .before (j := 1) (by decide) (Eq.refl _) (captureTick_ofSet _ 1 vs) (captureTick_logs _ vs 1)⟩
  · have hk1 : k = 1 := Fin.eq_one_of_ne_zero k hk
    subst hk1
    exact ⟨captureTick vs 0 s, .after (by decide) (Eq.refl _)⟩

/-- What comes after the captures leaves the sets, the queue and what they counted. -/
structure CapturesStand (k : SetNo) (u t : State) : Prop where
  capture : t.capture = u.capture
  drain : t.tx.drain = u.tx.drain
  flags : ∀ f, u.events.flags.getLsbD f = true → t.events.flags.getLsbD f = true
  dropped : t.events.counters[ctrRecordsDropped k] = u.events.counters[ctrRecordsDropped k]

theorem meetTick_captures (k : SetNo) (u : State) : CapturesStand k u (meetTick u) := by
  unfold meetTick
  exact ⟨rfl, rfl, fun _ => id, rfl⟩

theorem scenarioTick_captures (k : SetNo) (u : State) : CapturesStand k u (scenarioTick u) := by
  have hmoved := scenarioTick_scenario u
  have hlogs := (scenarioTick_logs u).logs
  refine ⟨?_, ?_, hlogs.rises, hlogs.counters _ id⟩
  · rw [hmoved]
  · rw [hmoved]

theorem CapturesStand.trans {k : SetNo} {s t u : State} (h : CapturesStand k s t) (h' : CapturesStand k t u) :
    CapturesStand k s u :=
  ⟨h'.capture.trans h.capture, h'.drain.trans h.drain, fun f hf => h'.flags f (h.flags f hf), h'.dropped.trans h.dropped⟩

theorem tick_captures (o : CountOrder) (k : SetNo) (s : State) :
    CapturesStand k (capturesTick (tickValues s.judged) s.offering) (tick o s) := by
  have hcore := meetTick_captures k (capturesTick (tickValues s.judged) s.offering)
  rw [← tickCore_captures] at hcore
  cases o with
  | countFirst => exact hcore.trans (scenarioTick_captures k _)
  | eventsFirst => exact hcore

theorem TakesItsEvent.stands {vs : TickValues} {k : SetNo} {s p u t : State} (hp : TakesItsEvent vs k s p u)
    (h : CapturesStand k u t) : TakesItsEvent vs k s p t := by
  have hcap : t.capture[k] = u.capture[k] := by rw [h.capture]
  exact ⟨hp.moved, hp.set, hp.droppedBefore, hcap.trans hp.capture, fun e he => h.drain ▸ hp.queue e he,
    fun f hf => h.flags f (hp.flags f hf), h.dropped.trans hp.dropped⟩

theorem tick_set (o : CountOrder) (k : SetNo) (s : State) :
    ∃ p, TakesItsEvent (tickValues s.judged) k s.offering p (tick o s) := by
  obtain ⟨p, hp⟩ := capturesTick_set (tickValues s.judged) k s.offering
  exact ⟨p, hp.stands (tick_captures o k s)⟩

/-! ### The record of a tick -/

section
variable {s s0 : State} {o : CountOrder} {c : Instr} {k : SetNo}

/-- A set takes its event of a tick as it stood before it, at the tick counted. -/
theorem State.TickStarts.takes (hstart : s.TickStarts c o s0) (hsettled : s0.Settled) (k : SetNo) :
    ∃ p, TakesItsEvent (tickValues s0.judged) k s0.offering p (tick o s0) ∧ p.capture[k] = s.capture[k]
      ∧ p.timer.ticks = s.timer.ticks + 1 ∧ p.setup = s.setup
      ∧ p.events.counters[ctrRecordsDropped k] = s0.events.counters[ctrRecordsDropped k] := by
  obtain ⟨hsetup, -, -, -, -, hcapture, -, hticks⟩ := hstart.keeps
  obtain ⟨hocapture, hotimer, hosetup⟩ := s0.offering_keeps
  obtain ⟨p, hp⟩ := tick_set o k s0
  have hcap : s0.offering.capture = s.capture := (hocapture.trans hsettled.judged_capture).trans hcapture
  refine ⟨p, hp, hp.set.trans (by rw [hcap]), ?_, ?_, hp.droppedBefore.trans (hsettled.offering_dropped k)⟩
  · rw [hp.moved.timer, hotimer, judged_ticks, hticks]
  · rw [hp.moved.setup, hosetup, hsetup]

end

end Sys2Proof.Machine
end

section
/-! What a tick takes of a capture set's record, set against the frame it delivers (9.4 to 9.6). -/

namespace Sys2Proof.Machine

section
variable {s s0 : State} {o : CountOrder} {c : Instr}

/-- The value a channel offers its INPUT tap at a tick that gives the flow and the presented values of `t`. -/
def State.tickInput (s s0 t : State) (ch : Chan) : Word :=
  let r := s.channels.records[ch]
  if s.enabled ch = false then r.safeValue
  else match r.source with
    | .code => r.insert
    | .track u => (t.track u).presented
    | .live =>
      if t.ingress.flow = .live then s0.ingress.held[ch]
      else match r.starve with | .hold => s0.ingress.held[ch] | .code => r.insert | .safe => r.safeValue

theorem tickInput_eq (hstart : s.TickStarts c o s0) (ch : Chan) :
    s.tickInput s0 (tick o s0) ch = tapValue (tickValues s0.judged) .input ch := by
  unfold State.tickInput
  cases he : s.enabled ch with
  | false => exact (if_pos rfl).trans (inputTap_disabled hstart he).symm
  | true =>
    obtain ⟨hcode, htrack, hheld, hinsert, hsafe⟩ := inputTap_enabled hstart he
    refine (if_neg Bool.noConfusion).trans ?_
    cases hsource : s.channels.records[ch].source with
    | code => exact (hcode hsource).symm
    | track u => exact (htrack u hsource).symm
    | live =>
      by_cases hflow : (tick o s0).ingress.flow = .live
      · exact (if_pos hflow).trans (hheld hsource (.inl hflow)).symm
      · refine (if_neg hflow).trans ?_
        cases hstarve : s.channels.records[ch].starve with
        | hold => exact (hheld hsource (.inr hstarve)).symm
        | code => exact (hinsert hsource hflow hstarve).symm
        | safe => exact (hsafe hsource hflow hstarve).symm

end

/-- Settles O38. -/
theorem tickTakesACaptureRecord : Obligations.TickTakesACaptureRecord := by
  intro s s0 o c k hstart hsettled x hd hnot
  obtain ⟨p, hp, hcap, hticks, hsetup, hcount⟩ := hstart.takes hsettled k
  have hx : p.capture[k] = x := hcap
  refine ⟨tick o s0, _, hstart.exec, tick_sending o s0, ?_⟩
  intro input sample n last counted
  have hsample : x.record.sample (tickValues s0.judged) = sample := by
    refine List.map_congr_left fun ch _ => ?_
    cases x.record.tap with
    | input => exact (tickInput_eq hstart ch).symm
    | output => exact tapValue_output _ ch
  clear_value sample
  generalize tickValues s0.judged = vs at hp hsample
  have hdropped := hp.dropped
  have hcapture := hp.capture
  have hqueue := hp.queue
  have hflags := hp.flags
  generalize tick o s0 = t at hcapture hqueue hflags hdropped
  refine ⟨fun hst ht => ?waits, fun hst => ?passive, fun hst ht ha hb => ?drops, ?takes⟩
  case waits => exact hcapture.trans (captureTick_waits vs hx (CaptureSet.active_iff.2 hst) ht hd hnot)
  case passive =>
    have hpassive : x.active = false := CaptureSet.active_eq_false.2 (by
      rcases hst with h | h | h <;> rw [h] <;> exact ⟨nofun, nofun⟩)
    exact hcapture.trans (captureTick_passive vs hx hpassive hd)
  case drops =>
    obtain ⟨hcounter, hgoes, hends⟩ := captureTick_drops_counter vs hx hst ht hd ha hb
    exact ⟨hdropped.trans (hcounter.trans (by rw [hcount])), fun hl => hcapture.trans (hgoes hl),
      fun hl => hcapture.trans (hends hl)⟩
  case takes =>
    intro h hst ht hf ho y queued
    have hy : x.grown h p.timer.ticks (x.record.sample vs) = y := by rw [hticks, hsample, CaptureSet.grown_eq]
    refine ⟨fun hl hroom => ?joins, fun hl hroom => ⟨?queued, fun hv => ?turns, fun hfull => ?overruns⟩, fun hl => ?ends⟩
    case joins => exact hcapture.trans (captureTick_joins vs hx hst ht hd hf ho hl hy hroom)
    case queued =>
      refine hqueue _ ?_
      cases hother : (x.half h.other).state with
      | filling => exact absurd hother ho
      | vacant => exact (captureTick_turns vs hx hst ht hd hf hother hl hy hroom).2
      | full => exact (captureTick_overruns vs hx hst ht hd hf hother hl hy hroom).2.1
    case turns => exact hcapture.trans (captureTick_turns vs hx hst ht hd hf hv hl hy hroom).1
    case overruns =>
      obtain ⟨hset, -, hflag⟩ := captureTick_overruns vs hx hst ht hd hf hfull hl hy hroom
      exact ⟨hcapture.trans hset, fun hmask => hflags _ (hflag (hsetup ▸ hmask))⟩
    case ends =>
      obtain ⟨hset, hq⟩ := captureTick_ends vs hx hst ht hd hf ho hl hy
      exact ⟨hqueue _ hq, hcapture.trans hset⟩

end Sys2Proof.Machine
end
